-- ==== Sys2Proof/Word.lean ====
section
/-! DEFINITION. The word types of the links and the two whole-number roundings of the manual (section 3.1 of 00_scope.md). -/

namespace Sys2Proof

/-- One byte on a link (chapter 11: eight data bits). -/
abbrev Byte := BitVec 8

/-- A sixteen-bit quantity: the check word of R178 and the two-byte fields of section 11.1. -/
abbrev Word16 := BitVec 16

/-- The quotient rounded up to the next whole number. -/
def ceilDiv (a b : Nat) : Nat := (a + b - 1) / b

/-- A number as one byte. -/
def byteOf (n : Nat) : Byte := BitVec.ofNat 8 n

/-- The two bytes of a word, least significant first (section 11.1). -/
def wordBytes (w : Word16) : List Byte := [w.extractLsb' 0 8, w.extractLsb' 8 8]

/-- An unsigned two-byte field, least significant byte first. -/
def u16 (n : Nat) : List Byte := wordBytes (BitVec.ofNat 16 n)

/-- A two's-complement two-byte field, least significant byte first. -/
def i16 (n : Int) : List Byte := wordBytes (BitVec.ofInt 16 n)

end Sys2Proof
end

