-- ==== Sys2Proof/Config.lean ====
section
/-! DEFINITION. What the manual fixes for every CF-640 (its fixed times and limits, each with its rule), and the one
choice it leaves open: which of several timers that run out together is taken first. Times are in milliseconds. -/

namespace Sys2Proof.Config

/-- Where several timers run out at one moment the manual says that any of them may be taken first (R52, R76, R91,
R114, R143, R148, R149, R155, R160). The choice is a free value: nothing constrains it (log entry 3). -/
opaque tieChoice : Nat → Nat

/-- R177: the gap that ends a frame. -/
def frameGap : Nat := 5
/-- R177: the longest payload of a request. -/
def maxPayload : Nat := 32
/-- Chapter 11: bits of one character, start bit, eight data bits, stop bit. -/
def bitsPerChar : Nat := 10
/-- Chapter 11: the line rate in bits per second. -/
def bitRate : Nat := 57600
/-- R164: the period at exponent 0. -/
def keepAliveUnit : Nat := 250
/-- R27, R29: the fault count at which a channel is degraded, and where the count stops. -/
def faultLimit : Nat := 21
/-- R46: where the gap timer stops. -/
def gapStop : Nat := 3600000
/-- Note 2 of Table 03-1 and R51: the fleece stall time. -/
def fleeceStall : Nat := 5000
/-- R54: the greatest fleece length taken. -/
def fleeceMax : Nat := 30000
/-- R135: the save timer. -/
def saveTime : Nat := 400
/-- R138: the time of one conversion. -/
def conversionTime : Nat := 100
/-- R142: the length of a shaft window. -/
def shaftWindow : Nat := 500
/-- R142: where a window's pulse count stops. -/
def shaftCountMax : Nat := 65535
/-- R144: where the chute count stops. -/
def chuteCountMax : Nat := 999999
/-- R145: the confirmation time of the INDEX sensor. -/
def indexConfirm : Nat := 20
/-- R148: the ride-through of the field-supply monitor. -/
def dipTime : Nat := 80
/-- R149: the recovery time of the field-supply monitor. -/
def recoveryTime : Nat := 2000
/-- R147: below this many tenths of a volt the supply reads LOW. -/
def supplyLowBelow : Nat := 190
/-- R147: at or above this many tenths of a volt the supply reads GOOD. -/
def supplyGoodFrom : Nat := 200
/-- R152: the valve period. -/
def valvePeriod : Nat := 1000
/-- R75: the mass to which a measured mass is cut. -/
def massMax : Nat := 2000
/-- R103, R120: where a fill and the reject mass stop. -/
def fillMax : Nat := 65535
/-- R81, R83: the last lot number before the counter returns to 1. -/
def lotMax : Nat := 65535
/-- R84: the greatest span of a lot or reservation. -/
def spanMax : Nat := 4
/-- R113: the greatest feed time, in seconds. -/
def feedMax : Nat := 3600
/-- Table 01-1: the fixed ceiling of the wash circuits. -/
def washCeiling : Nat := 250

end Sys2Proof.Config
end

