-- ==== Sys2Proof/Syntax.lean ====
section
/-! DEFINITION. The commands of the CF-640: one constructor of `Instr` per row of spec/opcode_table.json, with the row's
operands. Beside them the names that operands use: stations, ports, allotment slots and valve channels. -/

namespace Sys2Proof

/-- Stations 1 to 6 (section 3.2 of 00_scope.md). -/
inductive Station
  | s1 | s2 | s3 | s4 | s5 | s6
  deriving DecidableEq, Repr

/-- The seven link ports, S1 to S6 and H (section 3.2 of 00_scope.md). -/
inductive Port
  | station (s : Station)
  | hall
  deriving DecidableEq, Repr

/-- The two circuits of a station (Table 01-1). -/
inductive StationCircuit
  | spindle | flood
  deriving DecidableEq, Repr

/-- The 14 allotment slots of Table 01-1, which are also the 14 valve channels. -/
inductive Slot
  | station (s : Station) (c : StationCircuit)
  | wash1
  | wash2
  deriving DecidableEq, Repr

/-- The commands. A request is a complete frame of that kind on a port, with its tag and payload bytes (chapter 11).
`deciVolts` is the field supply in tenths of a volt (R147); `raw` is the raw code of a conversion (R140). -/
inductive Instr
  /-- STATUS (R171). -/
  | status (port : Port) (tag : Byte) (payload : List Byte)
  /-- RANGE (R132). -/
  | range (port : Port) (tag : Byte) (payload : List Byte)
  /-- KEEP_A (R165). -/
  | keepA (port : Port) (tag : Byte) (payload : List Byte)
  /-- KEEP_B (R165). -/
  | keepB (port : Port) (tag : Byte) (payload : List Byte)
  /-- COOLANT_ASK (R4). -/
  | coolantAsk (port : Port) (tag : Byte) (payload : List Byte)
  /-- COOLANT_END (R9). -/
  | coolantEnd (port : Port) (tag : Byte) (payload : List Byte)
  /-- DISCHARGE_ASK (R62). -/
  | dischargeAsk (port : Port) (tag : Byte) (payload : List Byte)
  /-- DISCHARGE_GO (R68). -/
  | dischargeGo (port : Port) (tag : Byte) (payload : List Byte)
  /-- DISCHARGE_DONE (R72). -/
  | dischargeDone (port : Port) (tag : Byte) (payload : List Byte)
  /-- DISCHARGE_CANCEL (R64). -/
  | dischargeCancel (port : Port) (tag : Byte) (payload : List Byte)
  /-- TABLE_READ (R22). -/
  | tableRead (port : Port) (tag : Byte) (payload : List Byte)
  /-- LOT_READ (R102). -/
  | lotRead (port : Port) (tag : Byte) (payload : List Byte)
  /-- PROFILE_READ (R127). -/
  | profileRead (port : Port) (tag : Byte) (payload : List Byte)
  /-- PROFILE_WRITE (R128). -/
  | profileWrite (port : Port) (tag : Byte) (payload : List Byte)
  /-- PROFILE_LOAD (R134). -/
  | profileLoad (port : Port) (tag : Byte) (payload : List Byte)
  /-- PROFILE_SAVE (R135). -/
  | profileSave (port : Port) (tag : Byte) (payload : List Byte)
  /-- BACKWASH_NOW (R55). -/
  | backwashNow (port : Port) (tag : Byte) (payload : List Byte)
  /-- INDEX_NOW (R56). -/
  | indexNow (port : Port) (tag : Byte) (payload : List Byte)
  /-- FLEECE_LOADED (R54). -/
  | fleeceLoaded (port : Port) (tag : Byte) (payload : List Byte)
  /-- HOLD (R93). -/
  | hold (port : Port) (tag : Byte) (payload : List Byte)
  /-- RELEASE (R94). -/
  | release (port : Port) (tag : Byte) (payload : List Byte)
  /-- RESUME (R95). -/
  | resume (port : Port) (tag : Byte) (payload : List Byte)
  /-- RING_CLEARED (R98). -/
  | ringCleared (port : Port) (tag : Byte) (payload : List Byte)
  /-- RING_FLUSH (R99). -/
  | ringFlush (port : Port) (tag : Byte) (payload : List Byte)
  /-- SET_POCKET_LIMIT (R96). -/
  | setPocketLimit (port : Port) (tag : Byte) (payload : List Byte)
  /-- CAROUSEL_RETRY (R92). -/
  | carouselRetry (port : Port) (tag : Byte) (payload : List Byte)
  /-- CRUSHER_CLEAR (R118). -/
  | crusherClear (port : Port) (tag : Byte) (payload : List Byte)
  /-- BIN_EMPTIED (R120). -/
  | binEmptied (port : Port) (tag : Byte) (payload : List Byte)
  /-- STATION_WATCH (R168). -/
  | stationWatch (port : Port) (tag : Byte) (payload : List Byte)
  /-- EVENT_LEVEL (R172). -/
  | eventLevel (port : Port) (tag : Byte) (payload : List Byte)
  /-- LINE_STOP (R173). -/
  | lineStop (port : Port) (tag : Byte) (payload : List Byte)
  /-- LINE_RESUME (R173). -/
  | lineResume (port : Port) (tag : Byte) (payload : List Byte)
  /-- LINE_RESTART (R176). -/
  | lineRestart (port : Port) (tag : Byte) (payload : List Byte)
  /-- FRAME_DISCARDED (R177). -/
  | frameDiscarded (port : Port) (frame : List Byte)
  /-- FRAME_GAP_TIMEOUT (R177). -/
  | frameGapTimeout (port : Port)
  /-- OWED_BUSY_FRAME (R179). -/
  | owedBusyFrame (port : Port) (tag kind : Byte) (payload : List Byte)
  /-- CONVERSION_COMPLETION (R140). -/
  | conversionCompletion (raw : BitVec 12)
  /-- ARBITRATION (R65). -/
  | arbitration
  /-- OFFER_WINDOW_EXPIRY (R69). -/
  | offerWindowExpiry
  /-- GATE_WINDOW_EXPIRY (R73). -/
  | gateWindowExpiry
  /-- DUMP_TIMER_EXPIRY (R76). -/
  | dumpTimerExpiry
  /-- INDEX_START (R88). -/
  | indexStart
  /-- INDEX_SENSOR_MADE (R145). -/
  | indexSensorMade
  /-- INDEX_SENSOR_CLEAR (R145). -/
  | indexSensorClear
  /-- INDEX_EDGE (R145). -/
  | indexEdge
  /-- STEP_TIMER_EXPIRY (R91). -/
  | stepTimerExpiry
  /-- FEED_EVALUATION (R105). -/
  | feedEvaluation
  /-- RUN_UP_EXPIRY (R109). -/
  | runUpExpiry
  /-- PURGE_EXPIRY (R108). -/
  | purgeExpiry
  /-- IDLE_EXPIRY (R110). -/
  | idleExpiry
  /-- RUN_DOWN_EXPIRY (R110). -/
  | runDownExpiry
  /-- REVERSE_EXPIRY (R116). -/
  | reverseExpiry
  /-- END_OF_FEED (R114). -/
  | endOfFeed
  /-- END_OF_TRANSIT (R119). -/
  | endOfTransit
  /-- SHAFT_PULSE (R142). -/
  | shaftPulse
  /-- SHAFT_WINDOW_END (R143). -/
  | shaftWindowEnd
  /-- CHUTE_PULSE (R144). -/
  | chutePulse
  /-- FLEECE_METER_PULSE (R51). -/
  | fleeceMeterPulse
  /-- FLEECE_STALL_EXPIRY (R52). -/
  | fleeceStallExpiry
  /-- BACKWASH_TIMER_EXPIRY (R48). -/
  | backwashTimerExpiry
  /-- SETTLE_TIMER_EXPIRY (R50). -/
  | settleTimerExpiry
  /-- GAP_TIMER_EXPIRY (R46). -/
  | gapTimerExpiry
  /-- PENDING_BACKWASH_START (R45). -/
  | pendingBackwashStart
  /-- SPRAY_TOGGLE_EXPIRY (R160). -/
  | sprayToggleExpiry
  /-- PERIOD_END (R155). -/
  | periodEnd
  /-- SAVE_TIMER_EXPIRY (R135). -/
  | saveTimerExpiry
  /-- KEEPALIVE_PERIOD_EXPIRY (R166). -/
  | keepalivePeriodExpiry (station : Station)
  /-- FIELD_SUPPLY_FALL (R148). -/
  | fieldSupplyFall (deciVolts : Nat)
  /-- FIELD_SUPPLY_RETURN (R149). -/
  | fieldSupplyReturn (deciVolts : Nat)
  /-- DIP_TIMER_EXPIRY (R148). -/
  | dipTimerExpiry
  /-- RECOVERY_TIMER_EXPIRY (R149). -/
  | recoveryTimerExpiry
  /-- POWER_ON (R175). -/
  | powerOn (deciVolts : Nat) (sensorMade : Bool)
  /-- LOGIC_SUPPLY_LOSS (R137). -/
  | logicSupplyLoss
  /-- RECEIVED_BYTE (R177). -/
  | receivedByte (port : Port) (byte : Byte)
  /-- ABSENT_KIND_REQUEST (R180). -/
  | absentKindRequest (port : Port) (tag code : Byte) (payload : List Byte)
  /-- REPLY_TRANSMISSION_END (R177). -/
  | replyTransmissionEnd (port : Port)
  /-- APPLIED_DUTY_ELAPSED (R156). -/
  | appliedDutyElapsed (channel : Slot)
  deriving DecidableEq, Repr

end Sys2Proof
end

