-- ==== Sys2Proof/Machine/Maps.lean ====
section
/-! DEFINITION. Finite maps with one named place per key: stations, ports, sources, slots, event kinds, materials.
They are plain data of fixed size, so two equal maps are equal data. -/

namespace Sys2Proof.Machine

/-- The sources of a discharge: stations 1 to 6 and the sludge trough, source 7 (section 3.2 of 00_scope.md). -/
inductive Source
  | station (s : Station)
  | sludge
  deriving DecidableEq, Repr

/-- The hall event kinds, in the order of their numbers in Table 10-2. -/
inductive HallKind
  | safeStop | levelCritical | crusherBlocked | carouselFault | jam | binFull | fleeceOut
  | fleeceStall | fleeceLow | backwashDeferred | sensorFault | stationLapsed | stationLost | profileSaved
  deriving DecidableEq, Repr

/-- The station event kinds, in the order of their numbers in Table 10-2. -/
inductive StationKind
  | grantChanged | offerMade | offerWithdrawn | offerLapsed | gateTimedOut | lotCrushed | lotRejected | keepaliveLapsed
  deriving DecidableEq, Repr

/-- The writable materials 1 to 8 (R126). -/
inductive Material
  | m1 | m2 | m3 | m4 | m5 | m6 | m7 | m8
  deriving DecidableEq, Repr

/-- One value for each station. -/
structure PerStation (α : Type) where
  s1 : α
  s2 : α
  s3 : α
  s4 : α
  s5 : α
  s6 : α
  deriving DecidableEq, Repr

/-- The value kept for one key. -/
def PerStation.get {α : Type} (m : PerStation α) : Station → α
  | .s1 => m.s1
  | .s2 => m.s2
  | .s3 => m.s3
  | .s4 => m.s4
  | .s5 => m.s5
  | .s6 => m.s6

/-- The map with the value of one key replaced. -/
def PerStation.set {α : Type} (m : PerStation α) (k : Station) (a : α) : PerStation α :=
  match k with
  | .s1 => { m with s1 := a }
  | .s2 => { m with s2 := a }
  | .s3 => { m with s3 := a }
  | .s4 => { m with s4 := a }
  | .s5 => { m with s5 := a }
  | .s6 => { m with s6 := a }

/-- The map that holds the same value for every key. -/
def PerStation.same {α : Type} (a : α) : PerStation α :=
  ⟨a, a, a, a, a, a⟩

/-- The map with every value replaced by a function of its key and itself. -/
def PerStation.mapKeys {α β : Type} (f : Station → α → β) (m : PerStation α) : PerStation β :=
  ⟨f .s1 m.s1, f .s2 m.s2, f .s3 m.s3, f .s4 m.s4, f .s5 m.s5, f .s6 m.s6⟩

/-- One value for each hall event kind. -/
structure PerHallKind (α : Type) where
  safeStop : α
  levelCritical : α
  crusherBlocked : α
  carouselFault : α
  jam : α
  binFull : α
  fleeceOut : α
  fleeceStall : α
  fleeceLow : α
  backwashDeferred : α
  sensorFault : α
  stationLapsed : α
  stationLost : α
  profileSaved : α
  deriving DecidableEq, Repr

/-- The value kept for one key. -/
def PerHallKind.get {α : Type} (m : PerHallKind α) : HallKind → α
  | .safeStop => m.safeStop
  | .levelCritical => m.levelCritical
  | .crusherBlocked => m.crusherBlocked
  | .carouselFault => m.carouselFault
  | .jam => m.jam
  | .binFull => m.binFull
  | .fleeceOut => m.fleeceOut
  | .fleeceStall => m.fleeceStall
  | .fleeceLow => m.fleeceLow
  | .backwashDeferred => m.backwashDeferred
  | .sensorFault => m.sensorFault
  | .stationLapsed => m.stationLapsed
  | .stationLost => m.stationLost
  | .profileSaved => m.profileSaved

/-- The map with the value of one key replaced. -/
def PerHallKind.set {α : Type} (m : PerHallKind α) (k : HallKind) (a : α) : PerHallKind α :=
  match k with
  | .safeStop => { m with safeStop := a }
  | .levelCritical => { m with levelCritical := a }
  | .crusherBlocked => { m with crusherBlocked := a }
  | .carouselFault => { m with carouselFault := a }
  | .jam => { m with jam := a }
  | .binFull => { m with binFull := a }
  | .fleeceOut => { m with fleeceOut := a }
  | .fleeceStall => { m with fleeceStall := a }
  | .fleeceLow => { m with fleeceLow := a }
  | .backwashDeferred => { m with backwashDeferred := a }
  | .sensorFault => { m with sensorFault := a }
  | .stationLapsed => { m with stationLapsed := a }
  | .stationLost => { m with stationLost := a }
  | .profileSaved => { m with profileSaved := a }

/-- The map that holds the same value for every key. -/
def PerHallKind.same {α : Type} (a : α) : PerHallKind α :=
  ⟨a, a, a, a, a, a, a, a, a, a, a, a, a, a⟩

/-- The map with every value replaced by a function of its key and itself. -/
def PerHallKind.mapKeys {α β : Type} (f : HallKind → α → β) (m : PerHallKind α) : PerHallKind β :=
  ⟨f .safeStop m.safeStop, f .levelCritical m.levelCritical, f .crusherBlocked m.crusherBlocked,
      f .carouselFault m.carouselFault, f .jam m.jam, f .binFull m.binFull, f .fleeceOut m.fleeceOut,
      f .fleeceStall m.fleeceStall, f .fleeceLow m.fleeceLow, f .backwashDeferred m.backwashDeferred,
      f .sensorFault m.sensorFault, f .stationLapsed m.stationLapsed, f .stationLost m.stationLost,
      f .profileSaved m.profileSaved⟩

/-- One value for each station event kind. -/
structure PerStationKind (α : Type) where
  grantChanged : α
  offerMade : α
  offerWithdrawn : α
  offerLapsed : α
  gateTimedOut : α
  lotCrushed : α
  lotRejected : α
  keepaliveLapsed : α
  deriving DecidableEq, Repr

/-- The value kept for one key. -/
def PerStationKind.get {α : Type} (m : PerStationKind α) : StationKind → α
  | .grantChanged => m.grantChanged
  | .offerMade => m.offerMade
  | .offerWithdrawn => m.offerWithdrawn
  | .offerLapsed => m.offerLapsed
  | .gateTimedOut => m.gateTimedOut
  | .lotCrushed => m.lotCrushed
  | .lotRejected => m.lotRejected
  | .keepaliveLapsed => m.keepaliveLapsed

/-- The map with the value of one key replaced. -/
def PerStationKind.set {α : Type} (m : PerStationKind α) (k : StationKind) (a : α) : PerStationKind α :=
  match k with
  | .grantChanged => { m with grantChanged := a }
  | .offerMade => { m with offerMade := a }
  | .offerWithdrawn => { m with offerWithdrawn := a }
  | .offerLapsed => { m with offerLapsed := a }
  | .gateTimedOut => { m with gateTimedOut := a }
  | .lotCrushed => { m with lotCrushed := a }
  | .lotRejected => { m with lotRejected := a }
  | .keepaliveLapsed => { m with keepaliveLapsed := a }

/-- The map that holds the same value for every key. -/
def PerStationKind.same {α : Type} (a : α) : PerStationKind α :=
  ⟨a, a, a, a, a, a, a, a⟩

/-- The map with every value replaced by a function of its key and itself. -/
def PerStationKind.mapKeys {α β : Type} (f : StationKind → α → β) (m : PerStationKind α) : PerStationKind β :=
  ⟨f .grantChanged m.grantChanged, f .offerMade m.offerMade, f .offerWithdrawn m.offerWithdrawn,
      f .offerLapsed m.offerLapsed, f .gateTimedOut m.gateTimedOut, f .lotCrushed m.lotCrushed,
      f .lotRejected m.lotRejected, f .keepaliveLapsed m.keepaliveLapsed⟩

/-- One value for each material 1 to 8. -/
structure PerMaterial (α : Type) where
  m1 : α
  m2 : α
  m3 : α
  m4 : α
  m5 : α
  m6 : α
  m7 : α
  m8 : α
  deriving DecidableEq, Repr

/-- The value kept for one key. -/
def PerMaterial.get {α : Type} (m : PerMaterial α) : Material → α
  | .m1 => m.m1
  | .m2 => m.m2
  | .m3 => m.m3
  | .m4 => m.m4
  | .m5 => m.m5
  | .m6 => m.m6
  | .m7 => m.m7
  | .m8 => m.m8

/-- The map with the value of one key replaced. -/
def PerMaterial.set {α : Type} (m : PerMaterial α) (k : Material) (a : α) : PerMaterial α :=
  match k with
  | .m1 => { m with m1 := a }
  | .m2 => { m with m2 := a }
  | .m3 => { m with m3 := a }
  | .m4 => { m with m4 := a }
  | .m5 => { m with m5 := a }
  | .m6 => { m with m6 := a }
  | .m7 => { m with m7 := a }
  | .m8 => { m with m8 := a }

/-- The map that holds the same value for every key. -/
def PerMaterial.same {α : Type} (a : α) : PerMaterial α :=
  ⟨a, a, a, a, a, a, a, a⟩

/-- The map with every value replaced by a function of its key and itself. -/
def PerMaterial.mapKeys {α β : Type} (f : Material → α → β) (m : PerMaterial α) : PerMaterial β :=
  ⟨f .m1 m.m1, f .m2 m.m2, f .m3 m.m3, f .m4 m.m4, f .m5 m.m5, f .m6 m.m6, f .m7 m.m7, f .m8 m.m8⟩

/-- One value for each port. -/
structure PerPort (α : Type) where
  stations : PerStation α
  hall : α
  deriving DecidableEq, Repr

/-- The value kept for one port. -/
def PerPort.get {α : Type} (m : PerPort α) : Port → α
  | .station s => m.stations.get s
  | .hall => m.hall

/-- The map with the value of one port replaced. -/
def PerPort.set {α : Type} (m : PerPort α) (p : Port) (a : α) : PerPort α :=
  match p with
  | .station s => { m with stations := m.stations.set s a }
  | .hall => { m with hall := a }

/-- The map that holds the same value for every port. -/
def PerPort.same {α : Type} (a : α) : PerPort α := ⟨.same a, a⟩

/-- The map with every value replaced by a function of its port and itself. -/
def PerPort.mapKeys {α β : Type} (f : Port → α → β) (m : PerPort α) : PerPort β :=
  ⟨m.stations.mapKeys (fun s => f (.station s)), f .hall m.hall⟩

/-- One value for each discharge source. -/
structure PerSource (α : Type) where
  stations : PerStation α
  sludge : α
  deriving DecidableEq, Repr

/-- The value kept for one source. -/
def PerSource.get {α : Type} (m : PerSource α) : Source → α
  | .station s => m.stations.get s
  | .sludge => m.sludge

/-- The map with the value of one source replaced. -/
def PerSource.set {α : Type} (m : PerSource α) (k : Source) (a : α) : PerSource α :=
  match k with
  | .station s => { m with stations := m.stations.set s a }
  | .sludge => { m with sludge := a }

/-- The map that holds the same value for every source. -/
def PerSource.same {α : Type} (a : α) : PerSource α := ⟨.same a, a⟩

/-- The map with every value replaced by a function of its source and itself. -/
def PerSource.mapKeys {α β : Type} (f : Source → α → β) (m : PerSource α) : PerSource β :=
  ⟨m.stations.mapKeys (fun s => f (.station s)), f .sludge m.sludge⟩

/-- One value for each allotment slot or valve channel. -/
structure PerSlot (α : Type) where
  spindle : PerStation α
  flood : PerStation α
  wash1 : α
  wash2 : α
  deriving DecidableEq, Repr

/-- The value kept for one slot. -/
def PerSlot.get {α : Type} (m : PerSlot α) : Slot → α
  | .station s .spindle => m.spindle.get s
  | .station s .flood => m.flood.get s
  | .wash1 => m.wash1
  | .wash2 => m.wash2

/-- The map with the value of one slot replaced. -/
def PerSlot.set {α : Type} (m : PerSlot α) (k : Slot) (a : α) : PerSlot α :=
  match k with
  | .station s .spindle => { m with spindle := m.spindle.set s a }
  | .station s .flood => { m with flood := m.flood.set s a }
  | .wash1 => { m with wash1 := a }
  | .wash2 => { m with wash2 := a }

/-- The map that holds the same value for every slot. -/
def PerSlot.same {α : Type} (a : α) : PerSlot α := ⟨.same a, .same a, a, a⟩

/-- The map with every value replaced by a function of its slot and itself. -/
def PerSlot.mapKeys {α β : Type} (f : Slot → α → β) (m : PerSlot α) : PerSlot β :=
  ⟨m.spindle.mapKeys (fun s => f (.station s .spindle)), m.flood.mapKeys (fun s => f (.station s .flood)),
    f .wash1 m.wash1, f .wash2 m.wash2⟩

/-- The six stations in order. -/
def allStations : List Station := [.s1, .s2, .s3, .s4, .s5, .s6]

/-- The seven ports in order, S1 to S6 and then H. -/
def allPorts : List Port := allStations.map .station ++ [.hall]

/-- The seven discharge sources in order of their numbers. -/
def allSources : List Source := allStations.map .station ++ [.sludge]

/-- The 14 slots in order of their numbers (Table 01-1). -/
def allSlots : List Slot :=
  allStations.flatMap (fun s => [.station s .spindle, .station s .flood]) ++ [.wash1, .wash2]

/-- The hall kinds in order of their numbers (Table 10-2). -/
def allHallKinds : List HallKind :=
  [.safeStop, .levelCritical, .crusherBlocked, .carouselFault, .jam, .binFull, .fleeceOut,
   .fleeceStall, .fleeceLow, .backwashDeferred, .sensorFault, .stationLapsed, .stationLost, .profileSaved]

/-- The station kinds in order of their numbers (Table 10-2). -/
def allStationKinds : List StationKind :=
  [.grantChanged, .offerMade, .offerWithdrawn, .offerLapsed, .gateTimedOut, .lotCrushed, .lotRejected, .keepaliveLapsed]

/-- Materials 1 to 8 in order. -/
def allMaterials : List Material := [.m1, .m2, .m3, .m4, .m5, .m6, .m7, .m8]

/-- A station's number. -/
def stationNumber : Station → Nat
  | .s1 => 1 | .s2 => 2 | .s3 => 3 | .s4 => 4 | .s5 => 5 | .s6 => 6

/-- The station of a number, 1 to 6. -/
def stationOfNumber : Nat → Option Station
  | 1 => some .s1 | 2 => some .s2 | 3 => some .s3 | 4 => some .s4 | 5 => some .s5 | 6 => some .s6
  | _ => none

/-- A material's number. -/
def materialNumber : Material → Nat
  | .m1 => 1 | .m2 => 2 | .m3 => 3 | .m4 => 4 | .m5 => 5 | .m6 => 6 | .m7 => 7 | .m8 => 8

/-- The material of a number, 1 to 8. -/
def materialOfNumber : Nat → Option Material
  | 1 => some .m1 | 2 => some .m2 | 3 => some .m3 | 4 => some .m4
  | 5 => some .m5 | 6 => some .m6 | 7 => some .m7 | 8 => some .m8
  | _ => none

/-- A slot's number in Table 01-1. -/
def slotNumber : Slot → Nat
  | .station s .spindle => 2 * stationNumber s - 1
  | .station s .flood => 2 * stationNumber s
  | .wash1 => 13
  | .wash2 => 14

/-- The slot of a number, 1 to 14. -/
def slotOfNumber (n : Nat) : Option Slot := if n = 0 then none else allSlots[n - 1]?

/-- A hall kind's number in Table 10-2. -/
def hallKindNumber : HallKind → Nat
  | .safeStop => 1
  | .levelCritical => 2
  | .crusherBlocked => 3
  | .carouselFault => 4
  | .jam => 5
  | .binFull => 6
  | .fleeceOut => 7
  | .fleeceStall => 8
  | .fleeceLow => 9
  | .backwashDeferred => 10
  | .sensorFault => 11
  | .stationLapsed => 12
  | .stationLost => 13
  | .profileSaved => 14

/-- The hall kind of a number, 1 to 14. -/
def hallKindOfNumber (n : Nat) : Option HallKind := if n = 0 then none else allHallKinds[n - 1]?

/-- A station kind's number in Table 10-2. -/
def stationKindNumber : StationKind → Nat
  | .grantChanged => 1
  | .offerMade => 2
  | .offerWithdrawn => 3
  | .offerLapsed => 4
  | .gateTimedOut => 5
  | .lotCrushed => 6
  | .lotRejected => 7
  | .keepaliveLapsed => 8

/-- A source's number (section 3.2 of 00_scope.md). -/
def sourceNumber : Source → Nat
  | .station s => stationNumber s
  | .sludge => 7

end Sys2Proof.Machine
end

