-- ==== Sys2Proof/Machine/Profile.lean ====
section
/-! DEFINITION. The writable items of chapter 7: the profile (a working copy or a parameter set), the item numbers, their
ranges and their set 0 values (Tables 07-1 to 07-5), and reading and writing an item of a profile. -/

namespace Sys2Proof.Machine

/-- The families of crushable material, LIGHT, FERROUS and HARD, coded 1, 2, 3 (Table 07-1). -/
inductive ChipFamily
  | light | ferrous | hard
  deriving DecidableEq, Repr

/-- The forms of material, SHORT, STRINGY and FINES, coded 1, 2, 3 (Table 07-1). -/
inductive Form
  | short | stringy | fines
  deriving DecidableEq, Repr

/-- The fields of a material entry 1 to 8 (Table 07-1). -/
structure MaterialEntry where
  inUse : Bool
  family : ChipFamily
  form : Form
  rate : Nat
  speed : Nat
  stall : Nat
  purge : Nat
  deriving DecidableEq, Repr

/-- The items of one station (Table 07-4). -/
structure StationItems where
  floodLimit : Nat
  spindleLimit : Nat
  keepExponent : Nat
  watchEnabled : Bool
  deriving DecidableEq, Repr

/-- The line parameters, items 1 to 41 (Table 07-3). -/
structure LineParams where
  /-- Crated. -/
  crated : Nat
  /-- DPclean. -/
  dpClean : Nat
  /-- DPtrigger. -/
  dpTrigger : Nat
  /-- DPlimit. -/
  dpLimit : Nat
  /-- BWkeep. -/
  bwKeep : Nat
  /-- Lmin. -/
  lMin : Nat
  /-- Llo. -/
  lLo : Nat
  /-- Lhi. -/
  lHi : Nat
  /-- H. -/
  hyst : Nat
  /-- Bmax. -/
  bMax : Nat
  /-- Pmax. -/
  pMax : Nat
  /-- S. -/
  supplyStep : Nat
  /-- Lfull. -/
  lFull : Nat
  /-- DPindex. -/
  dpIndex : Nat
  /-- BWgap, s. -/
  bwGap : Nat
  /-- BWtime, s. -/
  bwTime : Nat
  /-- Tsettle, s. -/
  tSettle : Nat
  /-- Msludge, kg. -/
  mSludge : Nat
  /-- Lidx, cm. -/
  lIdx : Nat
  /-- Lwarn, cm. -/
  lWarn : Nat
  /-- Tspray, ms. -/
  tSpray : Nat
  /-- Toffer, s. -/
  tOffer : Nat
  /-- Tgate, s. -/
  tGate : Nat
  /-- Tdump, s. -/
  tDump : Nat
  /-- PPK. -/
  ppk : Nat
  /-- Mpocket, kg. -/
  mPocket : Nat
  /-- N. -/
  inService : Nat
  /-- Tidx, s. -/
  tIdx : Nat
  /-- Trunup, s. -/
  tRunUp : Nat
  /-- Trundown, s. -/
  tRunDown : Nat
  /-- Trev, s. -/
  tRev : Nat
  /-- Tidle, s. -/
  tIdle : Nat
  /-- Ttransit, s. -/
  tTransit : Nat
  /-- Nretry. -/
  nRetry : Nat
  /-- Cbin LIGHT, kg. -/
  cBinLight : Nat
  /-- Cbin FERROUS, kg. -/
  cBinFerrous : Nat
  /-- Cbin HARD, kg. -/
  cBinHard : Nat
  /-- Cbin SLUDGE, kg. -/
  cBinSludge : Nat
  /-- ppr. -/
  ppr : Nat
  /-- DP calibration. -/
  dpCal : Int
  /-- LEVEL calibration. -/
  levelCal : Int
  deriving DecidableEq, Repr

/-- A value for every writable item: the working copy or a parameter set (R125, R133). -/
structure Profile where
  line : LineParams
  stations : PerStation StationItems
  vmax : PerSlot Nat
  levels : PerHallKind Nat
  materials : PerMaterial MaterialEntry
  deriving DecidableEq, Repr

/-- The names of items 1 to 41. -/
inductive LineItem
  | crated
  | dpClean
  | dpTrigger
  | dpLimit
  | bwKeep
  | lMin
  | lLo
  | lHi
  | hyst
  | bMax
  | pMax
  | supplyStep
  | lFull
  | dpIndex
  | bwGap
  | bwTime
  | tSettle
  | mSludge
  | lIdx
  | lWarn
  | tSpray
  | tOffer
  | tGate
  | tDump
  | ppk
  | mPocket
  | inService
  | tIdx
  | tRunUp
  | tRunDown
  | tRev
  | tIdle
  | tTransit
  | nRetry
  | cBinLight
  | cBinFerrous
  | cBinHard
  | cBinSludge
  | ppr
  | dpCal
  | levelCal
  deriving DecidableEq, Repr

/-- Items 1 to 41 in order of their numbers. -/
def allLineItems : List LineItem :=
  [.crated, .dpClean, .dpTrigger, .dpLimit, .bwKeep, .lMin, .lLo, .lHi, .hyst,
   .bMax, .pMax, .supplyStep, .lFull, .dpIndex, .bwGap, .bwTime, .tSettle, .mSludge,
   .lIdx, .lWarn, .tSpray, .tOffer, .tGate, .tDump, .ppk, .mPocket, .inService,
   .tIdx, .tRunUp, .tRunDown, .tRev, .tIdle, .tTransit, .nRetry, .cBinLight, .cBinFerrous,
   .cBinHard, .cBinSludge, .ppr, .dpCal, .levelCal]

/-- The number of a line item (Table 07-3). -/
def lineItemNumber : LineItem → Nat
  | .crated => 1
  | .dpClean => 2
  | .dpTrigger => 3
  | .dpLimit => 4
  | .bwKeep => 5
  | .lMin => 6
  | .lLo => 7
  | .lHi => 8
  | .hyst => 9
  | .bMax => 10
  | .pMax => 11
  | .supplyStep => 12
  | .lFull => 13
  | .dpIndex => 14
  | .bwGap => 15
  | .bwTime => 16
  | .tSettle => 17
  | .mSludge => 18
  | .lIdx => 19
  | .lWarn => 20
  | .tSpray => 21
  | .tOffer => 22
  | .tGate => 23
  | .tDump => 24
  | .ppk => 25
  | .mPocket => 26
  | .inService => 27
  | .tIdx => 28
  | .tRunUp => 29
  | .tRunDown => 30
  | .tRev => 31
  | .tIdle => 32
  | .tTransit => 33
  | .nRetry => 34
  | .cBinLight => 35
  | .cBinFerrous => 36
  | .cBinHard => 37
  | .cBinSludge => 38
  | .ppr => 39
  | .dpCal => 40
  | .levelCal => 41

/-- An item's least value, greatest value and set 0 value. -/
structure Range where
  least : Int
  greatest : Int
  factory : Int
  deriving DecidableEq, Repr

/-- Table 07-3. -/
def lineItemRange : LineItem → Range
  | .crated => ⟨0, 1200, 900⟩
  | .dpClean => ⟨0, 999, 150⟩
  | .dpTrigger => ⟨0, 999, 500⟩
  | .dpLimit => ⟨0, 999, 650⟩
  | .bwKeep => ⟨0, 16, 10⟩
  | .lMin => ⟨0, 20000, 1000⟩
  | .lLo => ⟨0, 20000, 2500⟩
  | .lHi => ⟨0, 20000, 4000⟩
  | .hyst => ⟨0, 500, 200⟩
  | .bMax => ⟨0, 300, 120⟩
  | .pMax => ⟨0, 1200, 800⟩
  | .supplyStep => ⟨1, 100, 10⟩
  | .lFull => ⟨1000, 20000, 6000⟩
  | .dpIndex => ⟨0, 999, 350⟩
  | .bwGap => ⟨0, 3600, 600⟩
  | .bwTime => ⟨10, 300, 60⟩
  | .tSettle => ⟨5, 120, 30⟩
  | .mSludge => ⟨10, 160, 60⟩
  | .lIdx => ⟨5, 100, 20⟩
  | .lWarn => ⟨0, 5000, 500⟩
  | .tSpray => ⟨100, 2000, 500⟩
  | .tOffer => ⟨2, 60, 10⟩
  | .tGate => ⟨10, 300, 60⟩
  | .tDump => ⟨5, 60, 20⟩
  | .ppk => ⟨1, 255, 20⟩
  | .mPocket => ⟨10, 80, 40⟩
  | .inService => ⟨4, 16, 16⟩
  | .tIdx => ⟨1, 10, 2⟩
  | .tRunUp => ⟨2, 20, 5⟩
  | .tRunDown => ⟨2, 20, 8⟩
  | .tRev => ⟨1, 10, 3⟩
  | .tIdle => ⟨10, 600, 120⟩
  | .tTransit => ⟨5, 60, 15⟩
  | .nRetry => ⟨1, 5, 3⟩
  | .cBinLight => ⟨200, 5000, 1500⟩
  | .cBinFerrous => ⟨200, 5000, 1500⟩
  | .cBinHard => ⟨200, 5000, 1500⟩
  | .cBinSludge => ⟨200, 5000, 1500⟩
  | .ppr => ⟨1, 16, 4⟩
  | .dpCal => ⟨-7, 7, 0⟩
  | .levelCal => ⟨-7, 7, 0⟩

/-- The value of a line item. -/
def LineParams.get (l : LineParams) : LineItem → Int
  | .crated => l.crated
  | .dpClean => l.dpClean
  | .dpTrigger => l.dpTrigger
  | .dpLimit => l.dpLimit
  | .bwKeep => l.bwKeep
  | .lMin => l.lMin
  | .lLo => l.lLo
  | .lHi => l.lHi
  | .hyst => l.hyst
  | .bMax => l.bMax
  | .pMax => l.pMax
  | .supplyStep => l.supplyStep
  | .lFull => l.lFull
  | .dpIndex => l.dpIndex
  | .bwGap => l.bwGap
  | .bwTime => l.bwTime
  | .tSettle => l.tSettle
  | .mSludge => l.mSludge
  | .lIdx => l.lIdx
  | .lWarn => l.lWarn
  | .tSpray => l.tSpray
  | .tOffer => l.tOffer
  | .tGate => l.tGate
  | .tDump => l.tDump
  | .ppk => l.ppk
  | .mPocket => l.mPocket
  | .inService => l.inService
  | .tIdx => l.tIdx
  | .tRunUp => l.tRunUp
  | .tRunDown => l.tRunDown
  | .tRev => l.tRev
  | .tIdle => l.tIdle
  | .tTransit => l.tTransit
  | .nRetry => l.nRetry
  | .cBinLight => l.cBinLight
  | .cBinFerrous => l.cBinFerrous
  | .cBinHard => l.cBinHard
  | .cBinSludge => l.cBinSludge
  | .ppr => l.ppr
  | .dpCal => l.dpCal
  | .levelCal => l.levelCal

/-- The line parameters with one item replaced. -/
def LineParams.set (l : LineParams) (i : LineItem) (v : Int) : LineParams :=
  match i with
  | .crated => { l with crated := v.toNat }
  | .dpClean => { l with dpClean := v.toNat }
  | .dpTrigger => { l with dpTrigger := v.toNat }
  | .dpLimit => { l with dpLimit := v.toNat }
  | .bwKeep => { l with bwKeep := v.toNat }
  | .lMin => { l with lMin := v.toNat }
  | .lLo => { l with lLo := v.toNat }
  | .lHi => { l with lHi := v.toNat }
  | .hyst => { l with hyst := v.toNat }
  | .bMax => { l with bMax := v.toNat }
  | .pMax => { l with pMax := v.toNat }
  | .supplyStep => { l with supplyStep := v.toNat }
  | .lFull => { l with lFull := v.toNat }
  | .dpIndex => { l with dpIndex := v.toNat }
  | .bwGap => { l with bwGap := v.toNat }
  | .bwTime => { l with bwTime := v.toNat }
  | .tSettle => { l with tSettle := v.toNat }
  | .mSludge => { l with mSludge := v.toNat }
  | .lIdx => { l with lIdx := v.toNat }
  | .lWarn => { l with lWarn := v.toNat }
  | .tSpray => { l with tSpray := v.toNat }
  | .tOffer => { l with tOffer := v.toNat }
  | .tGate => { l with tGate := v.toNat }
  | .tDump => { l with tDump := v.toNat }
  | .ppk => { l with ppk := v.toNat }
  | .mPocket => { l with mPocket := v.toNat }
  | .inService => { l with inService := v.toNat }
  | .tIdx => { l with tIdx := v.toNat }
  | .tRunUp => { l with tRunUp := v.toNat }
  | .tRunDown => { l with tRunDown := v.toNat }
  | .tRev => { l with tRev := v.toNat }
  | .tIdle => { l with tIdle := v.toNat }
  | .tTransit => { l with tTransit := v.toNat }
  | .nRetry => { l with nRetry := v.toNat }
  | .cBinLight => { l with cBinLight := v.toNat }
  | .cBinFerrous => { l with cBinFerrous := v.toNat }
  | .cBinHard => { l with cBinHard := v.toNat }
  | .cBinSludge => { l with cBinSludge := v.toNat }
  | .ppr => { l with ppr := v.toNat }
  | .dpCal => { l with dpCal := v }
  | .levelCal => { l with levelCal := v }

/-- The set 0 line parameters (Table 07-3). -/
def factoryLine : LineParams where
  crated := 900
  dpClean := 150
  dpTrigger := 500
  dpLimit := 650
  bwKeep := 10
  lMin := 1000
  lLo := 2500
  lHi := 4000
  hyst := 200
  bMax := 120
  pMax := 800
  supplyStep := 10
  lFull := 6000
  dpIndex := 350
  bwGap := 600
  bwTime := 60
  tSettle := 30
  mSludge := 60
  lIdx := 20
  lWarn := 500
  tSpray := 500
  tOffer := 10
  tGate := 60
  tDump := 20
  ppk := 20
  mPocket := 40
  inService := 16
  tIdx := 2
  tRunUp := 5
  tRunDown := 8
  tRev := 3
  tIdle := 120
  tTransit := 15
  nRetry := 3
  cBinLight := 1500
  cBinFerrous := 1500
  cBinHard := 1500
  cBinSludge := 1500
  ppr := 4
  dpCal := 0
  levelCal := 0

/-- The items of a station (Table 07-4), by their offset from 48 + 4(s − 1). -/
inductive StationField
  | floodLimit | spindleLimit | keepExponent | watchEnable
  deriving DecidableEq, Repr

/-- The fields of a material entry (Table 07-1), by their offset from the item base. -/
inductive MaterialField
  | inUse | family | form | rate | speed | stall | purge
  deriving DecidableEq, Repr

/-- The writable items. -/
inductive Item
  | line (i : LineItem)
  | station (s : Station) (f : StationField)
  | vmax (c : Slot)
  | level (k : HallKind)
  | material (m : Material) (f : MaterialField)
  deriving DecidableEq, Repr

/-- What an item number names: a writable item, or one of the read-only items 104, 105 and 176. -/
inductive ItemRef
  | writable (i : Item)
  | sludgeFamily
  | sludgeForm
  | startSet
  deriving DecidableEq, Repr

/-- The station fields in order of their offsets. -/
def stationFieldOfOffset : Nat → StationField
  | 0 => .floodLimit
  | 1 => .spindleLimit
  | 2 => .keepExponent
  | _ => .watchEnable

/-- The material fields in order of their offsets; offset 7 names no item (note 1 of Table 07-2). -/
def materialFieldOfOffset : Nat → Option MaterialField
  | 0 => some .inUse
  | 1 => some .family
  | 2 => some .form
  | 3 => some .rate
  | 4 => some .speed
  | 5 => some .stall
  | 6 => some .purge
  | _ => none

/-- What an item number names, none where it names no item (Tables 07-2 to 07-5). -/
def itemOfNumber (n : Nat) : Option ItemRef :=
  if n = 0 then none
  else if n ≤ 41 then (allLineItems[n - 1]?).map (fun i => .writable (.line i))
  else if n < 48 then none
  else if n ≤ 71 then
    (stationOfNumber ((n - 48) / 4 + 1)).map (fun s => .writable (.station s (stationFieldOfOffset ((n - 48) % 4))))
  else if n ≤ 85 then (slotOfNumber (n - 71)).map (fun c => .writable (.vmax c))
  else if n < 88 then none
  else if n ≤ 101 then (hallKindOfNumber (n - 87)).map (fun k => .writable (.level k))
  else if n < 104 then none
  else if n = 104 then some .sludgeFamily
  else if n = 105 then some .sludgeForm
  else if n < 112 then none
  else if n ≤ 175 then
    (materialOfNumber ((n - 112) / 8 + 1)).bind (fun m =>
      (materialFieldOfOffset ((n - 112) % 8)).map (fun f => .writable (.material m f)))
  else if n = 176 then some .startSet
  else none

/-- The code of a crushable family (Table 07-1). -/
def chipFamilyCode : ChipFamily → Nat
  | .light => 1 | .ferrous => 2 | .hard => 3

/-- The family of a code; codes are clamped to 1 to 3 before they are stored (R128). -/
def chipFamilyOfCode (v : Int) : ChipFamily :=
  if v ≤ 1 then .light else if v = 2 then .ferrous else .hard

/-- The code of a form (Table 07-1). -/
def formCode : Form → Nat
  | .short => 1 | .stringy => 2 | .fines => 3

/-- The form of a code; codes are clamped to 1 to 3 before they are stored (R128). -/
def formOfCode (v : Int) : Form :=
  if v ≤ 1 then .short else if v = 2 then .stringy else .fines

/-- A yes or no item as a number. -/
def boolCode (b : Bool) : Nat := if b then 1 else 0

/-- The value of a station item. -/
def StationItems.get (s : StationItems) : StationField → Int
  | .floodLimit => s.floodLimit
  | .spindleLimit => s.spindleLimit
  | .keepExponent => s.keepExponent
  | .watchEnable => boolCode s.watchEnabled

/-- The station items with one replaced. -/
def StationItems.set (s : StationItems) (f : StationField) (v : Int) : StationItems :=
  match f with
  | .floodLimit => { s with floodLimit := v.toNat }
  | .spindleLimit => { s with spindleLimit := v.toNat }
  | .keepExponent => { s with keepExponent := v.toNat }
  | .watchEnable => { s with watchEnabled := decide (v ≠ 0) }

/-- The value of a material field; a coded field is given as its code (R127). -/
def MaterialEntry.get (m : MaterialEntry) : MaterialField → Int
  | .inUse => boolCode m.inUse
  | .family => chipFamilyCode m.family
  | .form => formCode m.form
  | .rate => m.rate
  | .speed => m.speed
  | .stall => m.stall
  | .purge => m.purge

/-- The material entry with one field replaced. -/
def MaterialEntry.set (m : MaterialEntry) (f : MaterialField) (v : Int) : MaterialEntry :=
  match f with
  | .inUse => { m with inUse := decide (v ≠ 0) }
  | .family => { m with family := chipFamilyOfCode v }
  | .form => { m with form := formOfCode v }
  | .rate => { m with rate := v.toNat }
  | .speed => { m with speed := v.toNat }
  | .stall => { m with stall := v.toNat }
  | .purge => { m with purge := v.toNat }

/-- The value of an item in a profile. -/
def Profile.get (p : Profile) : Item → Int
  | .line i => p.line.get i
  | .station s f => (p.stations.get s).get f
  | .vmax c => p.vmax.get c
  | .level k => p.levels.get k
  | .material m f => (p.materials.get m).get f

/-- The profile with one item replaced. -/
def Profile.set (p : Profile) (i : Item) (v : Int) : Profile :=
  match i with
  | .line l => { p with line := p.line.set l v }
  | .station s f => { p with stations := p.stations.set s ((p.stations.get s).set f v) }
  | .vmax c => { p with vmax := p.vmax.set c v.toNat }
  | .level k => { p with levels := p.levels.set k v.toNat }
  | .material m f => { p with materials := p.materials.set m ((p.materials.get m).set f v) }

/-- The set 0 items of a station (Table 07-4). -/
def factoryStation : StationItems := ⟨250, 60, 3, true⟩

/-- The set 0 Vmax of the valve channels (Table 07-4). -/
def factoryVmax : PerSlot Nat := ⟨.same 60, .same 250, 250, 250⟩

/-- The set 0 hall event levels (Tables 07-5 and 10-2). -/
def factoryLevels : PerHallKind Nat := ⟨7, 7, 6, 6, 3, 5, 5, 4, 2, 2, 6, 4, 5, 1⟩

/-- The set 0 material entries (Table 07-2). -/
def factoryMaterials : PerMaterial MaterialEntry :=
  ⟨⟨true, .light, .short, 150, 300, 40, 10⟩,
   ⟨true, .light, .fines, 180, 320, 40, 10⟩,
   ⟨true, .hard, .stringy, 40, 180, 50, 30⟩,
   ⟨true, .hard, .stringy, 30, 150, 55, 40⟩,
   ⟨true, .ferrous, .short, 90, 240, 45, 20⟩,
   ⟨true, .ferrous, .fines, 120, 260, 40, 15⟩,
   ⟨false, .light, .short, 100, 200, 40, 10⟩,
   ⟨false, .light, .short, 100, 200, 40, 10⟩⟩

/-- Parameter set 0, fixed at manufacture (R133). -/
def factoryProfile : Profile :=
  ⟨factoryLine, .same factoryStation, factoryVmax, factoryLevels, factoryMaterials⟩

/-- The range of a station item (Table 07-4). -/
def stationFieldRange : StationField → Range
  | .floodLimit => ⟨0, 250, 250⟩
  | .spindleLimit => ⟨0, 60, 60⟩
  | .keepExponent => ⟨0, 7, 3⟩
  | .watchEnable => ⟨0, 1, 1⟩

/-- The range of a material field (Table 07-1) with its set 0 value (Table 07-2). -/
def materialFieldRange (m : Material) (f : MaterialField) : Range :=
  let d := (factoryMaterials.get m).get f
  match f with
  | .inUse => ⟨0, 1, d⟩
  | .family => ⟨1, 3, d⟩
  | .form => ⟨1, 3, d⟩
  | .rate => ⟨5, 200, d⟩
  | .speed => ⟨60, 600, d⟩
  | .stall => ⟨20, 90, d⟩
  | .purge => ⟨0, 60, d⟩

/-- The range and set 0 value of an item (Tables 07-1 to 07-5). -/
def itemRange : Item → Range
  | .line i => lineItemRange i
  | .station _ f => stationFieldRange f
  | .vmax c => ⟨10, 250, factoryVmax.get c⟩
  | .level k => ⟨0, 7, factoryLevels.get k⟩
  | .material m f => materialFieldRange m f

/-- A value cut into a range (R128 step 4). -/
def clampTo (r : Range) (v : Int) : Int := max r.least (min v r.greatest)

/-- R129: DPclean < DPtrigger < DPlimit. -/
def LineParams.dpOrdered (l : LineParams) : Bool := decide (l.dpClean < l.dpTrigger) && decide (l.dpTrigger < l.dpLimit)

/-- R129: Lmin < Llo < Lhi. -/
def LineParams.levelOrdered (l : LineParams) : Bool := decide (l.lMin < l.lLo) && decide (l.lLo < l.lHi)

/-- R129: whether a profile keeps the order of the group that an item belongs to; other items have none. -/
def orderKept (i : Item) (p : Profile) : Bool :=
  match i with
  | .line .dpClean => p.line.dpOrdered
  | .line .dpTrigger => p.line.dpOrdered
  | .line .dpLimit => p.line.dpOrdered
  | .line .lMin => p.line.levelOrdered
  | .line .lLo => p.line.levelOrdered
  | .line .lHi => p.line.levelOrdered
  | _ => true

end Sys2Proof.Machine
end

