-- ==== Sys2Proof/Machine/Blocks.lean ====
section
/-! DEFINITION. The state each block of the CF-640 owns (Table 1-1 of 00_scope.md), block by block, with its value after
power-on. Timers are the milliseconds left, unless a comment says otherwise; a stopped timer is an absent one. -/

namespace Sys2Proof.Machine

/-! ## Link ports (R177, R179, R181) -/

/-- The receive state of a port with the bytes of the frame being assembled and the time left to its gap (R177). -/
inductive RxState
  | hunting
  | assembling (bytes : List Byte) (gapLeft : Nat)
  deriving DecidableEq, Repr

/-- A complete frame that passed its tests: the held request of R179. -/
structure LinkRequest where
  tag : Byte
  kind : Byte
  payload : List Byte
  deriving DecidableEq, Repr

/-- What a port keeps of a frame that it owes a BUSY (R179). -/
structure OwedBusy where
  tag : Byte
  kind : Byte
  deriving DecidableEq, Repr

/-- The result codes of Table 11-3, in order. -/
inductive Result
  | done | clamped | wait | busy | repeated | empty | late | oversize | notLive
  | refusedKind | refusedRange | refusedState | refusedOrder
  deriving DecidableEq, Repr

/-- A reply (Table 11-2), its summary kept as its three indications. -/
structure Reply where
  address : Byte
  tag : Byte
  kind : Byte
  result : Result
  attention : Bool
  live : Bool
  safeStop : Bool
  payload : List Byte
  deriving DecidableEq, Repr

/-- The reply a port is sending and the time left of it (R177, chapter 11). -/
structure Transmission where
  reply : Reply
  left : Nat
  deriving DecidableEq, Repr

/-- One link port. -/
structure LinkPort where
  rx : RxState
  held : Option LinkRequest
  owed : Option OwedBusy
  discards : Nat
  tx : Option Transmission
  deriving DecidableEq, Repr

/-- R177: HUNTING, no held request, no owed BUSY, discard count 0. -/
def linkPortPowerOn : LinkPort := ⟨.hunting, none, none, 0, none⟩

/-! ## Station watch (R164) -/

/-- The two phases of a keep-alive. -/
inductive Phase
  | a | b
  deriving DecidableEq, Repr

/-- The watch states of Table 10-1. -/
inductive WatchState
  | lost | live | lapsed
  deriving DecidableEq, Repr

/-- The watch of one station. -/
structure Watch where
  state : WatchState
  phase : Option Phase
  timer : Option Nat
  deriving DecidableEq, Repr

/-- R164: LOST, last accepted phase none, timer stopped. -/
def watchPowerOn : Watch := ⟨.lost, none, none⟩

/-! ## Allotment unit (R1 to R3) -/

/-- The states of an entry (R3). -/
inductive EntryState
  | granted | trimmed | waiting | suspended
  deriving DecidableEq, Repr

/-- An allotment entry (Table 01-2). Its circuit is its slot's; the floor is absent for SPINDLE. -/
structure Entry where
  asked : Nat
  floor : Option Nat
  urgency : Nat
  state : EntryState
  granted : Nat
  deriving DecidableEq, Repr

/-! ## Supply unit (R25) -/

/-- The condition of an analog channel (R25). -/
inductive Condition
  | good | holding | degraded
  deriving DecidableEq, Repr

/-- The level bands, lowest first (R32). -/
inductive Band
  | critical | low | normal | high
  deriving DecidableEq, Repr

/-- The supply unit. A channel's condition is read from its fault count (`conditionOf`). -/
structure Supply where
  dp : Nat
  dpFaults : Nat
  dpMark : Bool
  level : Nat
  levelFaults : Nat
  levelMark : Bool
  band : Option Band
  backwashDp : Nat
  published : Nat
  deriving DecidableEq, Repr

/-- R25: both channels GOOD with count 0, values 0, band unset, marks clear, published 0. -/
def supplyPowerOn : Supply := ⟨0, 0, false, 0, 0, false, none, 0, 0⟩

/-! ## Filter sequencer (section 3.1, R43, R46) -/

/-- The filter states with the timer of each. A settle whose timer has run out waits for its deciding DP sample (R50). -/
inductive FilterState
  | filtering
  | backwash (left : Nat)
  | settle (left : Option Nat)
  | indexing (length : Nat) (metered : Nat) (stallLeft : Nat)
  deriving DecidableEq, Repr

/-- The filter sequencer. `gap` is the time counted since the last completed backwash, stopped at 3600 s (R46). -/
structure Filter where
  state : FilterState
  pending : Bool
  gap : Nat
  troughFull : Bool
  fleece : Option Nat
  deriving DecidableEq, Repr

/-- R43: FILTERING, no pending flag, gap timer stopped at 3600 s, trough EMPTY, fleece UNKNOWN. -/
def filterPowerOn : Filter := ⟨.filtering, false, Config.gapStop, false, none⟩

/-! ## Discharge arbiter (R60, R61, R74) -/

/-- The flags of a lot (Table 05-2). -/
structure LotFlags where
  overfull : Bool
  timedOut : Bool
  cutShort : Bool
  deriving DecidableEq, Repr

/-- What a lot or request is made of: a material 1 to 8, or sludge (material 0). -/
inductive Cargo
  | chips (m : Material)
  | sludge
  deriving DecidableEq, Repr

/-- The state of a discharge request (Table 04-2). An offered request has its reserved span and its offer window; an
open one its reserved span, its gate window and, for source 7, its dump timer (R60). -/
inductive DischargeState
  | pending
  | offered (span : Nat) (window : Nat)
  | opened (span : Nat) (gate : Nat) (dump : Option Nat)
  deriving DecidableEq, Repr

/-- A discharge request (Table 04-2); its source is its place. -/
structure DischargeRequest where
  cargo : Cargo
  estimate : Nat
  urgency : Nat
  state : DischargeState
  deriving DecidableEq, Repr

/-- The outcome of a finalisation (R72, R74): the lot number or none, the mass, the span and the flags. -/
structure Outcome where
  lot : Option Nat
  mass : Nat
  span : Nat
  flags : LotFlags
  deriving DecidableEq, Repr

/-- The discharge arbiter. The chute count is the measurement unit's (R144). -/
structure Arbiter where
  requests : PerSource (Option DischargeRequest)
  late : PerStation (Option Outcome)
  deriving DecidableEq, Repr

/-- R60: no request, no late report. -/
def arbiterPowerOn : Arbiter := ⟨.same none, .same none⟩

/-! ## Pocket carousel (R81, R82) -/

/-- The stages of a lot (Table 05-2). -/
inductive Stage
  | queued | tipping | inCrusher
  deriving DecidableEq, Repr

/-- The copies a lot of material 1 to 8 takes from its material entry (R86). -/
structure ChipCopies where
  family : ChipFamily
  form : Form
  rate : Nat
  speed : Nat
  stall : Nat
  purge : Nat
  deriving DecidableEq, Repr

/-- What a lot is: crushable material with its copies, or sludge, which has none (R82). -/
inductive LotContent
  | chips (m : Material) (c : ChipCopies)
  | sludge
  deriving DecidableEq, Repr

/-- A lot record (Table 05-2). Remaining and jam count are kept with the crusher slot. -/
structure LotRecord where
  number : Nat
  source : Source
  content : LotContent
  estimate : Nat
  mass : Nat
  span : Nat
  flags : LotFlags
  stage : Stage
  deriving DecidableEq, Repr

/-- The survey state (R81). -/
inductive Survey
  | unsurveyed | flushing | surveyed
  deriving DecidableEq, Repr

/-- The mode; in HOLD with its release count, which is 0 in RUN (R93 to R95). -/
inductive Mode
  | run
  | hold (releases : Nat)
  deriving DecidableEq, Repr

/-- The index state with the steps left and the step timer. A suspended index knows whether the run-on edge of its
interrupted step has come (R100). -/
inductive IndexState
  | idle
  | indexing (steps : Nat) (timer : Nat)
  | suspended (steps : Nat) (ranOn : Bool)
  | faulted (steps : Nat)
  deriving DecidableEq, Repr

/-- The pocket carousel. N and the pocket mass are items of the working copy; the reservation is the span that the
arbiter's current discharge holds (`reservedSpan`). -/
structure Carousel where
  queue : List LotRecord
  survey : Survey
  mode : Mode
  index : IndexState
  requested : Bool
  counter : Nat
  deriving DecidableEq, Repr

/-- R81: empty queue, UNSURVEYED, RUN, IDLE, no index request, lot counter 1. -/
def carouselPowerOn : Carousel := ⟨[], .unsurveyed, .run, .idle, false, 1⟩

/-! ## Crusher sequencer (R103) -/

/-- The families of the bins: LIGHT, FERROUS, HARD, SLUDGE. -/
inductive Family
  | chip (f : ChipFamily)
  | sludge
  deriving DecidableEq, Repr

/-- The crusher states of Table 06-2 with the timer of each, and the target of a purge. The timers of CRUSHING and
PASS_THROUGH are the remaining of the slot lot. -/
inductive CrusherState
  | stopped
  | runUp (left : Nat)
  | idleRun (left : Nat)
  | purge (left : Nat) (target : ChipFamily)
  | crushing
  | reversing (left : Nat)
  | blocked
  | passThrough
  | runDown (left : Nat)
  deriving DecidableEq, Repr

/-- The lot in the crusher slot with its remaining, in milliseconds, and its jam count (R82, R113). -/
structure SlotLot where
  lot : LotRecord
  remaining : Nat
  jams : Nat
  deriving DecidableEq, Repr

/-- The outcome of a last-lot report (R103). -/
inductive LastOutcome
  | crushed | rejected
  deriving DecidableEq, Repr

/-- A last-lot report: lot number and outcome (R103). -/
structure LastLot where
  number : Nat
  outcome : LastOutcome
  deriving DecidableEq, Repr

/-- The fills of the four bins (R103). -/
structure Fills where
  light : Nat
  ferrous : Nat
  hard : Nat
  sludge : Nat
  deriving DecidableEq, Repr

/-- The crusher sequencer. -/
structure Crusher where
  state : CrusherState
  slot : Option SlotLot
  awaited : Option Nat
  family : Option ChipFamily
  heldPurge : Nat
  stallCount : Nat
  binWait : Option Family
  fills : Fills
  reject : Nat
  lastLots : PerStation (Option LastLot)
  deriving DecidableEq, Repr

/-- R103: STOPPED, empty slot, nothing awaited, family NONE, purge time 0, stall count 0, no bin wait, fills 0, no reports. -/
def crusherPowerOn : Crusher :=
  ⟨.stopped, none, none, none, 0, 0, none, ⟨0, 0, 0, 0⟩, 0, .same none⟩

/-! ## Profile store (R125) -/

/-- The numbers of the parameter sets. -/
inductive SetNumber
  | set0 | set1 | set2
  deriving DecidableEq, Repr

/-- The sets that a save can write. -/
inductive UserSet
  | set1 | set2
  deriving DecidableEq, Repr

/-- The save state: IDLE, or SAVING with the set, the content taken and the save timer (R135). -/
inductive SaveState
  | idle
  | saving (n : UserSet) (content : Profile) (left : Nat)
  deriving DecidableEq, Repr

/-- What the non-volatile store holds beside the fixed set 0 (R125). -/
structure NonVolatile where
  set1 : Profile
  set2 : Profile
  selector : SetNumber
  deriving DecidableEq, Repr

/-- The profile store. Set 0 is the constant `factoryProfile` (R133). -/
structure Store where
  working : Profile
  nonVolatile : NonVolatile
  save : SaveState
  deriving DecidableEq, Repr

/-- R125: as the module leaves the factory. -/
def factoryNonVolatile : NonVolatile := ⟨factoryProfile, factoryProfile, .set0⟩

/-- A parameter set. -/
def NonVolatile.profile (n : NonVolatile) : SetNumber → Profile
  | .set0 => factoryProfile
  | .set1 => n.set1
  | .set2 => n.set2

/-- R125: the working copy holds the values of the set the selector names, and the save state is IDLE. -/
def storePowerOn (n : NonVolatile) : Store := ⟨n.profile n.selector, n, .idle⟩

/-! ## Measurement unit (R138, R142, R144, R145, R147) -/

/-- The two analog channels. -/
inductive Analog
  | dp | level
  deriving DecidableEq, Repr

/-- The conversion in progress: its channel, the calibration taken at its start, and the time elapsed in it (R138). -/
structure Conversion where
  channel : Analog
  calibration : Int
  elapsed : Nat
  deriving DecidableEq, Repr

/-- The shaft window counter (R142). -/
inductive ShaftWindow
  | idle
  | counting (count : Nat) (ppr : Nat) (left : Nat)
  deriving DecidableEq, Repr

/-- The chute counter (R144). -/
structure ChuteCounter where
  count : Nat
  enabled : Bool
  deriving DecidableEq, Repr

/-- The INDEX sensor: its last confirmed state, MADE or not, and the confirmation timer (R145). -/
structure IndexSensor where
  made : Bool
  confirming : Option Nat
  deriving DecidableEq, Repr

/-- The field-supply monitor (R147). -/
inductive Monitor
  | good
  | dip (left : Nat)
  | failed
  | recovering (left : Nat)
  deriving DecidableEq, Repr

/-- The measurement unit. `supplyGood` is the last reading of the field supply (R147). -/
structure Measure where
  conversion : Conversion
  shaft : ShaftWindow
  chute : ChuteCounter
  sensor : IndexSensor
  supplyGood : Bool
  monitor : Monitor
  deriving DecidableEq, Repr

/-- R138, R142, R144, R145, R147: the first conversion starts on DP with its calibration, the window counter is IDLE, the
chute count is 0 and off, the sensor and the monitor start from what they find. -/
def measurePowerOn (working : Profile) (supplyGood sensorMade : Bool) : Measure :=
  ⟨⟨.dp, working.line.dpCal, 0⟩, .idle, ⟨0, false⟩, ⟨sensorMade, none⟩, supplyGood,
    if supplyGood then .good else .failed⟩

/-! ## Drive unit (R152, R156, R158 to R162) -/

/-- The pending change of a valve channel (R152). -/
inductive PendingDuty
  | reduction (duty : Nat)
  | increase (duty : Nat)
  deriving DecidableEq, Repr

/-- A valve channel: its applied duty, its pending change (none when settled) and its output (R152, R156). -/
structure Channel where
  applied : Nat
  pending : Option PendingDuty
  output : Bool
  deriving DecidableEq, Repr

/-- The direction of the crusher drive (R158). -/
inductive Direction
  | stopped | forward | reverse
  deriving DecidableEq, Repr

/-- The spray valve channel: OFF with the valve CLOSED, or ON with the valve position and the toggle timer (R160). -/
inductive Spray
  | off
  | on (valveOpen : Bool) (left : Nat)
  deriving DecidableEq, Repr

/-- The bin gate positions (R161). -/
inductive BinGate
  | bin (f : ChipFamily)
  | reject
  deriving DecidableEq, Repr

/-- The sludge flap positions (R161). -/
inductive Flap
  | crusher | sludge | reject
  deriving DecidableEq, Repr

/-- The drive unit. Gates are true when OPEN, motors true when ON. -/
structure Drive where
  channels : PerSlot Channel
  periodLeft : Nat
  direction : Direction
  speed : Option Nat
  step : Bool
  fleeceMotor : Bool
  spray : Spray
  binGate : BinGate
  flap : Flap
  gates : PerStation Bool
  dumpValve : Bool
  deriving DecidableEq, Repr

/-- Table 09-1, R152, R158 to R162: the column "After power-on". -/
def drivePowerOn : Drive :=
  ⟨.same ⟨0, none, false⟩, Config.valvePeriod, .stopped, none, false, false, .off, .reject, .crusher, .same false, false⟩

/-! ## Event sets and stop causes (R170, R173) -/

/-- The pending event kinds of the seven ports (R170). -/
structure Events where
  stations : PerStation (PerStationKind Bool)
  hall : PerHallKind Bool
  deriving DecidableEq, Repr

/-- R170: every set empty. -/
def eventsPowerOn : Events := ⟨.same (.same false), .same false⟩

/-- The two stop causes (R173). -/
inductive StopCause
  | fieldSupply | hall
  deriving DecidableEq, Repr

/-- The stop-cause set and the last cause (R173). -/
structure StopCauses where
  fieldSupply : Bool
  hall : Bool
  last : Option StopCause
  deriving DecidableEq, Repr

/-- R173: the set empty, the last cause NONE. -/
def stopPowerOn : StopCauses := ⟨false, false, none⟩

end Sys2Proof.Machine
end

