-- ==== Sys2Proof/Machine/State.lean ====
section
/-! DEFINITION. The state of the machine: every block's state, the queue of waiting commands, and the state after reset. -/

namespace Sys2Proof.Machine

/-- Why the machine stops. The manual gives the CF-640 no behaviour that stops it: every command has an effect or is
answered in every state. So no command raises a fault, and the type has no constructor. -/
inductive Fault
  deriving DecidableEq, Repr

/-- Why the model gives no next state. -/
inductive Refusal
  /-- Raised by `exec` alone, for a row of the opcode table that has no meaning yet (none at present); safe. -/
  | notModelled (mnemonic : String)
  deriving DecidableEq, Repr

/-- The CF-640. `powered` says whether the logic supply holds (R137, R175). `ties` counts the free choices taken among
timers that ran out together (the model's own, log entry 3). `pending` is the queue of commands, first in, first out. -/
structure State where
  powered : Bool
  ports : PerPort LinkPort
  watches : PerStation Watch
  slots : PerSlot (Option Entry)
  supply : Supply
  filter : Filter
  arbiter : Arbiter
  carousel : Carousel
  crusher : Crusher
  store : Store
  measure : Measure
  drive : Drive
  events : Events
  stop : StopCauses
  ties : Nat
  pending : List Instr
  deriving DecidableEq, Repr

/-- Every block in its power-on state (R175), with the field supply and the INDEX sensor as they are found. -/
def powerOnState (n : NonVolatile) (supplyGood sensorMade : Bool) (ties : Nat) (pending : List Instr) : State where
  powered := true
  ports := .same linkPortPowerOn
  watches := .same watchPowerOn
  slots := .same none
  supply := supplyPowerOn
  filter := filterPowerOn
  arbiter := arbiterPowerOn
  carousel := carouselPowerOn
  crusher := crusherPowerOn
  store := storePowerOn n
  measure := measurePowerOn (n.profile n.selector) supplyGood sensorMade
  drive := drivePowerOn
  events := eventsPowerOn
  stop := stopPowerOn
  ties := ties
  pending := pending

/-- The machine right after power-on of a module as it leaves the factory (R125), with the field supply GOOD and the
INDEX sensor CLEAR (log entry 1) and no command waiting. -/
def State.reset : State := powerOnState factoryNonVolatile true false 0 []

end Sys2Proof.Machine
end

