-- ==== Sys2Proof/Machine/Flags.lean ====
section
/-! DEFINITION. The indications of the machine: the event sets (R170 to R172), the safe-stop indication (R173) and the
summary of a reply (R169, R170, R173). -/

namespace Sys2Proof.Machine

/-- The line is in safe stop while the stop-cause set is not empty (R173). -/
def State.inSafeStop (s : State) : Bool := s.stop.fieldSupply || s.stop.hall

/-- The event set of a station port. -/
def State.stationSet (s : State) (st : Station) : PerStationKind Bool := s.events.stations.get st

/-- R170: a station kind is added to its port's set, where it is pending at most once. -/
def postStation (st : Station) (k : StationKind) (s : State) : State :=
  { s with events := { s.events with stations := s.events.stations.set st ((s.stationSet st).set k true) } }

/-- R170: a hall kind is added to the hall set unless its event level in the working copy is 0. -/
def postHall (k : HallKind) (s : State) : State :=
  if s.store.working.levels.get k = 0 then s
  else { s with events := { s.events with hall := s.events.hall.set k true } }

/-- R171, R172: a hall kind is removed from the hall set. -/
def dropHall (k : HallKind) (s : State) : State :=
  { s with events := { s.events with hall := s.events.hall.set k false } }

/-- R171: a station kind is removed from its port's set. -/
def dropStation (st : Station) (k : StationKind) (s : State) : State :=
  { s with events := { s.events with stations := s.events.stations.set st ((s.stationSet st).set k false) } }

/-- R171: on a station port the top kind is the pending one with the lowest number. -/
def topStation (st : Station) (s : State) : Option StationKind :=
  allStationKinds.find? (fun k => (s.stationSet st).get k)

/-- R171: among kinds given in order of their numbers, the one of the highest level, the first of those equal. -/
def highestLevel (levels : PerHallKind Nat) : List HallKind → Option HallKind
  | [] => none
  | k :: ks =>
    match highestLevel levels ks with
    | none => some k
    | some m => if levels.get m ≤ levels.get k then some k else some m

/-- R171: on the hall port the top kind is the pending one with the highest level in the working copy, and among equal
levels the one with the lowest number. -/
def topHall (s : State) : Option HallKind :=
  highestLevel s.store.working.levels (allHallKinds.filter (fun k => s.events.hall.get k))

/-- R170: a port's attention is set while its event set is not empty. -/
def attention (p : Port) (s : State) : Bool :=
  match p with
  | .station st => allStationKinds.any (fun k => (s.stationSet st).get k)
  | .hall => allHallKinds.any (fun k => s.events.hall.get k)

/-- R169: the live indication, set on a station port while the station is LIVE and always on the hall port. -/
def liveIndication (p : Port) (s : State) : Bool :=
  match p with
  | .station st => decide ((s.watches.get st).state = .live)
  | .hall => true

/-- R171, R176: every event set is emptied. -/
def emptyEventSets (s : State) : State := { s with events := eventsPowerOn }

end Sys2Proof.Machine
end

