-- ==== Sys2Proof/Machine/Operands.lean ====
section
/-! DEFINITION. The operand forms of requests: reading the fields of a payload (section 11.1), the coded operands of Table
11-4, the kinds with their codes, ports and payload lengths, and the codes that replies carry (Tables 11-3 to 11-7). -/

namespace Sys2Proof.Machine

/-- The byte of a payload at an offset. -/
def byteAt (l : List Byte) (i : Nat) : Nat := (l.getD i 0#8).toNat

/-- An unsigned two-byte field, least significant byte first (section 11.1). -/
def u16At (l : List Byte) (i : Nat) : Nat := byteAt l i + 256 * byteAt l (i + 1)

/-- A two's-complement two-byte field, least significant byte first (section 11.1). -/
def i16At (l : List Byte) (i : Nat) : Int :=
  let n := u16At l i
  if n < 32768 then n else (n : Int) - 65536

/-- The request kinds of Table 11-4. -/
inductive Kind
  | status | range | keepA | keepB | coolantAsk | coolantEnd
  | dischargeAsk | dischargeGo | dischargeDone | dischargeCancel
  | tableRead | lotRead | profileRead | profileWrite | profileLoad | profileSave
  | backwashNow | indexNow | fleeceLoaded
  | hold | release | resume | ringCleared | ringFlush | setPocketLimit | carouselRetry
  | crusherClear | binEmptied | stationWatch | eventLevel | lineStop | lineResume | lineRestart
  deriving DecidableEq, Repr

/-- A row of Table 11-4: the kind's code, whether station ports and the hall port take it, and its payload length. -/
structure KindRow where
  code : Nat
  onStations : Bool
  onHall : Bool
  length : Nat
  deriving DecidableEq, Repr

/-- Table 11-4. -/
def kindRow : Kind → KindRow
  | .status => ⟨0x01, true, true, 0⟩
  | .range => ⟨0x02, true, true, 1⟩
  | .keepA => ⟨0x03, true, false, 0⟩
  | .keepB => ⟨0x04, true, false, 0⟩
  | .coolantAsk => ⟨0x10, true, true, 4⟩
  | .coolantEnd => ⟨0x11, true, true, 1⟩
  | .dischargeAsk => ⟨0x20, true, false, 4⟩
  | .dischargeGo => ⟨0x21, true, false, 0⟩
  | .dischargeDone => ⟨0x22, true, false, 0⟩
  | .dischargeCancel => ⟨0x23, true, false, 0⟩
  | .tableRead => ⟨0x30, false, true, 1⟩
  | .lotRead => ⟨0x31, false, true, 1⟩
  | .profileRead => ⟨0x40, false, true, 1⟩
  | .profileWrite => ⟨0x41, false, true, 3⟩
  | .profileLoad => ⟨0x42, false, true, 1⟩
  | .profileSave => ⟨0x43, false, true, 1⟩
  | .backwashNow => ⟨0x50, false, true, 0⟩
  | .indexNow => ⟨0x51, false, true, 0⟩
  | .fleeceLoaded => ⟨0x52, false, true, 2⟩
  | .hold => ⟨0x60, false, true, 0⟩
  | .release => ⟨0x61, false, true, 1⟩
  | .resume => ⟨0x62, false, true, 0⟩
  | .ringCleared => ⟨0x63, false, true, 0⟩
  | .ringFlush => ⟨0x64, false, true, 0⟩
  | .setPocketLimit => ⟨0x65, false, true, 1⟩
  | .carouselRetry => ⟨0x66, false, true, 0⟩
  | .crusherClear => ⟨0x70, false, true, 1⟩
  | .binEmptied => ⟨0x71, false, true, 1⟩
  | .stationWatch => ⟨0x80, false, true, 2⟩
  | .eventLevel => ⟨0x81, false, true, 2⟩
  | .lineStop => ⟨0x90, false, true, 0⟩
  | .lineResume => ⟨0x91, false, true, 0⟩
  | .lineRestart => ⟨0x92, false, true, 0⟩

/-- The kinds in the order of Table 11-4. -/
def allKinds : List Kind :=
  [.status, .range, .keepA, .keepB, .coolantAsk, .coolantEnd, .dischargeAsk, .dischargeGo, .dischargeDone,
   .dischargeCancel, .tableRead, .lotRead, .profileRead, .profileWrite, .profileLoad, .profileSave, .backwashNow,
   .indexNow, .fleeceLoaded, .hold, .release, .resume, .ringCleared, .ringFlush, .setPocketLimit, .carouselRetry,
   .crusherClear, .binEmptied, .stationWatch, .eventLevel, .lineStop, .lineResume, .lineRestart]

/-- The code byte of a kind. -/
def kindCode (k : Kind) : Byte := byteOf (kindRow k).code

/-- The kind of a code byte, none where Table 11-4 has none. -/
def kindOfCode (b : Byte) : Option Kind := allKinds.find? (fun k => kindCode k == b)

/-- Whether a port takes a kind (the column "Ports" of Table 11-4). -/
def Kind.takenOn (k : Kind) : Port → Bool
  | .station _ => (kindRow k).onStations
  | .hall => (kindRow k).onHall

/-- R169: the kinds that a port of a LAPSED or LOST station still takes. -/
def Kind.takenUnlive : Kind → Bool
  | .keepA => true
  | .keepB => true
  | .status => true
  | .range => true
  | _ => false

/-- The address of a port in its frames (section 3.2 of 00_scope.md, Table 11-1). -/
def portAddress : Port → Byte
  | .station st => byteOf (stationNumber st)
  | .hall => 15#8

/-- What a circuit code names on a port (Table 11-4, R4 steps 2 and 3). -/
inductive CircuitOperand
  | slot (sl : Slot)
  | unknown
  | wrongPort
  deriving DecidableEq, Repr

/-- The slot that a circuit code and a port select (R1, R4): SPINDLE 0, FLOOD 1, WASH1 2, WASH2 3. -/
def circuitOperand (p : Port) (code : Nat) : CircuitOperand :=
  match p, code with
  | .station st, 0 => .slot (.station st .spindle)
  | .station st, 1 => .slot (.station st .flood)
  | .station _, 2 => .wrongPort
  | .station _, 3 => .wrongPort
  | .hall, 0 => .wrongPort
  | .hall, 1 => .wrongPort
  | .hall, 2 => .slot .wash1
  | .hall, 3 => .slot .wash2
  | _, _ => .unknown

/-- The code of a slot's circuit (Table 11-4). -/
def circuitCode : Slot → Nat
  | .station _ .spindle => 0
  | .station _ .flood => 1
  | .wash1 => 2
  | .wash2 => 3

/-- The parameter set of a number (R134, R135). -/
def setOfNumber : Nat → Option SetNumber
  | 0 => some .set0
  | 1 => some .set1
  | 2 => some .set2
  | _ => none

/-- A set's number. -/
def setNumberCode : SetNumber → Nat
  | .set0 => 0 | .set1 => 1 | .set2 => 2

/-- The action of CRUSHER_CLEAR (Table 11-4). -/
inductive ClearAction
  | retry | reject
  deriving DecidableEq, Repr

/-- The action of a code: 1 RETRY, 2 REJECT. -/
def clearActionOfCode : Nat → Option ClearAction
  | 1 => some .retry
  | 2 => some .reject
  | _ => none

/-- The bin of BIN_EMPTIED (Table 11-4). -/
inductive BinOperand
  | bin (f : Family)
  | reject
  deriving DecidableEq, Repr

/-- The bin of a code: 1 LIGHT, 2 FERROUS, 3 HARD, 4 SLUDGE, 5 REJECT. -/
def binOfCode : Nat → Option BinOperand
  | 1 => some (.bin (.chip .light))
  | 2 => some (.bin (.chip .ferrous))
  | 3 => some (.bin (.chip .hard))
  | 4 => some (.bin .sludge)
  | 5 => some .reject
  | _ => none

/-! ## Codes that replies carry: an enumerated field is coded as its position in its list, from 0 (section 11.1) -/

/-- Table 11-3. -/
def resultCode : Result → Nat
  | .done => 0 | .clamped => 1 | .wait => 2 | .busy => 3 | .repeated => 4 | .empty => 5 | .late => 6 | .oversize => 7
  | .notLive => 8 | .refusedKind => 9 | .refusedRange => 10 | .refusedState => 11 | .refusedOrder => 12

/-- Note 1 of Table 11-4: ABSENT, GRANTED, TRIMMED, WAITING, SUSPENDED. -/
def entryStateCode : EntryState → Nat
  | .granted => 1 | .trimmed => 2 | .waiting => 3 | .suspended => 4

/-- Table 11-5: LOST, LIVE, LAPSED. -/
def watchStateCode : WatchState → Nat
  | .lost => 0 | .live => 1 | .lapsed => 2

/-- Table 11-6: GOOD, HOLDING, DEGRADED. -/
def conditionCode : Condition → Nat
  | .good => 0 | .holding => 1 | .degraded => 2

/-- Table 11-6: UNSET, CRITICAL, LOW, NORMAL, HIGH. -/
def bandCode : Option Band → Nat
  | none => 0 | some .critical => 1 | some .low => 2 | some .normal => 3 | some .high => 4

/-- Table 11-6: GOOD, DIP, FAILED, RECOVERING. -/
def monitorCode : Monitor → Nat
  | .good => 0 | .dip _ => 1 | .failed => 2 | .recovering _ => 3

/-- Table 11-6: NONE, FIELD_SUPPLY, HALL. -/
def lastCauseCode : Option StopCause → Nat
  | none => 0 | some .fieldSupply => 1 | some .hall => 2

/-- Table 11-6: FILTERING, BACKWASH, SETTLE, INDEXING. -/
def filterStateCode : FilterState → Nat
  | .filtering => 0 | .backwash _ => 1 | .settle _ => 2 | .indexing _ _ _ => 3

/-- Table 11-6: UNSURVEYED, FLUSHING, SURVEYED. -/
def surveyCode : Survey → Nat
  | .unsurveyed => 0 | .flushing => 1 | .surveyed => 2

/-- Table 11-6: RUN, HOLD. -/
def modeCode : Mode → Nat
  | .run => 0 | .hold _ => 1

/-- Table 11-6: IDLE, INDEXING, SUSPENDED, FAULTED. -/
def indexStateCode : IndexState → Nat
  | .idle => 0 | .indexing _ _ => 1 | .suspended _ _ => 2 | .faulted _ => 3

/-- Table 11-6: STOPPED, RUN_UP, IDLE_RUN, PURGE, CRUSHING, REVERSING, BLOCKED, PASS_THROUGH, RUN_DOWN. -/
def crusherStateCode : CrusherState → Nat
  | .stopped => 0 | .runUp _ => 1 | .idleRun _ => 2 | .purge _ _ => 3 | .crushing => 4 | .reversing _ => 5
  | .blocked => 6 | .passThrough => 7 | .runDown _ => 8

/-- Table 11-6: NONE, LIGHT, FERROUS, HARD. -/
def currentFamilyCode : Option ChipFamily → Nat
  | none => 0 | some f => chipFamilyCode f

/-- Table 11-5: NONE, CRUSHED, REJECTED. -/
def lastOutcomeCode : LastOutcome → Nat
  | .crushed => 1 | .rejected => 2

/-- Table 11-7: QUEUED, TIPPING, IN_CRUSHER. -/
def stageCode : Stage → Nat
  | .queued => 0 | .tipping => 1 | .inCrusher => 2

/-- Table 11-5: NONE, PENDING, OFFERED, OPEN. -/
def dischargeStateCode : Option DischargeState → Nat
  | none => 0 | some .pending => 1 | some (.offered _ _) => 2 | some (.opened _ _ _) => 3

/-- Note 2 of Table 11-4: bit 0 OVERFULL, bit 1 TIMED_OUT, bit 2 CUT_SHORT. -/
def lotFlagsByte (f : LotFlags) : Nat := boolCode f.overfull + 2 * boolCode f.timedOut + 4 * boolCode f.cutShort

end Sys2Proof.Machine
end

