-- ==== Sys2Proof/Machine/Ops.lean ====
section
/-! DEFINITION. Named operations that several blocks share: the working copy, the pocket accounting, the current
discharge, the drive commands and the chute counter. -/

namespace Sys2Proof.Machine

/-- Seconds as milliseconds. -/
def sec (n : Nat) : Nat := n * 1000

/-- Milliseconds as whole seconds, rounded up (R80, R114, R184). -/
def wholeSeconds (ms : Nat) : Nat := ceilDiv ms 1000

/-- The line parameters of the working copy. -/
def State.line (s : State) : LineParams := s.store.working.line

/-- R25, R27, R29: the condition of a channel with its count of consecutive faulted samples (DEDUCED, log entry 13). -/
def conditionOf (faults : Nat) : Condition :=
  if faults = 0 then .good else if faults < Config.faultLimit then .holding else .degraded

/-! ## The current discharge and the pocket accounting -/

/-- Whether a discharge request is the current discharge: OFFERED or OPEN (R60). -/
def DischargeRequest.isCurrent (r : DischargeRequest) : Bool :=
  match r.state with
  | .pending => false
  | .offered _ _ => true
  | .opened _ _ _ => true

/-- The reserved span that a request's state carries. -/
def DischargeState.span : DischargeState → Nat
  | .pending => 0
  | .offered k _ => k
  | .opened k _ _ => k

/-- The request in one place, if it is OFFERED or OPEN. -/
def currentAt (s : State) (src : Source) : Option (Source × DischargeRequest) :=
  match s.arbiter.requests.get src with
  | some r => if r.isCurrent then some (src, r) else none
  | none => none

/-- The arbiter's current discharge (R60), sought in the order of the sources. -/
def State.current (s : State) : Option (Source × DischargeRequest) := allSources.findSome? (currentAt s)

/-- R81, R85: the span of the reservation, which stands while there is a current discharge. -/
def State.reservedSpan (s : State) : Nat :=
  match s.current with
  | some (_, r) => r.state.span
  | none => 0

/-- The pockets that the lots of the queue span. -/
def State.lotPockets (s : State) : Nat := (s.carousel.queue.map LotRecord.span).sum

/-- R84: the pockets occupied, the reservation included. -/
def State.occupied (s : State) : Nat := s.lotPockets + s.reservedSpan

/-- R84: the free pockets. -/
def State.freePockets (s : State) : Nat := s.line.inService - s.occupied

/-- R96: the carousel is empty: no lot, no reservation, index state IDLE. -/
def State.carouselEmpty (s : State) : Bool :=
  s.carousel.queue.isEmpty && s.current.isNone && decide (s.carousel.index = .idle)

/-- The release count as reported (R94, R95). -/
def Mode.releases : Mode → Nat
  | .run => 0
  | .hold n => n

/-- R88, R105: the mode lets the head lot go: RUN, or HOLD with a release count above 0. -/
def Mode.letsThrough : Mode → Bool
  | .run => true
  | .hold n => decide (0 < n)

/-- The head lot. -/
def State.headLot (s : State) : Option LotRecord := s.carousel.queue.head?

/-- A lot is sludge when its material is 0. -/
def LotRecord.isSludge (l : LotRecord) : Bool :=
  match l.content with
  | .sludge => true
  | .chips _ _ => false

/-- The family of a lot. -/
def LotRecord.family (l : LotRecord) : Family :=
  match l.content with
  | .sludge => .sludge
  | .chips _ c => .chip c.family

/-- The speed setpoint of a lot; absent for sludge (R82). -/
def LotRecord.speed? (l : LotRecord) : Option Nat :=
  match l.content with
  | .sludge => none
  | .chips _ c => some c.speed

/-- The fill of a bin. -/
def Fills.get (f : Fills) : Family → Nat
  | .chip .light => f.light
  | .chip .ferrous => f.ferrous
  | .chip .hard => f.hard
  | .sludge => f.sludge

/-- The fills with that of one bin replaced. -/
def Fills.set (f : Fills) (b : Family) (v : Nat) : Fills :=
  match b with
  | .chip .light => { f with light := v }
  | .chip .ferrous => { f with ferrous := v }
  | .chip .hard => { f with hard := v }
  | .sludge => { f with sludge := v }

/-- The capacity of a bin in the working copy (items 35 to 38). -/
def LineParams.cBin (l : LineParams) : Family → Nat
  | .chip .light => l.cBinLight
  | .chip .ferrous => l.cBinFerrous
  | .chip .hard => l.cBinHard
  | .sludge => l.cBinSludge

/-- R120: a bin is full while its fill is at or above its capacity. -/
def State.binFull (s : State) (b : Family) : Bool := decide (s.line.cBin b ≤ s.crusher.fills.get b)

/-! ## Drive commands -/

/-- R142: what a change of the crusher drive's direction does to the shaft window counter. -/
def shaftOnDirection (ppr : Nat) (before after : Direction) (w : ShaftWindow) : ShaftWindow :=
  if before = after then w
  else if after = .forward then .counting 0 ppr Config.shaftWindow
  else .idle

/-- R158: a drive command with the setpoint it carries; without one the speed reference is kept. The measurement unit is
handed each change of direction (R142). -/
def driveCrusher (d : Direction) (setpoint : Option Nat) (s : State) : State :=
  { s with
    drive := { s.drive with direction := d, speed := setpoint <|> s.drive.speed }
    measure := { s.measure with shaft := shaftOnDirection s.line.ppr s.drive.direction d s.measure.shaft } }

/-- R158: a setpoint alone. -/
def setSpeed (setpoint : Option Nat) (s : State) : State :=
  { s with drive := { s.drive with speed := setpoint <|> s.drive.speed } }

/-- R158: the forward contact output is made in FORWARD alone. -/
def Drive.forwardContact (d : Drive) : Bool := decide (d.direction = .forward)

/-- R158: the reverse contact output is made in REVERSE alone. -/
def Drive.reverseContact (d : Drive) : Bool := decide (d.direction = .reverse)

/-- R158: the speed output carries the speed reference in FORWARD and REVERSE, and 0 in STOPPED. A drive that runs with the
reference none, which no run reaches, has none to carry (log entry 16). -/
def Drive.speedOutput (d : Drive) : Option Nat :=
  match d.direction with
  | .stopped => some 0
  | .forward => d.speed
  | .reverse => d.speed

/-- R160: the position of the spray valve, CLOSED while the channel is OFF. -/
def Drive.sprayValveOpen (d : Drive) : Bool :=
  match d.spray with
  | .off => false
  | .on valveOpen _ => valveOpen

/-- R159: the carousel step output. -/
def setStep (b : Bool) (s : State) : State := { s with drive := { s.drive with step := b } }

/-- R159: the fleece motor output. -/
def setFleeceMotor (b : Bool) (s : State) : State := { s with drive := { s.drive with fleeceMotor := b } }

/-- R160: the spray valve channel turned ON opens the valve at once and starts the toggle timer at Tspray. -/
def sprayOn (s : State) : State := { s with drive := { s.drive with spray := .on true s.line.tSpray } }

/-- R160: the spray valve channel turned OFF closes the valve and discards the toggle timer. -/
def sprayOff (s : State) : State := { s with drive := { s.drive with spray := .off } }

/-- R161: the sludge flap. -/
def setFlap (f : Flap) (s : State) : State := { s with drive := { s.drive with flap := f } }

/-- R161: the bin gate. -/
def setBinGate (g : BinGate) (s : State) : State := { s with drive := { s.drive with binGate := g } }

/-- R162: the chute gate of a station, or for source 7 the trough dump valve. -/
def setGate (src : Source) (isOpen : Bool) (s : State) : State :=
  match src with
  | .station st => { s with drive := { s.drive with gates := s.drive.gates.set st isOpen } }
  | .sludge => { s with drive := { s.drive with dumpValve := isOpen } }

/-- R144: a gate opening sets the chute count to 0 and turns the enable on. -/
def startChute (s : State) : State := { s with measure := { s.measure with chute := ⟨0, true⟩ } }

/-- R144: finalisation turns the enable off; the count keeps its value. -/
def stopChute (s : State) : State :=
  { s with measure := { s.measure with chute := { s.measure.chute with enabled := false } } }

end Sys2Proof.Machine
end

