-- ==== Sys2Proof/Machine/Allotment.lean ====
section
/-! DEFINITION. The allotment pass (section 1.6) and the staging of valve duties that follows it (R153, R154). -/

namespace Sys2Proof.Machine

/-! ## Entries and the pass order -/

/-- R3: an entry is admitted when it is GRANTED or TRIMMED. -/
def Entry.admitted (e : Entry) : Bool :=
  match e.state with
  | .granted => true
  | .trimmed => true
  | .waiting => false
  | .suspended => false

/-- R16: the need of an entry: the asked flow for SPINDLE, whose floor is absent, and the floor for the others. -/
def Entry.need (e : Entry) : Nat :=
  match e.floor with
  | none => e.asked
  | some f => f

/-- R17: the want of an entry: the asked flow less the floor; none for SPINDLE. -/
def Entry.want (e : Entry) : Nat :=
  match e.floor with
  | none => 0
  | some f => e.asked - f

/-- The granted flow of a slot; an empty one counts as 0 (R20). -/
def grantOf (e : Option Entry) : Nat :=
  match e with
  | none => 0
  | some e => e.granted

/-- R15: the source number of a slot, the hall's being 7. -/
def slotSource : Slot → Nat
  | .station s _ => stationNumber s
  | .wash1 => 7
  | .wash2 => 7

/-- R15: SPINDLE before FLOOD, WASH1 before WASH2. -/
def circuitRank : Slot → Nat
  | .station _ .spindle => 0
  | .station _ .flood => 1
  | .wash1 => 0
  | .wash2 => 1

/-- R15: whether the first entry comes before the second in the pass order, by urgency, standing, source and circuit. -/
def passBefore (a b : Slot × Entry) : Bool :=
  if a.2.urgency ≠ b.2.urgency then decide (b.2.urgency < a.2.urgency)
  else if a.2.admitted ≠ b.2.admitted then a.2.admitted
  else if slotSource a.1 ≠ slotSource b.1 then decide (slotSource a.1 < slotSource b.1)
  else decide (circuitRank a.1 < circuitRank b.1)

/-- An entry put into its place in a pass order. -/
def insertPass (x : Slot × Entry) : List (Slot × Entry) → List (Slot × Entry)
  | [] => [x]
  | y :: ys => if passBefore x y then x :: y :: ys else y :: insertPass x ys

/-- The entry of a slot as far as it takes part in a pass: a SUSPENDED one is set aside (R14). -/
def passEntry (t : PerSlot (Option Entry)) (sl : Slot) : Option (Slot × Entry) :=
  match t.get sl with
  | none => none
  | some e => if e.state = .suspended then none else some (sl, e)

/-- R15: the pass order of a table. -/
def passOrder (t : PerSlot (Option Entry)) : List (Slot × Entry) :=
  (allSlots.filterMap (passEntry t)).foldr insertPass []

/-! ## The two halves of a pass -/

/-- An entry as pass 1 leaves it: its slot, the entry, and whether it was admitted. -/
structure PassLine where
  slot : Slot
  entry : Entry
  taken : Bool
  deriving DecidableEq, Repr

/-- R16: whether an entry is blocked by the blocking urgency. -/
def isBlocked (blocking : Option Nat) (e : Entry) : Bool :=
  match blocking with
  | none => false
  | some u => decide (e.urgency < u)

/-- R16: pass 1 over the pass order, with the remainder and the blocking urgency; its lines, and the remainder it leaves. -/
def pass1 : Nat → Option Nat → List (Slot × Entry) → List PassLine × Nat
  | r, _, [] => ([], r)
  | r, blocking, (sl, e) :: rest =>
    if !isBlocked blocking e && decide (e.need ≤ r) then
      let out := pass1 (r - e.need) blocking rest
      (⟨sl, e, true⟩ :: out.1, out.2)
    else
      let out := pass1 r (blocking <|> some e.urgency) rest
      (⟨sl, e, false⟩ :: out.1, out.2)

/-- R17: the want of a line as a sharer. -/
def PassLine.want (l : PassLine) : Nat := if l.taken then l.entry.want else 0

/-- R17: W, the sum of the sharers' wants. -/
def wantSum (ls : List PassLine) : Nat := (ls.map PassLine.want).sum

/-- R17, R18: a line's share before the leftover litres. -/
def baseShare (pool total : Nat) (l : PassLine) : Nat :=
  if total ≤ pool then l.want else pool * l.want / total

/-- R18: the leftover of the pool, 0 when every want is met. -/
def leftover (pool total : Nat) (ls : List PassLine) : Nat :=
  if total ≤ pool then 0 else pool - (ls.map (baseShare pool total)).sum

/-- R19: an admitted entry with its granted flow. -/
def Entry.grant (e : Entry) (flow : Nat) : Entry :=
  { e with granted := flow, state := if flow = e.asked then .granted else .trimmed }

/-- R16, R19: an entry that went WAITING. -/
def Entry.wait (e : Entry) : Entry := { e with granted := 0, state := .waiting }

/-- R18, R19: the entries after pass 2, one leftover litre going to each of the first sharers in pass order. -/
def pass2 (pool total : Nat) : Nat → List PassLine → List (Slot × Entry)
  | _, [] => []
  | left, l :: rest =>
    if l.taken then
      if 0 < l.want && 0 < left then
        (l.slot, l.entry.grant (l.entry.need + baseShare pool total l + 1)) :: pass2 pool total (left - 1) rest
      else
        (l.slot, l.entry.grant (l.entry.need + baseShare pool total l)) :: pass2 pool total left rest
    else (l.slot, l.entry.wait) :: pass2 pool total left rest

/-- The entries that a pass writes, in pass order, from a figure and a table (R14 to R19). -/
def passResult (figure : Nat) (t : PerSlot (Option Entry)) : List (Slot × Entry) :=
  let first := pass1 figure none (passOrder t)
  let total := wantSum first.1
  pass2 first.2 total (leftover first.2 total first.1) first.1

/-- R14: the table after a pass. -/
def passTable (figure : Nat) (t : PerSlot (Option Entry)) : PerSlot (Option Entry) :=
  (passResult figure t).foldl (fun t x => t.set x.1 (some x.2)) t

/-! ## Valve duties -/

/-- R153: the target duty of a granted flow. -/
def targetDuty (granted vmax : Nat) : Nat := min 1000 (ceilDiv (granted * 1000) vmax)

/-- R154: the comparison of a channel's applied duty with its target. -/
def stageChannel (target : Nat) (c : Channel) : Channel :=
  { c with
    pending := if target < c.applied then some (.reduction target)
      else if c.applied < target then some (.increase target)
      else none }

/-- R153, R154: every channel is handed its slot's granted flow and staged. -/
def stageAll (s : State) : State :=
  { s with
    drive := { s.drive with
      channels := s.drive.channels.mapKeys (fun sl c =>
        stageChannel (targetDuty (grantOf (s.slots.get sl)) (s.store.working.vmax.get sl)) c) } }

/-! ## The pass as an event -/

/-- Whether a granted flow of a station differs between two tables. -/
def grantsDiffer (before after : PerSlot (Option Entry)) (st : Station) : Bool :=
  decide (grantOf (before.get (.station st .spindle)) ≠ grantOf (after.get (.station st .spindle))) ||
    decide (grantOf (before.get (.station st .flood)) ≠ grantOf (after.get (.station st .flood)))

/-- R20: GRANT_CHANGED is set on each station port whose granted flows differ from those before the event. -/
def flagGrants (before : PerSlot (Option Entry)) (s : State) : State :=
  allStations.foldl (fun s st => if grantsDiffer before s.slots st then postStation st .grantChanged s else s) s

/-- R13, R14, R20: the allotment pass of an event that found the given table. -/
def allotmentPass (before : PerSlot (Option Entry)) (s : State) : State :=
  flagGrants before (stageAll { s with slots := passTable s.supply.published s.slots })

/-- An event of the allotment unit: the table is changed, and the pass runs within the event (R13). -/
def tableEvent (change : PerSlot (Option Entry) → PerSlot (Option Entry)) (s : State) : State :=
  allotmentPass s.slots { s with slots := change s.slots }

/-! ## The station watch and the table -/

/-- R10: a lapsed station's entry is SUSPENDED with granted flow 0. -/
def suspendEntry (e : Option Entry) : Option Entry := e.map (fun e => { e with state := .suspended, granted := 0 })

/-- R11: a SUSPENDED entry becomes WAITING with granted flow 0. -/
def returnEntry (e : Option Entry) : Option Entry :=
  e.map (fun e => if e.state = .suspended then { e with state := .waiting, granted := 0 } else e)

/-- Both slots of a station changed by one function. -/
def onStationSlots (st : Station) (f : Option Entry → Option Entry) (t : PerSlot (Option Entry)) :
    PerSlot (Option Entry) :=
  { t with spindle := t.spindle.set st (f (t.spindle.get st)), flood := t.flood.set st (f (t.flood.get st)) }

/-- R10: the table's side of a lapse. -/
def suspendStation (st : Station) (s : State) : State := tableEvent (onStationSlots st suspendEntry) s

/-- R11: the table's side of a recovery. -/
def returnStation (st : Station) (s : State) : State := tableEvent (onStationSlots st returnEntry) s

/-- R12: the table's side of a loss. -/
def removeStation (st : Station) (s : State) : State := tableEvent (onStationSlots st (fun _ => none)) s

end Sys2Proof.Machine
end

