-- ==== Sys2Proof/Machine/Supply.lean ====
section
/-! DEFINITION. The supply unit (chapter 2): filter capacity, level band, the new supply figure and its publication. -/

namespace Sys2Proof.Machine

/-- R30: the supply unit works from the backwash DP while the filter is in BACKWASH or SETTLE. -/
def FilterState.keepsCapacity : FilterState → Bool
  | .filtering => false
  | .backwash _ => true
  | .settle _ => true
  | .indexing _ _ _ => false

/-- R30: the filter capacity Cf of a capacity DP. -/
def filterCapacity (l : LineParams) (dp : Nat) : Nat :=
  if dp ≤ l.dpClean then l.crated
  else if l.dpLimit ≤ dp then 0
  else l.crated * (l.dpLimit - dp) / (l.dpLimit - l.dpClean)

/-- R30: the kept capacity Cf'. -/
def keptCapacity (s : State) : Nat :=
  if s.filter.state.keepsCapacity then filterCapacity s.line s.supply.backwashDp * s.line.bwKeep / 16
  else filterCapacity s.line s.supply.dp

/-- R33: the band-adjusted capacity Ab. -/
def bandAdjusted (bMax kept : Nat) : Band → Nat
  | .high => kept + bMax
  | .normal => kept
  | .low => kept - bMax
  | .critical => 0

/-- R35: the new supply figure under a band. -/
def newFigure (s : State) (b : Band) : Nat :=
  if s.inSafeStop then 0 else min (bandAdjusted s.line.bMax (keptCapacity s) b) s.line.pMax

/-- R38: a publication sets the published figure, and the allotment pass runs within it. -/
def publish (figure : Nat) (s : State) : State :=
  allotmentPass s.slots { s with supply := { s.supply with published := figure } }

/-- R40: the band under which a figure may be formed: none until both start-up marks and the band are set. -/
def figureBand (s : State) : Option Band :=
  if s.supply.dpMark && s.supply.levelMark then s.supply.band else none

/-- R36, R38: a recomputation; before the first figure can be formed it does nothing (R40). -/
def recompute (s : State) : State :=
  match figureBand s with
  | none => s
  | some b =>
    let n := newFigure s b
    if n < s.supply.published || s.supply.published + s.line.supplyStep ≤ n then publish n s else s

/-- R41: line restart publishes the new figure whatever its relation to the published one, and 0 before the first. -/
def publishForced (s : State) : State :=
  match figureBand s with
  | none => publish 0 s
  | some b => publish (newFigure s b) s

/-! ## The level band -/

/-- R32: the first band, without hysteresis. -/
def firstBand (l : LineParams) (level : Nat) : Band :=
  if level < l.lMin then .critical
  else if level < l.lLo then .low
  else if level < l.lHi then .normal
  else .high

/-- R32: the downward moves from a band in force. -/
def bandDown (l : LineParams) (level : Nat) : Band → Band
  | .critical => .critical
  | .low => if level < l.lMin then .critical else .low
  | .normal => if level < l.lLo then (if level < l.lMin then .critical else .low) else .normal
  | .high =>
    if level < l.lHi then
      (if level < l.lLo then (if level < l.lMin then .critical else .low) else .normal)
    else .high

/-- R32: the upward moves from a band in force, each at H above the edge. -/
def bandUp (l : LineParams) (level : Nat) : Band → Band
  | .high => .high
  | .normal => if l.lHi + l.hyst ≤ level then .high else .normal
  | .low =>
    if l.lLo + l.hyst ≤ level then (if l.lHi + l.hyst ≤ level then .high else .normal) else .low
  | .critical =>
    if l.lMin + l.hyst ≤ level then
      (if l.lLo + l.hyst ≤ level then (if l.lHi + l.hyst ≤ level then .high else .normal) else .low)
    else .critical

/-- R32: an evaluation from a band in force; upward moves are tried only when no downward move was made. -/
def bandFrom (l : LineParams) (level : Nat) (b : Band) : Band :=
  if bandDown l level b = b then bandUp l level b else bandDown l level b

/-- R34: the band set by an evaluation, with LEVEL_CRITICAL posted when it comes into CRITICAL. -/
def setBand (b : Band) (s : State) : State :=
  let s' := { s with supply := { s.supply with band := some b } }
  if b = .critical && s.supply.band ≠ some .critical then postHall .levelCritical s' else s'

/-- R37: a re-evaluation after a write of an edge or of H, made only while the LEVEL channel is GOOD and the band set. -/
def reevaluateBand (s : State) : State :=
  match s.supply.band with
  | none => s
  | some b =>
    if conditionOf s.supply.levelFaults = .good then setBand (bandFrom s.line s.supply.level b) s else s

/-! ## Samples -/

/-- R26: a good DP sample, before the recomputation. -/
def takeGoodDp (dp : Nat) (s : State) : State :=
  { s with supply := { s.supply with dp := dp, dpFaults := 0, dpMark := true } }

/-- R27, R29: the count after a faulted sample; a fault before any sample that could be held goes straight to 21. -/
def nextFaults (nothingHeld : Bool) (faults : Nat) : Nat :=
  if nothingHeld && faults == 0 then Config.faultLimit else min Config.faultLimit (faults + 1)

/-- R27, R29: SENSOR_FAULT is posted by the sample that raises a count from 0. -/
def postFaultStart (faults : Nat) (s : State) : State := if faults = 0 then postHall .sensorFault s else s

/-- R27: a rail-faulted DP sample, before the recomputation. -/
def takeFaultedDp (s : State) : State :=
  let n := nextFaults (!s.supply.dpMark) s.supply.dpFaults
  postFaultStart s.supply.dpFaults
    { s with
      supply := { s.supply with
        dpFaults := n, dpMark := true, dp := if n = Config.faultLimit then s.line.dpTrigger else s.supply.dp } }

/-- R28: the band that a good LEVEL sample gives, from the condition the channel had before it. -/
def bandAfterLevel (s : State) (level : Nat) : Band :=
  match s.supply.band with
  | none => firstBand s.line level
  | some b =>
    if conditionOf s.supply.levelFaults = .degraded then bandFrom s.line level .low else bandFrom s.line level b

/-- R28: a good LEVEL sample, before the recomputation. -/
def takeGoodLevel (level : Nat) (s : State) : State :=
  setBand (bandAfterLevel s level)
    { s with supply := { s.supply with level := level, levelFaults := 0, levelMark := true } }

/-- R29: a rail-faulted LEVEL sample, before the recomputation; a forced LOW posts no LEVEL_CRITICAL. -/
def takeFaultedLevel (s : State) : State :=
  let n := nextFaults s.supply.band.isNone s.supply.levelFaults
  postFaultStart s.supply.levelFaults
    { s with
      supply := { s.supply with
        levelFaults := n, levelMark := true,
        band := if n = Config.faultLimit then some .low else s.supply.band } }

/-- R31: the DP copied at the start of a backwash; DPtrigger before any DP sample has completed. -/
def copyBackwashDp (s : State) : State :=
  { s with supply := { s.supply with backwashDp := if s.supply.dpMark then s.supply.dp else s.line.dpTrigger } }

end Sys2Proof.Machine
end

