-- ==== Sys2Proof/Machine/Carousel.lean ====
section
/-! DEFINITION. The pocket carousel (chapter 5): lot numbers, admission at the tail, steps, and the start of an index. -/

namespace Sys2Proof.Machine

/-! ## Lot numbers and admission -/

/-- R81: the numbers of the live lots, those of the queue and of the crusher slot. -/
def State.liveNumbers (s : State) : List Nat :=
  s.carousel.queue.map LotRecord.number ++ (match s.crusher.slot with | some x => [x.lot.number] | none => [])

/-- R83: the number after another, 65535 being followed by 1. -/
def nextNumber (n : Nat) : Nat := if n < Config.lotMax then n + 1 else 1

/-- R83: the first number from `n` on that no live lot holds, sought for at most `fuel` numbers. -/
def freeNumber (live : List Nat) : Nat → Nat → Nat
  | 0, n => n
  | fuel + 1, n => if live.contains n then freeNumber live fuel (nextNumber n) else n

/-- R83: the number given to a new lot. One number more is tried than there are live lots. -/
def State.newNumber (s : State) : Nat := freeNumber s.liveNumbers (s.liveNumbers.length + 1) s.carousel.counter

/-- R86: the copies a lot of a material takes from its entry. -/
def chipCopies (e : MaterialEntry) : ChipCopies := ⟨e.family, e.form, e.rate, e.speed, e.stall, e.purge⟩

/-- R86, R131: the content of a lot, from the working copy as it stands at admission. -/
def lotContent (p : Profile) : Cargo → LotContent
  | .chips m => .chips m (chipCopies (p.materials.get m))
  | .sludge => .sludge

/-- R86: the record of a lot admitted now. -/
def newLot (src : Source) (r : DischargeRequest) (mass span : Nat) (flags : LotFlags) (s : State) : LotRecord :=
  ⟨s.newNumber, src, lotContent s.store.working r.cargo, r.estimate, mass, span, flags, .queued⟩

/-- R83, R86: admission: the record joins the tail and the lot counter goes past its number. -/
def admitLot (l : LotRecord) (s : State) : State :=
  { s with carousel := { s.carousel with queue := s.carousel.queue ++ [l], counter := nextNumber l.number } }

/-! ## Steps -/

/-- The step fault time: 2 × Tidx as the working copy holds it (note 2 of Table 05-1). -/
def stepTime (s : State) : Nat := 2 * sec s.line.tIdx

/-- R89: a step starts: the step output runs and the step timer starts, with so many steps left. -/
def startStep (steps : Nat) (s : State) : State :=
  setStep true { s with carousel := { s.carousel with index := .indexing steps (stepTime s) } }

/-! ## The start of an index -/

/-- R88: the conditions of an index start. -/
def State.indexMayStart (s : State) : Bool :=
  s.carousel.requested && decide (s.carousel.index = .idle) && decide (s.carousel.survey = .surveyed) &&
    s.current.isNone && !s.inSafeStop && s.carousel.mode.letsThrough

/-- R89: the release count falls by 1 at an index start in HOLD. -/
def Mode.useRelease : Mode → Mode
  | .run => .run
  | .hold n => .hold (n - 1)

/-- R88, R89: the carousel tests the start conditions, and starts the index of the head lot when they hold. -/
def tryIndexStart (s : State) : State :=
  if s.indexMayStart then
    match s.carousel.queue with
    | [] => s
    | l :: rest =>
      startStep l.span
        { s with
          carousel := { s.carousel with
            queue := { l with stage := .tipping } :: rest, mode := s.carousel.mode.useRelease } }
  else s

/-- R87: the carousel takes a request when it holds a head lot in stage QUEUED, and tests the start conditions (R88). -/
def takeIndexRequest (s : State) : State :=
  match s.headLot with
  | none => s
  | some l =>
    if l.stage = .queued then tryIndexStart { s with carousel := { s.carousel with requested := true } } else s

/-- R87: an index request stands whose index has not started. -/
def State.requestNotStarted (s : State) : Bool := s.carousel.requested && decide (s.carousel.index = .idle)

end Sys2Proof.Machine
end

