-- ==== Sys2Proof/Machine/Crusher.lean ====
section
/-! DEFINITION. The crusher sequencer (chapter 6): its states and drive commands, the feed evaluation, the lot in the
slot, jams, and its part in safe stop. -/

namespace Sys2Proof.Machine

/-- The crusher state replaced. -/
def setCrusherState (c : CrusherState) (s : State) : State := { s with crusher := { s.crusher with state := c } }

/-- The crusher slot replaced. -/
def setSlot (x : Option SlotLot) (s : State) : State := { s with crusher := { s.crusher with slot := x } }

/-! ## Entering states (R104) -/

/-- A lot of the queue by its number. -/
def State.queuedLot (s : State) (n : Nat) : Option LotRecord := s.carousel.queue.find? (fun l => l.number == n)

/-- R104: the setpoint of a run-up: the slot lot's, else the awaited lot's, else the head lot's. -/
def State.runUpSpeed (s : State) : Option Nat :=
  match s.crusher.slot with
  | some x => x.lot.speed?
  | none =>
    match s.crusher.awaited with
    | some n => (s.queuedLot n).bind LotRecord.speed?
    | none => s.headLot.bind LotRecord.speed?

/-- R109: entry into RUN_UP. -/
def enterRunUp (s : State) : State :=
  driveCrusher .forward s.runUpSpeed (setCrusherState (.runUp (sec s.line.tRunUp)) s)

/-- R110: entry into IDLE_RUN, which keeps the setpoint last handed. -/
def enterIdleRun (s : State) : State :=
  driveCrusher .forward none (setCrusherState (.idleRun (sec s.line.tIdle)) s)

/-- R110, R111: entry into RUN_DOWN. -/
def enterRunDown (s : State) : State :=
  driveCrusher .stopped none (setCrusherState (.runDown (sec s.line.tRunDown)) s)

/-- Entry into STOPPED. -/
def enterStopped (s : State) : State := driveCrusher .stopped none (setCrusherState .stopped s)

/-- R114: entry into CRUSHING with the slot lot's setpoint; the stall count is 0. -/
def enterCrushing (s : State) : State :=
  driveCrusher .forward (s.crusher.slot.bind (fun x => x.lot.speed?))
    { s with crusher := { s.crusher with state := .crushing, stallCount := 0 } }

/-- R116: entry into REVERSING with the slot lot's setpoint. -/
def enterReversing (s : State) : State :=
  driveCrusher .reverse (s.crusher.slot.bind (fun x => x.lot.speed?))
    (setCrusherState (.reversing (sec s.line.tRev)) s)

/-- R116: entry into BLOCKED. -/
def enterBlocked (s : State) : State := driveCrusher .stopped none (setCrusherState .blocked s)

/-- R119: entry into PASS_THROUGH. -/
def enterPassThrough (s : State) : State := driveCrusher .stopped none (setCrusherState .passThrough s)

/-! ## The feed evaluation (R105 to R108, R111) -/

/-- R105: the conditions of the feed evaluation, but for the crusher state. -/
def State.mayFeed (s : State) : Bool :=
  s.crusher.slot.isNone && s.crusher.awaited.isNone && decide (s.carousel.survey = .surveyed) &&
    (match s.carousel.index with | .faulted _ => false | _ => true) && s.carousel.mode.letsThrough && !s.inSafeStop

/-- R107: the wait for a full bin, with BIN_FULL posted unless the mark is already that family. -/
def waitForBin (f : Family) (s : State) : State :=
  if s.crusher.binWait = some f then s
  else postHall .binFull { s with crusher := { s.crusher with binWait := some f } }

/-- R107: the evaluation that finds the bin below its capacity sets the mark to none. -/
def endBinWait (s : State) : State := { s with crusher := { s.crusher with binWait := none } }

/-- R106, R111: the sequencer asks the carousel for an index and awaits the head lot. -/
def askForIndex (l : LotRecord) (s : State) : State :=
  takeIndexRequest { s with crusher := { s.crusher with awaited := some l.number } }

/-- R108 steps 1 to 4, but for the evaluation: the gate moves, the family and the held purge time are set, IDLE_RUN. -/
def finishPurge (target : ChipFamily) (s : State) : State :=
  let held := match s.headLot.map LotRecord.content with
    | some (.chips _ c) => c.purge
    | _ => s.crusher.heldPurge
  enterIdleRun
    (setBinGate (.bin target) { s with crusher := { s.crusher with family := some target, heldPurge := held } })

/-- R108: the time of a purge for a lot: the held purge time, or the lot's own when the current family is NONE. -/
def purgeTime (c : ChipCopies) (s : State) : Nat :=
  match s.crusher.family with
  | none => c.purge
  | some _ => s.crusher.heldPurge

/-- R108: entry into PURGE, which keeps the setpoint last handed. -/
def enterPurge (time : Nat) (target : ChipFamily) (s : State) : State :=
  driveCrusher .forward none (setCrusherState (.purge (sec time) target) s)

/-- R106 step 4: flap to CRUSHER, the head lot's setpoint, and the ask. -/
def askForChips (l : LotRecord) (c : ChipCopies) (s : State) : State :=
  askForIndex l (setSpeed (some c.speed) (setFlap .crusher s))

/-- R106, R108: the evaluation for a head lot of a crushable family, its bin not full. A purge time of 0 expires at once,
and the evaluation follows in the same event: it finds the family equal and asks. -/
def feedChips (l : LotRecord) (c : ChipCopies) (s : State) : State :=
  match s.crusher.state with
  | .stopped => enterRunUp s
  | .idleRun _ =>
    if s.crusher.family = some c.family then askForChips l c s
    else if purgeTime c s = 0 then askForChips l c (finishPurge c.family s)
    else enterPurge (purgeTime c s) c.family s
  | _ => s

/-- R111: the evaluation for a sludge head lot, its bin not full. -/
def feedSludge (l : LotRecord) (s : State) : State :=
  match s.crusher.state with
  | .stopped => askForIndex l (setFlap .sludge s)
  | .idleRun _ => enterRunDown s
  | _ => s

/-- R105: the crusher states in which the evaluation acts. -/
def CrusherState.isFree : CrusherState → Bool
  | .stopped => true
  | .idleRun _ => true
  | _ => false

/-- R105 to R107, R111: the feed evaluation. -/
def feedEvaluation (s : State) : State :=
  if s.mayFeed && s.crusher.state.isFree then
    match s.headLot with
    | none => s
    | some l =>
      if l.stage = .queued then
        if s.binFull l.family then waitForBin l.family s
        else
          match l.content with
          | .chips _ c => feedChips l c (endBinWait s)
          | .sludge => feedSludge l (endBinWait s)
      else s
  else s

/-! ## The lot in the slot -/

/-- R113: the feed time of a lot in seconds. -/
def feedTime (mass rate : Nat) : Nat := max 1 (min Config.feedMax (ceilDiv (mass * 60) rate))

/-- R113: the remaining that a lot enters the slot with, in milliseconds. -/
def arrivalRemaining (l : LotRecord) (s : State) : Nat :=
  match l.content with
  | .chips _ c => sec (feedTime l.mass c.rate)
  | .sludge => sec s.line.tTransit

/-- R113: the lot enters the slot. -/
def placeInSlot (l : LotRecord) (s : State) : State :=
  { s with
    crusher := { s.crusher with
      slot := some ⟨{ l with stage := .inCrusher }, arrivalRemaining l s, 0⟩
      awaited := none
      heldPurge := match l.content with | .chips _ c => c.purge | .sludge => s.crusher.heldPurge } }

/-- R113: what the sequencer does by its state once a lot has entered the slot. -/
def actOnArrival (l : LotRecord) (s : State) : State :=
  match s.crusher.state with
  | .idleRun _ => if l.isSludge then s else enterCrushing s
  | .stopped =>
    if s.inSafeStop then s else if l.isSludge then enterPassThrough s else enterRunUp s
  | _ => s

/-- R113: lot arrival. -/
def lotArrives (l : LotRecord) (s : State) : State := actOnArrival l (placeInSlot l s)

/-- R114, R118, R120: a mass added to a fill or to the reject mass, which stop at 65535. -/
def addMass (fill mass : Nat) : Nat := min Config.fillMax (fill + mass)

/-- R114, R119: the fill of a bin raised by a mass. -/
def addFill (f : Family) (mass : Nat) (s : State) : State :=
  { s with crusher := { s.crusher with fills := s.crusher.fills.set f (addMass (s.crusher.fills.get f) mass) } }

/-- R114, R118: the last-lot report of a station lot is set, and the station kind posted. -/
def reportLot (l : LotRecord) (o : LastOutcome) (k : StationKind) (s : State) : State :=
  match l.source with
  | .station st =>
    postStation st k { s with crusher := { s.crusher with lastLots := s.crusher.lastLots.set st (some ⟨l.number, o⟩) } }
  | .sludge => s

/-- R114: the end of feed of the slot lot. -/
def endOfFeed (x : SlotLot) (s : State) : State :=
  feedEvaluation (enterIdleRun (setSlot none
    (reportLot x.lot .crushed .lotCrushed (addFill x.lot.family x.lot.mass s))))

/-- R119: the end of the transit of the slot lot. -/
def endOfTransit (x : SlotLot) (s : State) : State :=
  feedEvaluation (enterStopped (setSlot none (setFlap .crusher (addFill .sludge x.lot.mass s))))

/-! ## Jams (R115 to R117) -/

/-- R115: a window stalls when its rpm × 100 is below the stall percent × the setpoint. -/
def isStalled (rpm : Nat) (c : ChipCopies) : Bool := decide (rpm * 100 < c.stall * c.speed)

/-- R116: a jam of the slot lot. -/
def jam (x : SlotLot) (s : State) : State :=
  let s' := postHall .jam
    { s with crusher := { s.crusher with stallCount := 0, slot := some { x with jams := x.jams + 1 } } }
  if x.jams + 1 ≤ s.line.nRetry then enterReversing s' else postHall .crusherBlocked (enterBlocked s')

/-- R115, R116: a window completed in CRUSHING. -/
def testWindow (rpm : Nat) (x : SlotLot) (c : ChipCopies) (s : State) : State :=
  if isStalled rpm c then
    if s.crusher.stallCount + 1 < 3 then
      { s with crusher := { s.crusher with stallCount := s.crusher.stallCount + 1 } }
    else jam x s
  else { s with crusher := { s.crusher with stallCount := 0 } }

/-- R104, R115: a completed window is tested in CRUSHING and discarded in any other state. -/
def windowDone (rpm : Nat) (s : State) : State :=
  match s.crusher.state, s.crusher.slot with
  | .crushing, some x =>
    match x.lot.content with
    | .chips _ c => testWindow rpm x c s
    | .sludge => s
  | _, _ => s

/-- R117: a write or load of Nretry acts on the jam count of a slot lot of material 1 to 8. -/
def retryLimitWritten (s : State) : State :=
  match s.crusher.slot with
  | none => s
  | some x =>
    if x.lot.isSludge then s
    else if s.crusher.state = .blocked then setSlot (some { x with jams := s.line.nRetry + 1 }) s
    else setSlot (some { x with jams := min x.jams s.line.nRetry }) s

/-! ## Safe stop and restart (R121 to R123) -/

/-- R121, R123: every state but BLOCKED becomes STOPPED, its timer discarded, and the drive stops. -/
def crusherHalt (s : State) : State :=
  if s.crusher.state = .blocked then driveCrusher .stopped none s else enterStopped s

/-- R121: entry into safe stop; from CRUSHING the stall count becomes 0. -/
def crusherStopEntry (s : State) : State :=
  match s.crusher.state with
  | .crushing => crusherHalt { s with crusher := { s.crusher with stallCount := 0 } }
  | _ => crusherHalt s

/-- R122: exit from safe stop, and what line restart does after its halt (R123 step 4). -/
def crusherGoOn (s : State) : State :=
  match s.crusher.state with
  | .stopped =>
    match s.crusher.slot with
    | some x => if x.lot.isSludge then enterPassThrough s else enterRunUp s
    | none =>
      match s.crusher.awaited with
      | some n =>
        match s.queuedLot n with
        | some l => if l.isSludge then s else enterRunUp s
        | none => s
      | none => feedEvaluation s
  | _ => s

/-- R123 steps 1 and 2: line restart halts the crusher, with the stall count 0 and no bin wait. -/
def crusherRestart (s : State) : State :=
  crusherHalt { s with crusher := { s.crusher with stallCount := 0, binWait := none } }

end Sys2Proof.Machine
end

