-- ==== Sys2Proof/Machine/Filter.lean ====
section
/-! DEFINITION. The filter sequencer (chapter 3), but for the sludge request that it posts to the arbiter: triggers and
deferral, the start of a backwash, the settle decision and the fleece index. -/

namespace Sys2Proof.Machine

/-- The filter state replaced. -/
def setFilterState (f : FilterState) (s : State) : State := { s with filter := { s.filter with state := f } }

/-- The backwash-pending flag replaced. -/
def setPendingFlag (b : Bool) (s : State) : State := { s with filter := { s.filter with pending := b } }

/-- R46: the gap has elapsed while the gap timer is at or above BWgap. -/
def State.gapElapsed (s : State) : Bool := decide (sec s.line.bwGap ≤ s.filter.gap)

/-- R44, R47: a start needs the trough EMPTY and the line out of safe stop. -/
def State.backwashAllowed (s : State) : Bool := !s.filter.troughFull && !s.inSafeStop

/-- R31, R47: the start of a backwash from FILTERING. -/
def startBackwash (s : State) : State :=
  recompute (copyBackwashDp (sprayOn
    { s with filter := { s.filter with state := .backwash (sec s.line.bwTime), pending := false } }))

/-- R45: the pending backwash starts when the flag is set in FILTERING, the gap has elapsed, the trough is EMPTY and the
line is not in safe stop. -/
def tryPendingBackwash (s : State) : State :=
  if decide (s.filter.state = .filtering) && s.filter.pending && s.gapElapsed && s.backwashAllowed then startBackwash s
  else s

/-- R45: a trigger that cannot start a backwash. -/
def deferBackwash (s : State) : State :=
  setPendingFlag true (if s.filter.pending then s else postHall .backwashDeferred s)

/-- R44: a DP sample taken in FILTERING. -/
def testTrigger (s : State) : State :=
  if s.line.dpTrigger ≤ s.supply.dp && decide (conditionOf s.supply.dpFaults ≠ .degraded) then
    if s.gapElapsed && s.backwashAllowed then startBackwash s else deferBackwash s
  else s

/-! ## Fleece index (R51 to R54) -/

/-- R51: a fleece index begins. -/
def startFleeceIndex (s : State) : State :=
  setFleeceMotor true (setFilterState (.indexing s.line.lIdx 0 Config.fleeceStall) s)

/-- R51, R52, R53: an index ends: the motor stops, the sequencer enters FILTERING, and a pending backwash may start. -/
def endFleeceIndex (s : State) : State := tryPendingBackwash (setFleeceMotor false (setFilterState .filtering s))

/-- R53: a known fleece remaining after one pulse. -/
def fleeceAfterPulse (f : Option Nat) : Option Nat := f.map (fun n => n - 1)

/-- R53: FLEECE_LOW is posted by the pulse that takes the remaining from Lwarn or above to below it. -/
def postFleeceLow (before after : Option Nat) (s : State) : State :=
  match before, after with
  | some b, some a => if s.line.lWarn ≤ b && decide (a < s.line.lWarn) then postHall .fleeceLow s else s
  | _, _ => s

/-- R51, R53: a fleece meter pulse taken in INDEXING. -/
def meterPulse (length metered : Nat) (s : State) : State :=
  let after := fleeceAfterPulse s.filter.fleece
  let s' := postFleeceLow s.filter.fleece after
    { s with filter := { s.filter with state := .indexing length (metered + 1) Config.fleeceStall, fleece := after } }
  if after = some 0 then endFleeceIndex (postHall .fleeceOut s')
  else if length ≤ metered + 1 then endFleeceIndex s'
  else s'

/-! ## Settle (R50) -/

/-- R50: the settle decision, in its order of precedence. The supply unit recomputes on the passage out of SETTLE (R31). -/
def settleDecision (s : State) : State :=
  if s.inSafeStop then recompute (setFilterState .filtering s)
  else if s.filter.pending && !s.filter.troughFull && s.gapElapsed then
    startBackwash (recompute (setFilterState .filtering s))
  else if conditionOf s.supply.dpFaults = .degraded then recompute (setFilterState .filtering s)
  else if s.line.dpIndex ≤ s.supply.dp then
    if s.filter.fleece = some 0 then postHall .fleeceOut (recompute (setFilterState .filtering s))
    else recompute (startFleeceIndex s)
  else recompute (setFilterState .filtering s)

/-- R26, R27, R44, R50: a DP sample handed on by the supply unit. -/
def filterDpSample (s : State) : State :=
  match s.filter.state with
  | .filtering => testTrigger s
  | .settle none => settleDecision s
  | _ => s

/-! ## The trough and safe stop -/

/-- R49: the estimate of a sludge request. -/
def sludgeEstimate (l : LineParams) : Nat := min l.mSludge (4 * l.mPocket)

/-- R49: the trough becomes EMPTY. -/
def emptyTrough (s : State) : State := { s with filter := { s.filter with troughFull := false } }

/-- R57: entry into safe stop. -/
def filterStopEntry (s : State) : State :=
  match s.filter.state with
  | .backwash _ => recompute (setPendingFlag true (setFilterState .filtering (sprayOff s)))
  | .indexing _ _ _ => setFleeceMotor false (setFilterState .filtering s)
  | _ => s

/-- R58: line restart, but for the sludge request that it posts again. -/
def filterRestart (s : State) : State :=
  match s.filter.state with
  | .backwash _ => setFilterState (.settle (some (sec s.line.tSettle))) (sprayOff s)
  | .indexing _ _ _ => setFleeceMotor false (setFilterState .filtering s)
  | _ => s

end Sys2Proof.Machine
end

