-- ==== Sys2Proof/Machine/Arbiter.lean ====
section
/-! DEFINITION. The discharge arbiter (chapter 4): arbitration and offers, displacement, the gate, and finalisation into
lots. -/

namespace Sys2Proof.Machine

/-- The place of a source replaced. -/
def setPlace (src : Source) (r : Option DischargeRequest) (s : State) : State :=
  { s with arbiter := { s.arbiter with requests := s.arbiter.requests.set src r } }

/-- The request of a source. -/
def State.request (s : State) (src : Source) : Option DischargeRequest := s.arbiter.requests.get src

/-- The late report of a station replaced (R74). -/
def setLate (st : Station) (o : Option Outcome) (s : State) : State :=
  { s with arbiter := { s.arbiter with late := s.arbiter.late.set st o } }

/-! ## Arbitration (R65, R66) -/

/-- R65: the conditions of arbitration. -/
def State.mayArbitrate (s : State) : Bool :=
  s.current.isNone && decide (s.carousel.survey = .surveyed) && decide (s.carousel.index = .idle) &&
    !s.carousel.requested && !s.inSafeStop

/-- R66: of a source and a candidate found among later sources, the top one: the higher urgency, else the lower source. -/
def topOf (s : State) (src : Source) (best : Option (Source × DischargeRequest)) : Option (Source × DischargeRequest) :=
  match s.request src with
  | none => best
  | some r =>
    if r.state = .pending then
      match best with
      | none => some (src, r)
      | some b => if b.2.urgency ≤ r.urgency then some (src, r) else some b
    else best

/-- R66: the top candidate among the PENDING requests. -/
def State.topCandidate (s : State) : Option (Source × DischargeRequest) := allSources.foldr (topOf s) none

/-- R66: the span of a request: the estimate divided by Mpocket, rounded up, cut to 4. -/
def requestSpan (estimate mPocket : Nat) : Nat := min Config.spanMax (ceilDiv estimate mPocket)

/-- R67: an offer to a station. -/
def offerTo (st : Station) (r : DischargeRequest) (k : Nat) (s : State) : State :=
  postStation st .offerMade
    (setPlace (.station st) (some { r with state := .offered k (sec s.line.tOffer) }) s)

/-- R68, R144, R162: a gate opens on a request: the chute count is zeroed and the gate opened. -/
def openGate (src : Source) (r : DischargeRequest) (k : Nat) (dump : Option Nat) (s : State) : State :=
  setGate src true (startChute (setPlace src (some { r with state := .opened k (sec s.line.tGate) dump }) s))

/-- R66, R67, R76: the chosen request is offered its pockets, or for source 7 opened at once. -/
def choose (src : Source) (r : DischargeRequest) (k : Nat) (s : State) : State :=
  match src with
  | .station st => offerTo st r k s
  | .sludge => openGate .sludge r k (some (sec s.line.tDump)) s

/-- R65, R66: an arbitration, made when its conditions hold. -/
def arbitrate (s : State) : State :=
  if s.mayArbitrate then
    match s.topCandidate with
    | none => s
    | some (src, r) =>
      let k := requestSpan r.estimate s.line.mPocket
      if k ≤ s.freePockets then choose src r k s else s
  else s

/-- R65, R88: the chute or the ring has been freed: the carousel tests its start conditions, and then the arbiter
arbitrates (DESIGN CHOICE, log entry 10). -/
def chuteFreed (s : State) : State := arbitrate (tryIndexStart s)

/-! ## Displacement (R70) -/

/-- R70: whether a new request displaces the current discharge: an offer to another source of strictly lower urgency. -/
def displaced (src : Source) (urgency : Nat) (c : Source × DischargeRequest) : Bool :=
  match c.2.state with
  | .offered _ _ => decide (c.1 ≠ src) && decide (c.2.urgency < urgency)
  | _ => false

/-- R70, R78: an offer is withdrawn: the request goes back to PENDING and OFFER_WITHDRAWN is posted. -/
def withdrawOffer (src : Source) (r : DischargeRequest) (s : State) : State :=
  let s' := setPlace src (some { r with state := .pending }) s
  match src with
  | .station st => postStation st .offerWithdrawn s'
  | .sludge => s'

/-- R63, R70, R76: after a request has been stored, displacement is applied and the arbiter arbitrates. -/
def afterRequest (src : Source) (urgency : Nat) (s : State) : State :=
  match s.current with
  | some c => if displaced src urgency c then chuteFreed (withdrawOffer c.1 c.2 s) else arbitrate s
  | none => arbitrate s

/-- R49, R76: the sludge request as it is posted. -/
def sludgeRequest (s : State) : DischargeRequest := ⟨.sludge, sludgeEstimate s.line, 6, .pending⟩

/-- R76: the sludge request is stored in place 7. -/
def storeSludge (s : State) : State := setPlace .sludge (some (sludgeRequest s)) s

/-! ## Finalisation (R75) -/

/-- What ends a discharge, as far as it sets an end flag (R75 step 5). -/
inductive EndCause
  | done | timedOut | cutShort
  deriving DecidableEq, Repr

/-- R75 step 2: the measured mass. -/
def measuredMass (s : State) : Nat := min Config.massMax (s.measure.chute.count / s.line.ppk)

/-- R75 step 4: the span of a lot: at least 1, at most the reserved span. -/
def lotSpan (mass mPocket reserved : Nat) : Nat := min reserved (max 1 (ceilDiv mass mPocket))

/-- R75 steps 4 and 5: the flags of an outcome. -/
def endFlags (overfull : Bool) (c : EndCause) : LotFlags :=
  ⟨overfull, decide (c = .timedOut), decide (c = .cutShort)⟩

/-- R75 steps 1 and 6: the gate closes, the chute counter stops, and the request is removed; for source 7 the trough
becomes EMPTY. -/
def closeDischarge (src : Source) (s : State) : State :=
  let s' := setPlace src none (stopChute (setGate src false s))
  match src with
  | .station _ => s'
  | .sludge => emptyTrough s'

/-- R75: a finalisation of the OPEN request of a source, with its outcome, but for what follows it in other blocks. -/
def finalise (src : Source) (r : DischargeRequest) (reserved : Nat) (c : EndCause) (s : State) : State × Outcome :=
  let m := measuredMass s
  if m = 0 then (closeDischarge src s, ⟨none, 0, 0, endFlags false c⟩)
  else
    let span := lotSpan m s.line.mPocket reserved
    let flags := endFlags (decide (reserved * s.line.mPocket < m)) c
    let lot := newLot src r m span flags s
    (closeDischarge src (admitLot lot s), ⟨some lot.number, m, span, flags⟩)

/-- R86: the appearance of a head lot is handed to the crusher sequencer when the queue was empty before. -/
def headAppears (wasEmpty : Bool) (s : State) : State :=
  if wasEmpty && !s.carousel.queue.isEmpty then feedEvaluation s else s

/-- R49: the emptying of the trough, which a source-7 finalisation makes, may start a pending backwash at once. -/
def troughEmptied (src : Source) (s : State) : State :=
  match src with
  | .station _ => s
  | .sludge => tryPendingBackwash s

/-- What follows a finalisation: the appearance of a head lot (R86), the emptying of the trough (R49), the carousel's
test (R88) and arbitration (R65), in this order (DESIGN CHOICE, log entry 10). In safe stop none of them acts (R78). -/
def afterFinalise (src : Source) (wasEmpty : Bool) (s : State) : State :=
  chuteFreed (troughEmptied src (headAppears wasEmpty s))

/-- R75: a finalisation with what follows it. -/
def finaliseEvent (src : Source) (r : DischargeRequest) (reserved : Nat) (c : EndCause) (s : State) : State × Outcome :=
  let out := finalise src r reserved c s
  (afterFinalise src s.carousel.queue.isEmpty out.1, out.2)

/-- R74: the outcome of a finalisation made without DONE is stored as a station's late report, with the flag of its end
even where there is no lot (DEDUCED, log entry 15). -/
def keepLate (src : Source) (o : Outcome) (s : State) : State :=
  match src with
  | .station st => setLate st (some o) s
  | .sludge => s

/-- R73, R77, R78: a finalisation made without DONE, its outcome kept as the late report, with what follows it. -/
def finaliseLate (src : Source) (r : DischargeRequest) (reserved : Nat) (c : EndCause) (s : State) : State :=
  let out := finaliseEvent src r reserved c s
  keepLate src out.2 out.1

/-! ## Lapse, loss, safe stop and restart -/

/-- R77: the station watch takes a station to LAPSED. -/
def arbiterLapse (st : Station) (s : State) : State :=
  match s.request (.station st) with
  | none => arbitrate s
  | some r =>
    match r.state with
    | .pending => arbitrate (setPlace (.station st) none s)
    | .offered _ _ => chuteFreed (setPlace (.station st) none s)
    | .opened k _ _ => finaliseLate (.station st) r k .cutShort s

/-- R78: entry into safe stop ends the current discharge. -/
def arbiterStopEntry (s : State) : State :=
  match s.current with
  | none => s
  | some (src, r) =>
    match r.state with
    | .pending => s
    | .offered _ _ => withdrawOffer src r s
    | .opened k _ _ => finaliseLate src r k .cutShort s

/-- R79 step 1: line restart finalises an OPEN request; nothing follows it before the restart goes on. -/
def arbiterRestartEnd (s : State) : State :=
  match s.current with
  | none => s
  | some (src, r) =>
    match r.state with
    | .opened k _ _ => (finalise src r k .cutShort s).1
    | _ => s

/-- R79: line restart's effect on the arbiter: an open gate is finalised, every request and late report removed. -/
def arbiterRestart (s : State) : State :=
  let s' := arbiterRestartEnd s
  { s' with arbiter := arbiterPowerOn }

end Sys2Proof.Machine
end

