-- ==== Sys2Proof/Machine/Ring.lean ====
section
/-! DEFINITION. What moves the carousel and what stops it (chapter 5): step edges and faults, the end of an index and of a
flush, withdrawals of the index request, safe stop and restart. -/

namespace Sys2Proof.Machine

/-- R90: the queue without its head lot, the request flag clear, the index state IDLE. -/
def takeHead (s : State) : State :=
  { s with carousel := { s.carousel with queue := s.carousel.queue.tail, requested := false, index := .idle } }

/-- R90: the index completes: the head lot enters the crusher slot (R113), the next head lot appears, and the arbiter
arbitrates with the pockets freed. An empty queue, which no run reaches here, only ends the index (log entry 16). -/
def completeIndex (s : State) : State :=
  match s.carousel.queue with
  | [] => takeHead s
  | l :: _ => arbitrate (feedEvaluation (lotArrives l (takeHead s)))

/-- R99: the end of a flush: the sludge flap returns to CRUSHER, the index state is IDLE, the survey state SURVEYED, and the
arbiter arbitrates (R97). -/
def endFlush (s : State) : State :=
  arbitrate (setFlap .crusher { s with carousel := { s.carousel with index := .idle, survey := .surveyed } })

/-- R90, R99: the last step of an index or of a flush has been made. -/
def lastStepMade (s : State) : State :=
  if s.carousel.survey = .flushing then endFlush s else completeIndex s

/-- R89, R100: an INDEX edge. In motion it ends the step; in SUSPENDED the first one is the run-on edge of the interrupted
step; in any other state it is ignored. -/
def indexEdge (s : State) : State :=
  match s.carousel.index with
  | .indexing n _ => if n ≤ 1 then lastStepMade (setStep false s) else startStep (n - 1) (setStep false s)
  | .suspended n false => { s with carousel := { s.carousel with index := .suspended (n - 1) true } }
  | _ => s

/-- R91: a step timer runs out before its edge. -/
def stepFails (s : State) : State :=
  match s.carousel.index with
  | .indexing n _ =>
    postHall .carouselFault (setStep false { s with carousel := { s.carousel with index := .faulted n } })
  | _ => s

/-- R87, R112: a standing index request whose index has not started is withdrawn: the flag is cleared and the awaited lot
becomes none. -/
def withdrawRequest (s : State) : State :=
  if s.requestNotStarted then
    { s with
      carousel := { s.carousel with requested := false }
      crusher := { s.crusher with awaited := none } }
  else s

/-- R112, R65: a withdrawal with the evaluation and the arbitration that follow it. -/
def withdrawEvent (s : State) : State :=
  if s.requestNotStarted then arbitrate (feedEvaluation (withdrawRequest s)) else s

/-- R107, R112: a write or load of the capacities of some bins. It withdraws the index request when one of them is the
awaited lot's and has come to or below its fill; then the evaluation is made. -/
def capacitiesWritten (bins : List Family) (s : State) : State :=
  let hit := s.requestNotStarted &&
    (match s.crusher.awaited.bind s.queuedLot with
     | some l => bins.contains l.family && s.binFull l.family
     | none => false)
  if hit then arbitrate (feedEvaluation (withdrawRequest s)) else feedEvaluation s

/-- R100: entry into safe stop. -/
def carouselStopEntry (s : State) : State :=
  match s.carousel.index with
  | .indexing n _ => setStep false { s with carousel := { s.carousel with index := .suspended n false } }
  | _ => s

/-- R100: exit from safe stop. -/
def carouselStopExit (s : State) : State :=
  match s.carousel.index with
  | .suspended n _ => if n = 0 then lastStepMade s else startStep n s
  | .idle => tryIndexStart s
  | _ => s

/-- R101: line restart: RUN with release count 0, and a request whose index has not started is withdrawn. -/
def carouselRestart (s : State) : State :=
  withdrawRequest { s with carousel := { s.carousel with mode := .run } }

end Sys2Proof.Machine
end

