-- ==== Sys2Proof/Machine/SafeStop.lean ====
section
/-! DEFINITION. The stop causes and safe stop, the station watch, and line restart (chapter 10), where the blocks are handed
an event of the whole line. -/

namespace Sys2Proof.Machine

/-! ## Stop causes (R173, R174) -/

/-- R157: every applied duty becomes 0 at once, every channel settled, every output off. -/
def closeValves (s : State) : State :=
  { s with drive := { s.drive with channels := .same ⟨0, none, false⟩ } }

/-- R174: entry into safe stop, handed to the blocks in the order of the manual's list (DESIGN CHOICE, log entry 7). -/
def enterSafeStop (s : State) : State :=
  filterStopEntry (crusherStopEntry (carouselStopEntry (arbiterStopEntry (closeValves
    (publish 0 (postHall .safeStop s))))))

/-- R57: exit from safe stop starts a pending backwash when it may. -/
def filterStopExit (s : State) : State := tryPendingBackwash s

/-- R174: exit from safe stop, handed to the blocks in the order of the manual's list (DESIGN CHOICE, log entry 7). -/
def exitSafeStop (s : State) : State :=
  filterStopExit (crusherGoOn (carouselStopExit (arbitrate (recompute s))))

/-- R173: whether a cause is present. -/
def StopCauses.has (c : StopCauses) : StopCause → Bool
  | .fieldSupply => c.fieldSupply
  | .hall => c.hall

/-- R173: the set with a cause present or absent. -/
def StopCauses.put (c : StopCauses) (k : StopCause) (b : Bool) : StopCauses :=
  match k with
  | .fieldSupply => { c with fieldSupply := b }
  | .hall => { c with hall := b }

/-- R173, R174: a cause is added; one that is present changes nothing; an addition to the empty set is the entry. -/
def addCause (k : StopCause) (s : State) : State :=
  if s.stop.has k then s
  else
    let s' := { s with stop := { s.stop.put k true with last := some k } }
    if s.inSafeStop then s' else enterSafeStop s'

/-- R173, R174: a cause is removed; one that is absent changes nothing; the removal of the last is the exit. -/
def removeCause (k : StopCause) (s : State) : State :=
  if s.stop.has k then
    let s' := { s with stop := s.stop.put k false }
    if s'.inSafeStop then s' else exitSafeStop s'
  else s

/-! ## Station watch (R164 to R168) -/

/-- The watch of a station replaced. -/
def setWatch (st : Station) (w : Watch) (s : State) : State := { s with watches := s.watches.set st w }

/-- R164: the period of a station, from the exponent in the working copy. -/
def State.watchPeriod (s : State) (st : Station) : Nat :=
  Config.keepAliveUnit * 2 ^ (s.store.working.stations.get st).keepExponent

/-- R164, R165: the timer started afresh, where the watch is enabled. -/
def State.freshTimer (s : State) (st : Station) : Option Nat :=
  if (s.store.working.stations.get st).watchEnabled then some (s.watchPeriod st) else none

/-- R165: an accepted keep-alive: LIVE, the phase recorded, the timer started; from LAPSED a recovery. -/
def acceptKeepAlive (st : Station) (ph : Phase) (s : State) : State :=
  let s' := setWatch st ⟨.live, some ph, s.freshTimer st⟩ s
  if (s.watches.get st).state = .lapsed then returnStation st s' else s'

/-- R165: a keep-alive of a phase, and whether it repeats the last accepted phase. A LOST station has none. -/
def keepAlive (st : Station) (ph : Phase) (s : State) : State × Bool :=
  if (s.watches.get st).state ≠ .lost && (s.watches.get st).phase = some ph then (s, true)
  else (acceptKeepAlive st ph s, false)

/-- R166: a lapse. -/
def lapse (st : Station) (s : State) : State :=
  postHall .stationLapsed (postStation st .keepaliveLapsed (arbiterLapse st (suspendStation st
    (setWatch st ⟨.lapsed, (s.watches.get st).phase, some (s.watchPeriod st)⟩ s))))

/-- R167: a loss. -/
def loss (st : Station) (s : State) : State :=
  postHall .stationLost (setLate st none (removeStation st (setWatch st ⟨.lost, none, none⟩ s)))

/-- R166, R167: a station's period timer runs out. -/
def periodExpires (st : Station) (s : State) : State :=
  match (s.watches.get st).timer, (s.watches.get st).state with
  | none, _ => s
  | some _, .live => if (s.store.working.stations.get st).watchEnabled then lapse st s else s
  | some _, .lapsed => loss st s
  | some _, .lost => s

/-- R168: the effect of STATION_WATCH, the enable of the working copy being set already: the station is LIVE, its timer
started afresh or stopped; from LAPSED this is a recovery. -/
def applyWatch (st : Station) (s : State) : State :=
  let w := s.watches.get st
  let s' := setWatch st ⟨.live, w.phase, s.freshTimer st⟩ s
  if w.state = .lapsed then returnStation st s' else s'

/-! ## Line restart (R176) -/

/-- R176: every station LOST, its timer stopped; the allotment table emptied without a pass (R1). -/
def restartStations (s : State) : State := { s with watches := .same watchPowerOn, slots := .same none }

/-- R58: after the arbiter's removals a trough still FULL has its sludge request posted again. -/
def repostSludge (s : State) : State := if s.filter.troughFull then storeSludge s else s

/-- R177: LINE_RESTART sets every discard count to 0. -/
def clearDiscards (s : State) : State :=
  { s with ports := s.ports.mapKeys (fun _ p => { p with discards := 0 }) }

/-- R123 step 4: with the line not in safe stop the sequencer goes on as at the exit. -/
def crusherAfterRestart (s : State) : State := if s.inSafeStop then s else crusherGoOn s

/-- R45: whether a restart that takes `before` to `after` makes an event at which a pending backwash may start: it has emptied
the trough (R79), or returned the sequencer to FILTERING from INDEXING (R58). -/
def restartFreesBackwash (before after : State) : Bool :=
  (before.filter.troughFull && !after.filter.troughFull) ||
    (match before.filter.state with
     | .indexing _ _ _ => true
     | _ => false)

/-- R45: the pending backwash that such an event starts within the restart (DEDUCED, log entry 9). -/
def restartPendingStart (before s : State) : State :=
  if restartFreesBackwash before s then tryPendingBackwash s else s

/-- R176: the first half of a restart ends what is in progress, starts the pending backwash that this sets free (R45), and
empties the event sets. -/
def restartEnd (s : State) : State :=
  emptyEventSets (clearDiscards (crusherRestart (carouselRestart (restartPendingStart s (repostSludge (filterRestart
    (arbiterRestart (restartStations s))))))))

/-- R176: the second half sets the line going again: the figure is published with its pass, the arbiter arbitrates, and
the crusher sequencer goes on. -/
def restartGoOn (s : State) : State := crusherAfterRestart (arbitrate (publishForced s))

/-- R176: line restart, in the order of the rule's text (DEDUCED, log entry 9). -/
def lineRestart (s : State) : State := restartGoOn (restartEnd s)

end Sys2Proof.Machine
end

