-- ==== Sys2Proof/Machine/Store.lean ====
section
/-! DEFINITION. The profile store (chapter 7): reading items, the hand-over of a written item to the block that owns it
(R130), loading a set (R134), and saving one (R135). -/

namespace Sys2Proof.Machine

/-- The working copy replaced. -/
def setWorking (p : Profile) (s : State) : State := { s with store := { s.store with working := p } }

/-- The code of the family of sludge, item 104 (note 2 of Table 07-2). -/
def sludgeFamilyCode : Int := 4

/-- The code of the form of sludge, item 105 (note 2 of Table 07-2). -/
def sludgeFormCode : Int := 3

/-- R127: the value of an item: of the working copy, the fixed code of a sludge item, or the selector. -/
def State.itemValue (s : State) : ItemRef → Int
  | .writable i => s.store.working.get i
  | .sludgeFamily => sludgeFamilyCode
  | .sludgeForm => sludgeFormCode
  | .startSet => setNumberCode s.store.nonVolatile.selector

/-- R132: the minimum, maximum and set 0 value that RANGE reports of an item. -/
def refRange : ItemRef → Range
  | .writable i => itemRange i
  | .sludgeFamily => ⟨sludgeFamilyCode, sludgeFamilyCode, sludgeFamilyCode⟩
  | .sludgeForm => ⟨sludgeFormCode, sludgeFormCode, sludgeFormCode⟩
  | .startSet => ⟨0, 2, 0⟩

/-- R172: a level of 0 removes the kind from the hall set if it is pending. -/
def levelWritten (k : HallKind) (s : State) : State :=
  if s.store.working.levels.get k = 0 then dropHall k s else s

/-- R130: the hand-over of a line item. -/
def handOverLine (i : LineItem) (s : State) : State :=
  match i with
  | .crated => recompute s
  | .dpClean => recompute s
  | .dpLimit => recompute s
  | .bwKeep => recompute s
  | .bMax => recompute s
  | .pMax => recompute s
  | .lMin => recompute (reevaluateBand s)
  | .lLo => recompute (reevaluateBand s)
  | .lHi => recompute (reevaluateBand s)
  | .hyst => recompute (reevaluateBand s)
  | .bwGap => tryPendingBackwash s
  | .mPocket => arbitrate s
  | .inService => arbitrate s
  | .nRetry => retryLimitWritten s
  | .cBinLight => capacitiesWritten [.chip .light] s
  | .cBinFerrous => capacitiesWritten [.chip .ferrous] s
  | .cBinHard => capacitiesWritten [.chip .hard] s
  | .cBinSludge => capacitiesWritten [.sludge] s
  | .dpTrigger | .supplyStep | .lFull | .dpIndex | .bwTime | .tSettle | .mSludge | .lIdx | .lWarn | .tSpray
  | .tOffer | .tGate | .tDump | .ppk | .tIdx | .tRunUp | .tRunDown | .tRev | .tIdle | .tTransit | .ppr | .dpCal
  | .levelCal => s

/-- R130: the hand-over of a written item; an item read only where it is used hands nothing on. -/
def handOver (i : Item) (s : State) : State :=
  match i with
  | .line l => handOverLine l s
  | .station st .watchEnable => applyWatch st s
  | .station _ .floodLimit => s
  | .station _ .spindleLimit => s
  | .station _ .keepExponent => s
  | .vmax _ => s
  | .level k => levelWritten k s
  | .material _ _ => s

/-- R96, R128 step 6: the items that are stored only while the carousel is empty. -/
def Item.needsEmptyRing : Item → Bool
  | .line .inService => true
  | .line .mPocket => true
  | _ => false

/-- Whether a save is in progress (R135). -/
def State.saving (s : State) : Bool :=
  match s.store.save with
  | .idle => false
  | .saving _ _ _ => true

/-- R128, R130: a value is stored and handed to its owner. -/
def storeItem (i : Item) (v : Int) (s : State) : State := handOver i (setWorking (s.store.working.set i v) s)

/-! ## PROFILE_LOAD (R134) -/

/-- R37, R134: whether two line parameter sets differ in an edge or in H. -/
def edgesDiffer (a b : LineParams) : Bool :=
  decide (a.lMin ≠ b.lMin) || decide (a.lLo ≠ b.lLo) || decide (a.lHi ≠ b.lHi) || decide (a.hyst ≠ b.hyst)

/-- R134 step 3: whether N or Mpocket differs. -/
def ringDiffers (a b : LineParams) : Bool :=
  decide (a.inService ≠ b.inService) || decide (a.mPocket ≠ b.mPocket)

/-- R134: the supply unit evaluates the band if an edge or H changed, and recomputes once. -/
def loadSupply (old : LineParams) (s : State) : State :=
  recompute (if edgesDiffer old s.line then reevaluateBand s else s)

/-- R134: the arbiter arbitrates once if N or Mpocket changed. -/
def loadArbiter (old : LineParams) (s : State) : State := if ringDiffers old s.line then arbitrate s else s

/-- R134, R117, R112: the crusher sequencer acts once on Nretry and on the bin capacities. -/
def loadCrusher (s : State) : State :=
  capacitiesWritten [.chip .light, .chip .ferrous, .chip .hard, .sludge] (retryLimitWritten s)

/-- R134, R168: every watch enable has the effect of STATION_WATCH with the matching code. -/
def loadWatches (s : State) : State := allStations.foldl (fun s st => applyWatch st s) s

/-- R134, R172: every level item has the effect of EVENT_LEVEL. -/
def loadLevels (s : State) : State := allHallKinds.foldl (fun s k => levelWritten k s) s

/-- R134: every item is copied, and each owner is handed its items once, in the order of the item numbers (DESIGN
CHOICE, log entry 8). -/
def loadProfile (p : Profile) (s : State) : State :=
  let old := s.line
  loadLevels (loadWatches (loadCrusher (loadArbiter old (tryPendingBackwash (loadSupply old (setWorking p s))))))

/-! ## Saving (R135 to R137) -/

/-- The set number of a user set. -/
def UserSet.number : UserSet → SetNumber
  | .set1 => .set1
  | .set2 => .set2

/-- R135: set n replaced as a whole, and the selector set to n. -/
def NonVolatile.write (v : NonVolatile) (n : UserSet) (p : Profile) : NonVolatile :=
  match n with
  | .set1 => { v with set1 := p, selector := .set1 }
  | .set2 => { v with set2 := p, selector := .set2 }

/-- R135: the save timer runs out. -/
def saveDone (s : State) : State :=
  match s.store.save with
  | .idle => s
  | .saving n content _ =>
    postHall .profileSaved
      { s with store := { s.store with nonVolatile := s.store.nonVolatile.write n content, save := .idle } }

/-- R135: a save of the working copy begins. -/
def startSave (n : UserSet) (s : State) : State :=
  { s with store := { s.store with save := .saving n s.store.working Config.saveTime } }

/-- R136: PROFILE_SAVE 0 sets the selector to 0. -/
def selectFactory (s : State) : State :=
  { s with store := { s.store with nonVolatile := { s.store.nonVolatile with selector := .set0 } } }

end Sys2Proof.Machine
end

