-- ==== Sys2Proof/Machine/Links.lean ====
section
/-! DEFINITION. The link ports (chapter 11): the check word, the receiver, the held request and the owed BUSY, and the reply
with its summary. -/

namespace Sys2Proof.Machine

/-! ## The check word (R178) -/

/-- R178: one shift of the register. -/
def crcShift (r : Word16) : Word16 := if r.msb then (r <<< 1) ^^^ 0x1021#16 else r <<< 1

/-- R178: the register after one byte. -/
def crcByte (r : Word16) (b : Byte) : Word16 :=
  crcShift (crcShift (crcShift (crcShift (crcShift (crcShift (crcShift (crcShift
    (r ^^^ (b.zeroExtend 16 <<< 8)))))))))

/-- R178: the check word over bytes in order. -/
def checkWord (bytes : List Byte) : Word16 := bytes.foldl crcByte 0xFFFF#16

/-- The check word as it is sent, high byte first (Tables 11-1 and 11-2). -/
def checkBytes (bytes : List Byte) : List Byte :=
  [(checkWord bytes).extractLsb' 8 8, (checkWord bytes).extractLsb' 0 8]

/-- The start byte of a request frame (Table 11-1). -/
def startByte : Byte := 0xC5#8

/-- The bytes of a request frame on a port (Table 11-1). -/
def requestFrame (p : Port) (r : LinkRequest) : List Byte :=
  let body := [portAddress p, r.tag, r.kind, byteOf r.payload.length] ++ r.payload
  startByte :: body ++ checkBytes body

/-- The summary byte of a reply (Table 11-2). -/
def summaryByte (r : Reply) : Byte := byteOf (boolCode r.attention + 2 * boolCode r.live + 4 * boolCode r.safeStop)

/-- The bytes of a reply frame (Table 11-2). -/
def replyFrame (r : Reply) : List Byte :=
  let body := [r.address, r.tag, r.kind, byteOf (resultCode r.result), summaryByte r, byteOf r.payload.length] ++ r.payload
  0xC6#8 :: body ++ checkBytes body

/-! ## Replies (R181) -/

/-- A port replaced. -/
def setPort (p : Port) (x : LinkPort) (s : State) : State := { s with ports := s.ports.set p x }

/-- R181: the results whose reply carries the payload of Table 11-4. -/
def Result.carriesPayload : Result → Bool
  | .done => true
  | .clamped => true
  | .wait => true
  | .repeated => true
  | .empty => true
  | .late => true
  | _ => false

/-- R169, R170, R173, R181: a reply with the summary as it stands now. -/
def makeReply (p : Port) (tag kind : Byte) (result : Result) (payload : List Byte) (s : State) : Reply :=
  ⟨portAddress p, tag, kind, result, attention p s, liveIndication p s, s.inSafeStop,
    if result.carriesPayload then payload else []⟩

/-- Chapter 11: the milliseconds that a reply frame takes on the wire, rounded up (DEDUCED, log entry 11). -/
def sendTime (r : Reply) : Nat := ceilDiv ((9 + r.payload.length) * Config.bitsPerChar * 1000) Config.bitRate

/-- R181: a reply begins to leave a port. -/
def startReply (p : Port) (r : Reply) (s : State) : State :=
  setPort p { s.ports.get p with tx := some ⟨r, sendTime r⟩ } s

/-- R177, R179: the last byte of a reply leaves a port. An owed BUSY follows directly; otherwise the receiver takes bytes
again. -/
def endReply (p : Port) (s : State) : State :=
  let port := s.ports.get p
  match port.tx, port.owed with
  | none, _ => s
  | some _, none => setPort p { port with tx := none } s
  | some _, some o =>
    startReply p (makeReply p o.tag o.kind .busy [] s) (setPort p { port with owed := none } s)

/-! ## The receiver (R177, R179) -/

/-- R177: a discard raises the count, stopping at 255, and the port returns to HUNTING. -/
def discardFrame (p : Port) (s : State) : State :=
  let port := s.ports.get p
  setPort p { port with rx := .hunting, discards := min 255 (port.discards + 1) } s

/-- R179: a complete frame that passes its tests, for a port that takes bytes. -/
def acceptFrame (p : Port) (r : LinkRequest) (s : State) : State :=
  let port := s.ports.get p
  match port.held, port.owed with
  | none, _ => setPort p { port with rx := .hunting, held := some r } s
  | some _, none => setPort p { port with rx := .hunting, owed := some ⟨r.tag, r.kind⟩ } s
  | some _, some _ => discardFrame p s

/-- The request in the bytes of a complete frame (Table 11-1), none where its length, check word or address fails (R177). -/
def frameRequest (p : Port) (frame : List Byte) : Option LinkRequest :=
  match frame with
  | st :: address :: tag :: kind :: len :: rest =>
    let n := len.toNat
    let payload := rest.take n
    if st = startByte && decide (n ≤ Config.maxPayload) && decide (rest.length = n + 2) && decide (address = portAddress p)
        && decide (rest.drop n = checkBytes ([address, tag, kind, len] ++ payload)) then
      some ⟨tag, kind, payload⟩
    else none
  | _ => none

/-- R177: a complete frame is tested, and discarded or accepted. -/
def frameArrives (p : Port) (frame : List Byte) (s : State) : State :=
  match frameRequest p frame with
  | none => discardFrame p s
  | some r => acceptFrame p r s

/-- R177: whether the length byte of a frame being assembled is above 32. -/
def lengthTooGreat (bytes : List Byte) : Bool := decide (5 ≤ bytes.length) && decide (Config.maxPayload < byteAt bytes 4)

/-- R177: whether the last check byte of a frame being assembled has arrived. -/
def frameComplete (bytes : List Byte) : Bool := decide (5 ≤ bytes.length) && decide (bytes.length = byteAt bytes 4 + 7)

/-- R177: a byte reaches a receiver that takes bytes. -/
def takeByte (p : Port) (b : Byte) (s : State) : State :=
  let port := s.ports.get p
  match port.rx with
  | .hunting => if b = startByte then setPort p { port with rx := .assembling [b] Config.frameGap } s else s
  | .assembling bytes _ =>
    let bytes' := bytes ++ [b]
    if lengthTooGreat bytes' then discardFrame p s
    else if frameComplete bytes' then frameArrives p bytes' s
    else setPort p { port with rx := .assembling bytes' Config.frameGap } s

/-- R177: while a port transmits, its receiver takes no bytes. -/
def receiverTakes (p : Port) (s : State) : Bool := (s.ports.get p).tx.isNone

/-- R177: a byte on a port's line. -/
def byteArrives (p : Port) (b : Byte) (s : State) : State := if receiverTakes p s then takeByte p b s else s

/-- R177: 5 ms pass without a byte. -/
def gapRunsOut (p : Port) (s : State) : State :=
  match (s.ports.get p).rx with
  | .hunting => s
  | .assembling _ _ => discardFrame p s

/-! ## Taking a request (R179 to R181) -/

/-- What an owning rule gives: the state after its work, the result, and the payload of Table 11-4. -/
structure Answer where
  state : State
  result : Result
  payload : List Byte

/-- An answer without a payload. -/
def bare (r : Result) (s : State) : Answer := ⟨s, r, []⟩

/-- R169: whether a request of a kind is answered NOT_LIVE on a port. -/
def notLive (p : Port) (k : Kind) (s : State) : Bool :=
  match p with
  | .station st => !k.takenUnlive && decide ((s.watches.get st).state ≠ .live)
  | .hall => false

/-- R180, R169: the tests that stand before the owning rule: the kind, the length, NOT_LIVE. -/
def checked (p : Port) (k : Kind) (payload : List Byte) (rule : State → Answer) (s : State) : Answer :=
  if !k.takenOn p then bare .refusedKind s
  else if payload.length ≠ (kindRow k).length then bare .refusedRange s
  else if notLive p k s then bare .notLive s
  else rule s

/-- R179, R181: a request is taken by its owning rule, and its reply leaves at the end of that rule's work; the port holds
no request then, and its receiver is left as `rx`. -/
def serve (p : Port) (r : LinkRequest) (rx : RxState) (respond : State → Answer) (s : State) : State :=
  let a := respond s
  startReply p (makeReply p r.tag r.kind a.result a.payload a.state)
    (setPort p { a.state.ports.get p with held := none, rx := rx } a.state)

/-- R179: a request on a port. The port's held request is taken. With none held the complete frame becomes it and is taken
at once, the receiver being HUNTING again (R177). With another held the frame is one more frame (owed BUSY, or discarded).
While a reply is being sent the bytes of a new frame are lost (R177). Arrival and taking are one step (DEDUCED, log
entry 6). -/
def takeRequest (p : Port) (r : LinkRequest) (respond : State → Answer) (s : State) : State :=
  if (s.ports.get p).held = some r then serve p r (s.ports.get p).rx respond s
  else if receiverTakes p s then
    match (s.ports.get p).held with
    | some _ => acceptFrame p r s
    | none => serve p r .hunting respond s
  else s

/-- A request of a kind of Table 11-4. -/
def requestOf (p : Port) (k : Kind) (tag : Byte) (payload : List Byte) (rule : State → Answer) (s : State) : State :=
  takeRequest p ⟨tag, kindCode k, payload⟩ (checked p k payload rule) s

/-- A step of a machine whose logic supply holds; without it the module does nothing (R137, R175). -/
def running (f : State → State) (s : State) : Host.Outcome State Fault Refusal :=
  .next (if s.powered then f s else s)


end Sys2Proof.Machine
end

