-- ==== Sys2Proof/Machine/Reports.lean ====
section
/-! DEFINITION. The payloads of the read replies: STATUS, TABLE_READ, LOT_READ and the outcome of a discharge (section 11.4
and Tables 11-4 to 11-7). -/

namespace Sys2Proof.Machine

/-- R21, Table 11-5: an entry's state, asked flow and granted flow; an empty slot is ABSENT, 0, 0. -/
def entryStatus (e : Option Entry) : List Byte :=
  match e with
  | none => [byteOf 0, byteOf 0, byteOf 0]
  | some e => [byteOf (entryStateCode e.state), byteOf e.asked, byteOf e.granted]

/-- R80: the seconds left in the window that runs, rounded up. -/
def windowSeconds (r : Option DischargeRequest) : Nat :=
  match r.map DischargeRequest.state with
  | some (.offered _ w) => wholeSeconds w
  | some (.opened _ g _) => wholeSeconds g
  | _ => 0

/-- R124, Table 11-5: the last-lot report. -/
def lastLotBytes (r : Option LastLot) : List Byte :=
  match r with
  | none => u16 0 ++ [byteOf 0]
  | some x => u16 x.number ++ [byteOf (lastOutcomeCode x.outcome)]

/-- R182, Table 11-5: the station STATUS. -/
def stationStatus (st : Station) (s : State) : List Byte :=
  let r := s.request (.station st)
  [byteOf (watchStateCode (s.watches.get st).state)]
    ++ entryStatus (s.slots.get (.station st .spindle)) ++ entryStatus (s.slots.get (.station st .flood))
    ++ [byteOf (dischargeStateCode (r.map DischargeRequest.state))] ++ u16 (windowSeconds r)
    ++ lastLotBytes (s.crusher.lastLots.get st)
    ++ [byteOf (match topStation st s with | none => 0 | some k => stationKindNumber k)]

/-- R102, R183: the steps left as STATUS reports them. In IDLE no index is in progress and the manual gives no value; the
model reports 0 (DESIGN CHOICE, log entry 19). -/
def IndexState.steps : IndexState → Nat
  | .idle => 0
  | .indexing n _ => n
  | .suspended n _ => n
  | .faulted n => n

/-- R151, R173, R171, Table 11-6 offsets 0 to 8: the stop causes, the monitor and the watch states. -/
def hallStatusLine (s : State) : List Byte :=
  [byteOf (boolCode s.stop.fieldSupply + 2 * boolCode s.stop.hall), byteOf (lastCauseCode s.stop.last),
   byteOf (monitorCode s.measure.monitor)]
    ++ allStations.map (fun st => byteOf (watchStateCode (s.watches.get st).state))

/-- R42, Table 11-6 offsets 9 to 17: the supply unit. -/
def hallStatusSupply (s : State) : List Byte :=
  u16 s.supply.published ++ [byteOf (bandCode s.supply.band)] ++ u16 s.supply.level ++ u16 s.supply.dp
    ++ [byteOf (conditionCode (conditionOf s.supply.dpFaults)), byteOf (conditionCode (conditionOf s.supply.levelFaults))]

/-- R59, Table 11-6 offsets 18 to 22: the filter sequencer; the fleece remaining reads 0xFFFF while UNKNOWN. -/
def hallStatusFilter (s : State) : List Byte :=
  [byteOf (filterStateCode s.filter.state), byteOf (boolCode s.filter.pending), byteOf (boolCode s.filter.troughFull)]
    ++ u16 (s.filter.fleece.getD 0xFFFF)

/-- R102, Table 11-6 offsets 23 to 32: the carousel. -/
def hallStatusCarousel (s : State) : List Byte :=
  [byteOf (surveyCode s.carousel.survey), byteOf (modeCode s.carousel.mode), byteOf s.carousel.mode.releases,
   byteOf (indexStateCode s.carousel.index), byteOf s.carousel.index.steps, byteOf (boolCode s.carousel.requested),
   byteOf s.carousel.queue.length, byteOf s.occupied, byteOf s.freePockets, byteOf s.line.inService]

/-- R124, Table 11-6 offsets 33 to 46: the crusher sequencer. -/
def hallStatusCrusher (s : State) : List Byte :=
  [byteOf (crusherStateCode s.crusher.state)]
    ++ u16 (match s.crusher.slot with | none => 0 | some x => x.lot.number)
    ++ [byteOf (currentFamilyCode s.crusher.family)]
    ++ u16 s.crusher.fills.light ++ u16 s.crusher.fills.ferrous ++ u16 s.crusher.fills.hard ++ u16 s.crusher.fills.sludge
    ++ u16 s.crusher.reject

/-- R183, Table 11-6: the hall STATUS. -/
def hallStatus (s : State) : List Byte :=
  hallStatusLine s ++ hallStatusSupply s ++ hallStatusFilter s ++ hallStatusCarousel s ++ hallStatusCrusher s
    ++ allPorts.map (fun p => byteOf (s.ports.get p).discards)
    ++ [byteOf (match topHall s with | none => 0 | some k => hallKindNumber k)]

/-- R22, Table 11-4: the contents of a slot; an empty one gives present 0 and 0 in every later field. -/
def tableEntry (sl : Slot) (e : Option Entry) : List Byte :=
  byteOf (slotNumber sl) ::
    (match e with
     | none => List.replicate 7 (byteOf 0)
     | some e =>
       [byteOf 1, byteOf (circuitCode sl), byteOf e.asked, byteOf (e.floor.getD 0), byteOf e.urgency,
        byteOf (entryStateCode e.state), byteOf e.granted])

/-- R8, Table 11-4: the stored values, the state and the granted flow of an entry. -/
def entryReply (sl : Slot) (e : Option Entry) : List Byte :=
  byteOf (slotNumber sl) ::
    (match e with
     | none => List.replicate 5 (byteOf 0)
     | some e =>
       [byteOf (entryStateCode e.state), byteOf e.asked, byteOf (e.floor.getD 0), byteOf e.urgency, byteOf e.granted])

/-- R72, R74, Table 11-4: an outcome: lot number or 0, mass, span, flags. -/
def outcomeBytes (o : Outcome) : List Byte :=
  u16 (o.lot.getD 0) ++ u16 o.mass ++ [byteOf o.span, byteOf (lotFlagsByte o.flags)]

/-- R184, Table 11-7 offsets 4 to 12: material, family, form and crushing fields; absent for sludge but for its codes. -/
def lotContentBytes : LotContent → List Byte
  | .chips m c =>
    [byteOf (materialNumber m), byteOf (chipFamilyCode c.family), byteOf (formCode c.form), byteOf c.rate]
      ++ u16 c.speed ++ [byteOf 0, byteOf c.stall, byteOf c.purge]
  | .sludge => [byteOf 0, byteOf 4, byteOf 3, 0xFF#8] ++ u16 0xFFFF ++ [byteOf 0, 0xFF#8, 0xFF#8]

/-- R184, Table 11-7: a lot at a position, with its remaining and jam count where it has them. -/
def lotBytes (position : Nat) (l : LotRecord) (slot : Option (Nat × Nat)) : List Byte :=
  [byteOf position] ++ u16 l.number ++ [byteOf (sourceNumber l.source)] ++ lotContentBytes l.content
    ++ u16 l.estimate ++ u16 l.mass ++ [byteOf l.span, byteOf (lotFlagsByte l.flags), byteOf (stageCode l.stage)]
    ++ (match slot with
        | none => u16 0xFFFF ++ [0xFF#8]
        | some (remaining, jams) => u16 (wholeSeconds remaining) ++ [byteOf jams])

/-- R102: the lot at a position, 0 being the crusher slot, as LOT_READ gives it. -/
def lotAt (position : Nat) (s : State) : Option (List Byte) :=
  if position = 0 then s.crusher.slot.map (fun x => lotBytes 0 x.lot (some (x.remaining, x.jams)))
  else (s.carousel.queue[position - 1]?).map (fun l => lotBytes position l none)

end Sys2Proof.Machine
end

