-- ==== Sys2Proof/Machine/CoolantCommands.lean ====
section
/-! DEFINITION. COOLANT_ASK, COOLANT_END and TABLE_READ (sections 1.3, 1.4 and 1.8). -/

namespace Sys2Proof.Machine

/-- R4 step 4, R5 step 1: the ceiling of a slot's circuit, a station's limit being read from the working copy. -/
def State.ceiling (s : State) : Slot → Nat
  | .station st .spindle => (s.store.working.stations.get st).spindleLimit
  | .station st .flood => (s.store.working.stations.get st).floodLimit
  | .wash1 => Config.washCeiling
  | .wash2 => Config.washCeiling

/-- Table 01-1: whether a slot's circuit has a floor. -/
def hasFloor : Slot → Bool
  | .station _ .spindle => false
  | .station _ .flood => true
  | .wash1 => true
  | .wash2 => true

/-- R5 step 3: an urgency of 0 is raised to 1 and one above 7 is cut to 7 (also R62). -/
def clampUrgency (u : Nat) : Nat := max 1 (min 7 u)

/-- The values of a COOLANT_ASK as they are stored, and whether a clamp changed one (R5). -/
structure AskValues where
  asked : Nat
  floor : Option Nat
  urgency : Nat
  cut : Bool
  deriving DecidableEq, Repr

/-- R5: the clamps of a COOLANT_ASK, in their order; for SPINDLE the floor is disregarded. -/
def clampAsk (sl : Slot) (ceiling asked floor urgency : Nat) : AskValues :=
  let a := min ceiling asked
  let f := min a floor
  let u := clampUrgency urgency
  if hasFloor sl then ⟨a, some f, u, decide (a ≠ asked) || decide (f ≠ floor) || decide (u ≠ urgency)⟩
  else ⟨a, none, u, decide (a ≠ asked) || decide (u ≠ urgency)⟩

/-- R6, R7: the entry that an accepted COOLANT_ASK leaves in its slot before the pass. -/
def askedEntry (old : Option Entry) (v : AskValues) : Entry :=
  match old with
  | none => ⟨v.asked, v.floor, v.urgency, .waiting, 0⟩
  | some e => { e with asked := v.asked, floor := v.floor, urgency := v.urgency }

/-- R6, R7: the values are applied to the slot and the pass runs. -/
def applyAsk (sl : Slot) (v : AskValues) (s : State) : State :=
  tableEvent (fun t => t.set sl (some (askedEntry (t.get sl) v))) s

/-- R4 to R8: COOLANT_ASK, once its kind, its length and the station watch have let it through. -/
def ruleCoolantAsk (p : Port) (payload : List Byte) (s : State) : Answer :=
  match circuitOperand p (byteAt payload 0) with
  | .unknown => bare .refusedRange s
  | .wrongPort => bare .refusedKind s
  | .slot sl =>
    if s.ceiling sl = 0 then bare .refusedRange s
    else if byteAt payload 1 = 0 then bare .refusedRange s
    else
      let v := clampAsk sl (s.ceiling sl) (byteAt payload 1) (byteAt payload 2) (byteAt payload 3)
      let s' := applyAsk sl v s
      ⟨s', if v.cut then .clamped else .done, entryReply sl (s'.slots.get sl)⟩

/-- R9: a slot is emptied and the pass runs. -/
def endEntry (sl : Slot) (s : State) : State := tableEvent (fun t => t.set sl none) s

/-- R9: COOLANT_END. -/
def ruleCoolantEnd (p : Port) (payload : List Byte) (s : State) : Answer :=
  match circuitOperand p (byteAt payload 0) with
  | .unknown => bare .refusedRange s
  | .wrongPort => bare .refusedKind s
  | .slot sl => bare .done (if (s.slots.get sl).isNone then s else endEntry sl s)

/-- R22: TABLE_READ. -/
def ruleTableRead (payload : List Byte) (s : State) : Answer :=
  match slotOfNumber (byteAt payload 0) with
  | none => bare .refusedRange s
  | some sl => ⟨s, .done, tableEntry sl (s.slots.get sl)⟩

/-- COOLANT_ASK (R4). -/
def execCoolantAsk (p : Port) (tag : Byte) (payload : List Byte) (s : State) : Host.Outcome State Fault Refusal :=
  running (requestOf p .coolantAsk tag payload (ruleCoolantAsk p payload)) s

/-- COOLANT_END (R9). -/
def execCoolantEnd (p : Port) (tag : Byte) (payload : List Byte) (s : State) : Host.Outcome State Fault Refusal :=
  running (requestOf p .coolantEnd tag payload (ruleCoolantEnd p payload)) s

/-- TABLE_READ (R22). -/
def execTableRead (p : Port) (tag : Byte) (payload : List Byte) (s : State) : Host.Outcome State Fault Refusal :=
  running (requestOf p .tableRead tag payload (ruleTableRead payload)) s

end Sys2Proof.Machine
end

