-- ==== Sys2Proof/Machine/DischargeCommands.lean ====
section
/-! DEFINITION. The requests and timers of the discharge arbiter (sections 4.2 to 4.5), and ARBITRATION. -/

namespace Sys2Proof.Machine

/-- R62 step 3: the material of a DISCHARGE_ASK, none where it is 0, above 8 or not in use. -/
def State.usableMaterial (s : State) (n : Nat) : Option Material :=
  (materialOfNumber n).bind (fun m => if (s.store.working.materials.get m).inUse then some m else none)

/-- R62 step 2: whether a station's request is OFFERED or OPEN. -/
def State.isCurrentSource (s : State) (src : Source) : Bool :=
  match s.request src with
  | none => false
  | some r => r.isCurrent

/-- R63: the payload of an accepted DISCHARGE_ASK. -/
def askReply (st : Station) (s : State) : List Byte :=
  match s.request (.station st) with
  | none => List.replicate 4 (byteOf 0)
  | some r =>
    [byteOf (dischargeStateCode (some r.state)), byteOf r.urgency, byteOf r.state.span,
     byteOf (match r.state with | .offered _ w => wholeSeconds w | _ => 0)]

/-- R63: an accepted DISCHARGE_ASK: the request stored PENDING, the late report discarded, displacement, arbitration. -/
def acceptAsk (st : Station) (r : DischargeRequest) (s : State) : State :=
  afterRequest (.station st) r.urgency (setLate st none (setPlace (.station st) (some r) s))

/-- R62, R63: DISCHARGE_ASK on a station port. -/
def stationDischargeAsk (st : Station) (payload : List Byte) (s : State) : Answer :=
  let estimate := u16At payload 1
  let urgency := clampUrgency (byteAt payload 3)
  if s.isCurrentSource (.station st) then bare .refusedState s
  else
    match s.usableMaterial (byteAt payload 0) with
    | none => bare .refusedRange s
    | some m =>
      if estimate = 0 then bare .refusedRange s
      else if 4 * s.line.mPocket < estimate then bare .oversize s
      else
        let s' := acceptAsk st ⟨.chips m, estimate, urgency, .pending⟩ s
        ⟨s', if urgency = byteAt payload 3 then .done else .clamped, askReply st s'⟩

/-- R68: DISCHARGE_GO on a station port. -/
def stationDischargeGo (st : Station) (s : State) : Answer :=
  match s.request (.station st) with
  | none => bare .refusedState s
  | some r =>
    match r.state with
    | .offered k _ => ⟨openGate (.station st) r k none s, .done, u16 s.line.tGate⟩
    | _ => bare .refusedState s

/-- R72, R74: DISCHARGE_DONE on a station port. -/
def stationDischargeDone (st : Station) (s : State) : Answer :=
  match s.request (.station st) with
  | none =>
    match s.arbiter.late.get st with
    | none => bare .refusedState s
    | some o => ⟨setLate st none s, .late, outcomeBytes o⟩
  | some r =>
    match r.state with
    | .opened k _ _ =>
      let out := finaliseEvent (.station st) r k .done s
      ⟨out.1, if out.2.lot.isNone then .empty else .done, outcomeBytes out.2⟩
    | _ => bare .refusedState s

/-- R64: DISCHARGE_CANCEL on a station port. -/
def stationDischargeCancel (st : Station) (s : State) : Answer :=
  match s.request (.station st) with
  | none => bare .done s
  | some r =>
    match r.state with
    | .pending => bare .done (arbitrate (setPlace (.station st) none s))
    | .offered _ _ => bare .done (chuteFreed (setPlace (.station st) none s))
    | .opened _ _ _ => bare .refusedState s

/-- A rule of the station ports; on the hall port the kind is refused (R180). -/
def stationRule (p : Port) (f : Station → State → Answer) (s : State) : Answer :=
  match p with
  | .station st => f st s
  | .hall => bare .refusedKind s

/-- R69: the offer window runs out with the request still OFFERED. -/
def offerLapses (s : State) : State :=
  match s.current with
  | some (.station st, r) =>
    match r.state with
    | .offered _ _ => chuteFreed (postStation st .offerLapsed (setPlace (.station st) none s))
    | _ => s
  | _ => s

/-- R73: GATE_TIMED_OUT is posted on a station's port; source 7 has none. -/
def postGateTimedOut (src : Source) (s : State) : State :=
  match src with
  | .station st => postStation st .gateTimedOut s
  | .sludge => s

/-- R73: the gate window runs out with the request still OPEN. -/
def gateTimesOut (s : State) : State :=
  match s.current with
  | some (src, r) =>
    match r.state with
    | .opened k _ _ => finaliseLate src r k .timedOut (postGateTimedOut src s)
    | _ => s
  | none => s

/-- R76: the dump timer runs out: the sludge source's DONE. -/
def dumpEnds (s : State) : State :=
  match s.current with
  | some (.sludge, r) =>
    match r.state with
    | .opened k _ (some _) => (finaliseEvent .sludge r k .done s).1
    | _ => s
  | _ => s

/-- DISCHARGE_ASK (R62). -/
def execDischargeAsk (p : Port) (tag : Byte) (payload : List Byte) (s : State) : Host.Outcome State Fault Refusal :=
  running (requestOf p .dischargeAsk tag payload (stationRule p (fun st => stationDischargeAsk st payload))) s

/-- DISCHARGE_GO (R68). -/
def execDischargeGo (p : Port) (tag : Byte) (payload : List Byte) (s : State) : Host.Outcome State Fault Refusal :=
  running (requestOf p .dischargeGo tag payload (stationRule p stationDischargeGo)) s

/-- DISCHARGE_DONE (R72). -/
def execDischargeDone (p : Port) (tag : Byte) (payload : List Byte) (s : State) : Host.Outcome State Fault Refusal :=
  running (requestOf p .dischargeDone tag payload (stationRule p stationDischargeDone)) s

/-- DISCHARGE_CANCEL (R64). -/
def execDischargeCancel (p : Port) (tag : Byte) (payload : List Byte) (s : State) : Host.Outcome State Fault Refusal :=
  running (requestOf p .dischargeCancel tag payload (stationRule p stationDischargeCancel)) s

/-- ARBITRATION (R65). -/
def execArbitration (s : State) : Host.Outcome State Fault Refusal := running arbitrate s

/-- OFFER_WINDOW_EXPIRY (R69). -/
def execOfferWindowExpiry (s : State) : Host.Outcome State Fault Refusal := running offerLapses s

/-- GATE_WINDOW_EXPIRY (R73). -/
def execGateWindowExpiry (s : State) : Host.Outcome State Fault Refusal := running gateTimesOut s

/-- DUMP_TIMER_EXPIRY (R76). -/
def execDumpTimerExpiry (s : State) : Host.Outcome State Fault Refusal := running dumpEnds s

end Sys2Proof.Machine
end

