-- ==== Sys2Proof/Machine/CarouselCommands.lean ====
section
/-! DEFINITION. The hall's requests to the carousel, LOT_READ, INDEX_START, the INDEX sensor and the step timer
(sections 5.4 to 5.9 and 8.4). -/

namespace Sys2Proof.Machine

/-- The mode replaced. -/
def setMode (m : Mode) (s : State) : State := { s with carousel := { s.carousel with mode := m } }

/-- R93: HOLD. -/
def ruleHold (s : State) : Answer :=
  match s.carousel.mode with
  | .run => bare .done (withdrawEvent (setMode (.hold 0) s))
  | .hold _ => bare .done s

/-- R94: the number of lots in the queue in stage QUEUED. -/
def State.queuedLots (s : State) : Nat := (s.carousel.queue.filter (fun l => decide (l.stage = .queued))).length

/-- R94: RELEASE. A raise from 0 is handed to the crusher sequencer, and the carousel tests its start conditions. -/
def ruleRelease (payload : List Byte) (s : State) : Answer :=
  match s.carousel.mode with
  | .run => bare .refusedState s
  | .hold n =>
    let wanted := n + byteAt payload 0
    let count := min wanted s.queuedLots
    let s' := setMode (.hold count) s
    ⟨tryIndexStart (if n = 0 && decide (0 < count) then feedEvaluation s' else s'),
      if count < wanted then .clamped else .done, []⟩

/-- R94: the reply of RELEASE carries the release count as it stands. -/
def withReleaseCount (a : Answer) : Answer := { a with payload := [byteOf a.state.carousel.mode.releases] }

/-- R95: RESUME. -/
def ruleResume (s : State) : Answer :=
  match s.carousel.mode with
  | .run => bare .done s
  | .hold _ => bare .done (tryIndexStart (feedEvaluation (setMode .run s)))

/-- R98: RING_CLEARED; the passage to SURVEYED is handed to the arbiter (R97). -/
def ruleRingCleared (s : State) : Answer :=
  match s.carousel.survey with
  | .unsurveyed => bare .done (arbitrate { s with carousel := { s.carousel with survey := .surveyed } })
  | .flushing => bare .busy s
  | .surveyed => bare .refusedState s

/-- R99: a flush begins. -/
def startFlush (s : State) : State :=
  startStep s.line.inService (setFlap .reject { s with carousel := { s.carousel with survey := .flushing } })

/-- R99: RING_FLUSH. -/
def ruleRingFlush (s : State) : Answer :=
  match s.carousel.survey with
  | .unsurveyed => if s.inSafeStop then bare .refusedState s else bare .done (startFlush s)
  | .flushing => bare .busy s
  | .surveyed => bare .refusedState s

/-- R96: SET_POCKET_LIMIT. -/
def ruleSetPocketLimit (payload : List Byte) (s : State) : Answer :=
  if s.carouselEmpty then
    let n := max 4 (min 16 (byteAt payload 0))
    ⟨storeItem (.line .inService) n s, if n = byteAt payload 0 then .done else .clamped, [byteOf n]⟩
  else bare .busy s

/-- R92: CAROUSEL_RETRY. -/
def ruleCarouselRetry (s : State) : Answer :=
  match s.carousel.index with
  | .faulted n => if s.inSafeStop then bare .refusedState s else bare .done (startStep n s)
  | _ => bare .refusedState s

/-- R102: LOT_READ. -/
def ruleLotRead (payload : List Byte) (s : State) : Answer :=
  let n := byteAt payload 0
  if 16 < n then bare .refusedRange s
  else
    match lotAt n s with
    | none => bare .empty s
    | some bytes => ⟨s, .done, bytes⟩

/-- The INDEX sensor replaced. -/
def setSensor (x : IndexSensor) (s : State) : State := { s with measure := { s.measure with sensor := x } }

/-- R145: the sensor passes from CLEAR to made: the confirmation timer starts. -/
def sensorMade (s : State) : State :=
  if s.measure.sensor.made || s.measure.sensor.confirming.isSome then s
  else setSensor ⟨false, some Config.indexConfirm⟩ s

/-- R145: the sensor clears: a running confirmation is discarded, and the state is CLEAR. -/
def sensorClear (s : State) : State := setSensor ⟨false, none⟩ s

/-- R145: the confirmation runs out with the sensor made: MADE, and one INDEX edge is handed to the carousel. -/
def sensorConfirmed (s : State) : State :=
  match s.measure.sensor.confirming with
  | none => s
  | some _ => indexEdge (setSensor ⟨true, none⟩ s)

/-- HOLD (R93). -/
def execHold (p : Port) (tag : Byte) (payload : List Byte) (s : State) : Host.Outcome State Fault Refusal :=
  running (requestOf p .hold tag payload ruleHold) s

/-- RELEASE (R94). -/
def execRelease (p : Port) (tag : Byte) (payload : List Byte) (s : State) : Host.Outcome State Fault Refusal :=
  running (requestOf p .release tag payload (fun s => withReleaseCount (ruleRelease payload s))) s

/-- RESUME (R95). -/
def execResume (p : Port) (tag : Byte) (payload : List Byte) (s : State) : Host.Outcome State Fault Refusal :=
  running (requestOf p .resume tag payload ruleResume) s

/-- RING_CLEARED (R98). -/
def execRingCleared (p : Port) (tag : Byte) (payload : List Byte) (s : State) : Host.Outcome State Fault Refusal :=
  running (requestOf p .ringCleared tag payload ruleRingCleared) s

/-- RING_FLUSH (R99). -/
def execRingFlush (p : Port) (tag : Byte) (payload : List Byte) (s : State) : Host.Outcome State Fault Refusal :=
  running (requestOf p .ringFlush tag payload ruleRingFlush) s

/-- SET_POCKET_LIMIT (R96). -/
def execSetPocketLimit (p : Port) (tag : Byte) (payload : List Byte) (s : State) : Host.Outcome State Fault Refusal :=
  running (requestOf p .setPocketLimit tag payload (ruleSetPocketLimit payload)) s

/-- CAROUSEL_RETRY (R92). -/
def execCarouselRetry (p : Port) (tag : Byte) (payload : List Byte) (s : State) : Host.Outcome State Fault Refusal :=
  running (requestOf p .carouselRetry tag payload ruleCarouselRetry) s

/-- LOT_READ (R102). -/
def execLotRead (p : Port) (tag : Byte) (payload : List Byte) (s : State) : Host.Outcome State Fault Refusal :=
  running (requestOf p .lotRead tag payload (ruleLotRead payload)) s

/-- INDEX_START (R88). -/
def execIndexStart (s : State) : Host.Outcome State Fault Refusal := running tryIndexStart s

/-- INDEX_SENSOR_MADE (R145). -/
def execIndexSensorMade (s : State) : Host.Outcome State Fault Refusal := running sensorMade s

/-- INDEX_SENSOR_CLEAR (R145). -/
def execIndexSensorClear (s : State) : Host.Outcome State Fault Refusal := running sensorClear s

/-- INDEX_EDGE (R145). -/
def execIndexEdge (s : State) : Host.Outcome State Fault Refusal := running sensorConfirmed s

/-- STEP_TIMER_EXPIRY (R91). -/
def execStepTimerExpiry (s : State) : Host.Outcome State Fault Refusal := running stepFails s

end Sys2Proof.Machine
end

