-- ==== Sys2Proof/Machine/CrusherCommands.lean ====
section
/-! DEFINITION. CRUSHER_CLEAR and BIN_EMPTIED, the timers of the crusher sequencer, and the shaft (chapter 6, section 8.2). -/

namespace Sys2Proof.Machine

/-- R118: CRUSHER_CLEAR RETRY of the slot lot. -/
def clearRetry (x : SlotLot) (s : State) : State :=
  let s' := setSlot (some { x with jams := 0 }) s
  if s.inSafeStop then enterStopped s' else enterRunUp s'

/-- R118: CRUSHER_CLEAR REJECT of the slot lot. -/
def clearReject (x : SlotLot) (s : State) : State :=
  let s1 := reportLot x.lot .rejected .lotRejected
    { s with crusher := { s.crusher with reject := addMass s.crusher.reject x.lot.mass } }
  let s2 := enterStopped (setBinGate .reject (setSlot none s1))
  feedEvaluation { s2 with crusher := { s2.crusher with family := none } }

/-- R118: CRUSHER_CLEAR. R118 gives no order between its two refusals; an unknown action in a state other than BLOCKED is
answered REFUSED_RANGE (DEDUCED, log entry 20). -/
def ruleCrusherClear (payload : List Byte) (s : State) : Answer :=
  match clearActionOfCode (byteAt payload 0) with
  | none => bare .refusedRange s
  | some a =>
    match s.crusher.state, s.crusher.slot with
    | .blocked, some x => bare .done (match a with | .retry => clearRetry x s | .reject => clearReject x s)
    | _, _ => bare .refusedState s

/-- R120: BIN_EMPTIED sets a fill or the reject mass to 0 and makes the feed evaluation. -/
def emptyBin (b : BinOperand) (s : State) : State :=
  match b with
  | .bin f => feedEvaluation { s with crusher := { s.crusher with fills := s.crusher.fills.set f 0 } }
  | .reject => feedEvaluation { s with crusher := { s.crusher with reject := 0 } }

/-- R120: BIN_EMPTIED. -/
def ruleBinEmptied (payload : List Byte) (s : State) : Answer :=
  match binOfCode (byteAt payload 0) with
  | none => bare .refusedRange s
  | some b => bare .done (emptyBin b s)

/-- R109: the run-up timer runs out. A sludge lot is never in the slot then; it would leave the state as it is. -/
def runUpEnds (s : State) : State :=
  match s.crusher.state with
  | .runUp _ =>
    match s.crusher.slot with
    | some x => if x.lot.isSludge then s else enterCrushing s
    | none => if s.crusher.awaited.isSome then enterIdleRun s else feedEvaluation (enterIdleRun s)
  | _ => s

/-- R108: the purge timer runs out. -/
def purgeEnds (s : State) : State :=
  match s.crusher.state with
  | .purge _ target => feedEvaluation (finishPurge target s)
  | _ => s

/-- R110: the idle timer runs out. -/
def idleEnds (s : State) : State :=
  match s.crusher.state with
  | .idleRun _ => enterRunDown s
  | _ => s

/-- R110: the run-down timer runs out. -/
def runDownEnds (s : State) : State :=
  match s.crusher.state with
  | .runDown _ =>
    let s' := enterStopped s
    match s.crusher.slot with
    | some x => if x.lot.isSludge then s' else enterRunUp s'
    | none => feedEvaluation s'
  | _ => s

/-- R116: the reverse timer runs out. -/
def reverseEnds (s : State) : State :=
  match s.crusher.state with
  | .reversing _ => enterRunUp s
  | _ => s

/-- R114: the remaining reaches 0 in CRUSHING. -/
def feedEnds (s : State) : State :=
  match s.crusher.state, s.crusher.slot with
  | .crushing, some x => endOfFeed x s
  | _, _ => s

/-- R119: the remaining reaches 0 in PASS_THROUGH. -/
def transitEnds (s : State) : State :=
  match s.crusher.state, s.crusher.slot with
  | .passThrough, some x => endOfTransit x s
  | _, _ => s

/-- The shaft window counter replaced. -/
def setShaft (w : ShaftWindow) (s : State) : State := { s with measure := { s.measure with shaft := w } }

/-- R142: a shaft pulse. -/
def shaftPulse (s : State) : State :=
  match s.measure.shaft with
  | .counting n ppr left => setShaft (.counting (min Config.shaftCountMax (n + 1)) ppr left) s
  | .idle => s

/-- R143: the rpm of a window. -/
def windowRpm (count ppr : Nat) : Nat := count * 120 / ppr

/-- R143: a window completes: the next one starts at once, and the rpm is handed to the crusher sequencer. A change of
direction that the hand-over makes abandons the new window. -/
def windowEnds (s : State) : State :=
  match s.measure.shaft with
  | .counting n ppr _ => windowDone (windowRpm n ppr) (setShaft (.counting 0 s.line.ppr Config.shaftWindow) s)
  | .idle => s

/-- CRUSHER_CLEAR (R118). -/
def execCrusherClear (p : Port) (tag : Byte) (payload : List Byte) (s : State) : Host.Outcome State Fault Refusal :=
  running (requestOf p .crusherClear tag payload (ruleCrusherClear payload)) s

/-- BIN_EMPTIED (R120). -/
def execBinEmptied (p : Port) (tag : Byte) (payload : List Byte) (s : State) : Host.Outcome State Fault Refusal :=
  running (requestOf p .binEmptied tag payload (ruleBinEmptied payload)) s

/-- FEED_EVALUATION (R105). -/
def execFeedEvaluation (s : State) : Host.Outcome State Fault Refusal := running feedEvaluation s

/-- RUN_UP_EXPIRY (R109). -/
def execRunUpExpiry (s : State) : Host.Outcome State Fault Refusal := running runUpEnds s

/-- PURGE_EXPIRY (R108). -/
def execPurgeExpiry (s : State) : Host.Outcome State Fault Refusal := running purgeEnds s

/-- IDLE_EXPIRY (R110). -/
def execIdleExpiry (s : State) : Host.Outcome State Fault Refusal := running idleEnds s

/-- RUN_DOWN_EXPIRY (R110). -/
def execRunDownExpiry (s : State) : Host.Outcome State Fault Refusal := running runDownEnds s

/-- REVERSE_EXPIRY (R116). -/
def execReverseExpiry (s : State) : Host.Outcome State Fault Refusal := running reverseEnds s

/-- END_OF_FEED (R114). -/
def execEndOfFeed (s : State) : Host.Outcome State Fault Refusal := running feedEnds s

/-- END_OF_TRANSIT (R119). -/
def execEndOfTransit (s : State) : Host.Outcome State Fault Refusal := running transitEnds s

/-- SHAFT_PULSE (R142). -/
def execShaftPulse (s : State) : Host.Outcome State Fault Refusal := running shaftPulse s

/-- SHAFT_WINDOW_END (R143). -/
def execShaftWindowEnd (s : State) : Host.Outcome State Fault Refusal := running windowEnds s

end Sys2Proof.Machine
end

