-- ==== Sys2Proof/Machine/FilterCommands.lean ====
section
/-! DEFINITION. BACKWASH_NOW, INDEX_NOW and FLEECE_LOADED, the fleece meter, and the timers of the filter sequencer
(chapter 3). -/

namespace Sys2Proof.Machine

/-- R55: the backwash-pending flag is set and the request answered WAIT. -/
def waitForBackwash (s : State) : Answer := bare .wait (setPendingFlag true s)

/-- R55: BACKWASH_NOW. -/
def ruleBackwashNow (s : State) : Answer :=
  match s.filter.state with
  | .filtering => if s.backwashAllowed then bare .done (startBackwash s) else waitForBackwash s
  | .settle _ => waitForBackwash s
  | .backwash _ => bare .busy s
  | .indexing _ _ _ => bare .busy s

/-- R56: whether an INDEX_NOW taken in FILTERING starts an index: a known fleece above 0, and the line not in safe stop. -/
def State.fleeceReady (s : State) : Bool :=
  !s.inSafeStop && (match s.filter.fleece with | some n => decide (0 < n) | none => false)

/-- R56: INDEX_NOW. -/
def ruleIndexNow (s : State) : Answer :=
  match s.filter.state with
  | .filtering => if s.fleeceReady then bare .done (startFleeceIndex s) else bare .refusedState s
  | .backwash _ => bare .busy s
  | .settle _ => bare .busy s
  | .indexing _ _ _ => bare .busy s

/-- R54: the fleece remaining set to a length; a length of 0 taken in INDEXING ends the index. -/
def loadFleece (n : Nat) (s : State) : State :=
  let s' := { s with filter := { s.filter with fleece := some n } }
  match s.filter.state with
  | .indexing _ _ _ => if n = 0 then endFleeceIndex s' else s'
  | _ => s'

/-- R54: FLEECE_LOADED. -/
def ruleFleeceLoaded (payload : List Byte) (s : State) : Answer :=
  let n := min Config.fleeceMax (u16At payload 0)
  ⟨loadFleece n s, if n = u16At payload 0 then .done else .clamped, u16 n⟩

/-- R51, R146: a fleece meter pulse, which counts in INDEXING alone. -/
def fleecePulse (s : State) : State :=
  match s.filter.state with
  | .indexing length metered _ => meterPulse length metered s
  | _ => s

/-- R52: the stall timer runs out in INDEXING. -/
def fleeceStalls (s : State) : State :=
  match s.filter.state with
  | .indexing _ _ _ => endFleeceIndex (postHall .fleeceStall s)
  | _ => s

/-- R48: the backwash timer runs out: the sludge request is posted with the filter in SETTLE, the trough FULL and the gap
timer at 0. -/
def backwashEnds (s : State) : State :=
  match s.filter.state with
  | .backwash _ =>
    let s' := sprayOff
      { s with
        filter := { s.filter with state := .settle (some (sec s.line.tSettle)), troughFull := true, gap := 0 } }
    afterRequest .sludge 6 (storeSludge s')
  | _ => s

/-- R50: the settle timer runs out; the next DP sample decides. -/
def settleEnds (s : State) : State :=
  match s.filter.state with
  | .settle (some _) => setFilterState (.settle none) s
  | _ => s

/-- R45, R46: the gap timer reaches the BWgap in force. -/
def gapEnds (s : State) : State :=
  tryPendingBackwash { s with filter := { s.filter with gap := max s.filter.gap (sec s.line.bwGap) } }

/-- BACKWASH_NOW (R55). -/
def execBackwashNow (p : Port) (tag : Byte) (payload : List Byte) (s : State) : Host.Outcome State Fault Refusal :=
  running (requestOf p .backwashNow tag payload ruleBackwashNow) s

/-- INDEX_NOW (R56). -/
def execIndexNow (p : Port) (tag : Byte) (payload : List Byte) (s : State) : Host.Outcome State Fault Refusal :=
  running (requestOf p .indexNow tag payload ruleIndexNow) s

/-- FLEECE_LOADED (R54). -/
def execFleeceLoaded (p : Port) (tag : Byte) (payload : List Byte) (s : State) : Host.Outcome State Fault Refusal :=
  running (requestOf p .fleeceLoaded tag payload (ruleFleeceLoaded payload)) s

/-- FLEECE_METER_PULSE (R51). -/
def execFleeceMeterPulse (s : State) : Host.Outcome State Fault Refusal := running fleecePulse s

/-- FLEECE_STALL_EXPIRY (R52). -/
def execFleeceStallExpiry (s : State) : Host.Outcome State Fault Refusal := running fleeceStalls s

/-- BACKWASH_TIMER_EXPIRY (R48). -/
def execBackwashTimerExpiry (s : State) : Host.Outcome State Fault Refusal := running backwashEnds s

/-- SETTLE_TIMER_EXPIRY (R50). -/
def execSettleTimerExpiry (s : State) : Host.Outcome State Fault Refusal := running settleEnds s

/-- GAP_TIMER_EXPIRY (R46). -/
def execGapTimerExpiry (s : State) : Host.Outcome State Fault Refusal := running gapEnds s

/-- PENDING_BACKWASH_START (R45). -/
def execPendingBackwashStart (s : State) : Host.Outcome State Fault Refusal := running tryPendingBackwash s

end Sys2Proof.Machine
end

