-- ==== Sys2Proof/Machine/StoreCommands.lean ====
section
/-! DEFINITION. RANGE, PROFILE_READ, PROFILE_WRITE, PROFILE_LOAD and PROFILE_SAVE, and the save timer (chapter 7). -/

namespace Sys2Proof.Machine

/-- R132: the payload of RANGE: the item, its presence, minimum, maximum, current value and set 0 value. -/
def rangeReply (item : Nat) (s : State) : List Byte :=
  match itemOfNumber item with
  | none => [byteOf item, byteOf 0] ++ i16 0 ++ i16 0 ++ i16 0 ++ i16 0
  | some r =>
    [byteOf item, byteOf 1] ++ i16 (refRange r).least ++ i16 (refRange r).greatest ++ i16 (s.itemValue r)
      ++ i16 (refRange r).factory

/-- R132: RANGE. -/
def ruleRange (payload : List Byte) (s : State) : Answer := ⟨s, .done, rangeReply (byteAt payload 0) s⟩

/-- R127: PROFILE_READ. -/
def ruleProfileRead (payload : List Byte) (s : State) : Answer :=
  match itemOfNumber (byteAt payload 0) with
  | none => bare .refusedRange s
  | some r => ⟨s, .done, byteOf (byteAt payload 0) :: i16 (s.itemValue r)⟩

/-- R128: a PROFILE_WRITE of a writable item, from step 3 on. -/
def writeItem (number : Nat) (i : Item) (value : Int) (s : State) : Answer :=
  let v := clampTo (itemRange i) value
  if s.saving then bare .busy s
  else if !orderKept i (s.store.working.set i v) then bare .refusedOrder s
  else if i.needsEmptyRing && !s.carouselEmpty then bare .busy s
  else ⟨storeItem i v s, if v = value then .done else .clamped, byteOf number :: i16 v⟩

/-- R128: PROFILE_WRITE. -/
def ruleProfileWrite (payload : List Byte) (s : State) : Answer :=
  match itemOfNumber (byteAt payload 0) with
  | none => bare .refusedRange s
  | some (.writable i) => writeItem (byteAt payload 0) i (i16At payload 1) s
  | some _ => bare .refusedKind s

/-- R134: PROFILE_LOAD. -/
def ruleProfileLoad (payload : List Byte) (s : State) : Answer :=
  match setOfNumber (byteAt payload 0) with
  | none => bare .refusedRange s
  | some n =>
    let p := s.store.nonVolatile.profile n
    if s.saving then bare .busy s
    else if ringDiffers p.line s.line && !s.carouselEmpty then bare .busy s
    else bare .done (loadProfile p s)

/-- R135, R136: PROFILE_SAVE. R135 gives no order between its two refusals; a set number above 2 while SAVING is answered
REFUSED_RANGE (DEDUCED, log entry 20). -/
def ruleProfileSave (payload : List Byte) (s : State) : Answer :=
  match setOfNumber (byteAt payload 0) with
  | none => bare .refusedRange s
  | some n =>
    if s.saving then bare .busy s
    else
      match n with
      | .set0 => bare .done (selectFactory s)
      | .set1 => bare .done (startSave .set1 s)
      | .set2 => bare .done (startSave .set2 s)

/-- RANGE (R132). -/
def execRange (p : Port) (tag : Byte) (payload : List Byte) (s : State) : Host.Outcome State Fault Refusal :=
  running (requestOf p .range tag payload (ruleRange payload)) s

/-- PROFILE_READ (R127). -/
def execProfileRead (p : Port) (tag : Byte) (payload : List Byte) (s : State) : Host.Outcome State Fault Refusal :=
  running (requestOf p .profileRead tag payload (ruleProfileRead payload)) s

/-- PROFILE_WRITE (R128). -/
def execProfileWrite (p : Port) (tag : Byte) (payload : List Byte) (s : State) : Host.Outcome State Fault Refusal :=
  running (requestOf p .profileWrite tag payload (ruleProfileWrite payload)) s

/-- PROFILE_LOAD (R134). -/
def execProfileLoad (p : Port) (tag : Byte) (payload : List Byte) (s : State) : Host.Outcome State Fault Refusal :=
  running (requestOf p .profileLoad tag payload (ruleProfileLoad payload)) s

/-- PROFILE_SAVE (R135). -/
def execProfileSave (p : Port) (tag : Byte) (payload : List Byte) (s : State) : Host.Outcome State Fault Refusal :=
  running (requestOf p .profileSave tag payload (ruleProfileSave payload)) s

/-- SAVE_TIMER_EXPIRY (R135). -/
def execSaveTimerExpiry (s : State) : Host.Outcome State Fault Refusal := running saveDone s

end Sys2Proof.Machine
end

