-- ==== Sys2Proof/Machine/WatchCommands.lean ====
section
/-! DEFINITION. KEEP_A, KEEP_B, STATION_WATCH, EVENT_LEVEL, STATUS, LINE_STOP, LINE_RESUME and LINE_RESTART, and the period
timers of the stations (chapter 10). -/

namespace Sys2Proof.Machine

/-- R165: a keep-alive on a station port: its reply carries the watch state as the keep-alive left it. -/
def stationKeepAlive (ph : Phase) (st : Station) (s : State) : Answer :=
  let out := keepAlive st ph s
  ⟨out.1, if out.2 then .repeated else .done, [byteOf (watchStateCode (out.1.watches.get st).state)]⟩

/-- R168: the code of STATION_WATCH that disables the watch. -/
def disableCode : Nat := 0xA5

/-- R168: STATION_WATCH. The enable of the working copy is set to match, and handed to the station watch. -/
def ruleStationWatch (payload : List Byte) (s : State) : Answer :=
  match stationOfNumber (byteAt payload 0) with
  | none => bare .refusedRange s
  | some st =>
    bare .done (storeItem (.station st .watchEnable) (if byteAt payload 1 = disableCode then 0 else 1) s)

/-- R172: EVENT_LEVEL. -/
def ruleEventLevel (payload : List Byte) (s : State) : Answer :=
  match hallKindOfNumber (byteAt payload 0) with
  | none => bare .refusedRange s
  | some k =>
    let level := min 7 (byteAt payload 1)
    ⟨storeItem (.level k) level s, if level = byteAt payload 1 then .done else .clamped, [byteOf level]⟩

/-- R171, R182: STATUS on a station port. -/
def stationStatusAnswer (st : Station) (s : State) : Answer :=
  ⟨match topStation st s with | none => s | some k => dropStation st k s, .done, stationStatus st s⟩

/-- R171, R183: STATUS on the hall port. -/
def hallStatusAnswer (s : State) : Answer :=
  ⟨match topHall s with | none => s | some k => dropHall k s, .done, hallStatus s⟩

/-- R171: STATUS. -/
def ruleStatus (p : Port) (s : State) : Answer :=
  match p with
  | .station st => stationStatusAnswer st s
  | .hall => hallStatusAnswer s

/-- R173: LINE_STOP. -/
def ruleLineStop (s : State) : Answer := bare .done (addCause .hall s)

/-- R173: LINE_RESUME. -/
def ruleLineResume (s : State) : Answer := bare .done (removeCause .hall s)

/-- R176: LINE_RESTART. -/
def ruleLineRestart (s : State) : Answer := bare .done (lineRestart s)

/-- KEEP_A (R165). -/
def execKeepA (p : Port) (tag : Byte) (payload : List Byte) (s : State) : Host.Outcome State Fault Refusal :=
  running (requestOf p .keepA tag payload (stationRule p (stationKeepAlive .a))) s

/-- KEEP_B (R165). -/
def execKeepB (p : Port) (tag : Byte) (payload : List Byte) (s : State) : Host.Outcome State Fault Refusal :=
  running (requestOf p .keepB tag payload (stationRule p (stationKeepAlive .b))) s

/-- STATION_WATCH (R168). -/
def execStationWatch (p : Port) (tag : Byte) (payload : List Byte) (s : State) : Host.Outcome State Fault Refusal :=
  running (requestOf p .stationWatch tag payload (ruleStationWatch payload)) s

/-- EVENT_LEVEL (R172). -/
def execEventLevel (p : Port) (tag : Byte) (payload : List Byte) (s : State) : Host.Outcome State Fault Refusal :=
  running (requestOf p .eventLevel tag payload (ruleEventLevel payload)) s

/-- STATUS (R171). -/
def execStatus (p : Port) (tag : Byte) (payload : List Byte) (s : State) : Host.Outcome State Fault Refusal :=
  running (requestOf p .status tag payload (ruleStatus p)) s

/-- LINE_STOP (R173). -/
def execLineStop (p : Port) (tag : Byte) (payload : List Byte) (s : State) : Host.Outcome State Fault Refusal :=
  running (requestOf p .lineStop tag payload ruleLineStop) s

/-- LINE_RESUME (R173). -/
def execLineResume (p : Port) (tag : Byte) (payload : List Byte) (s : State) : Host.Outcome State Fault Refusal :=
  running (requestOf p .lineResume tag payload ruleLineResume) s

/-- LINE_RESTART (R176). -/
def execLineRestart (p : Port) (tag : Byte) (payload : List Byte) (s : State) : Host.Outcome State Fault Refusal :=
  running (requestOf p .lineRestart tag payload ruleLineRestart) s

/-- KEEPALIVE_PERIOD_EXPIRY (R166). -/
def execKeepalivePeriodExpiry (st : Station) (s : State) : Host.Outcome State Fault Refusal := running (periodExpires st) s

end Sys2Proof.Machine
end

