-- ==== Sys2Proof/Machine/MeasureCommands.lean ====
section
/-! DEFINITION. Conversions, the chute counter's pulse, and the field-supply monitor (chapter 8). -/

namespace Sys2Proof.Machine

/-! ## Conversions (R138 to R141) -/

/-- R140: a raw code on a rail. -/
def onRail (raw : BitVec 12) : Bool := decide (raw = 0#12) || decide (raw = 4095#12)

/-- R140 steps 1 and 2: the raw code corrected by 4 counts for each unit of the calibration, and cut to 0 to 4095. -/
def correctedCode (raw : BitVec 12) (calibration : Int) : Nat := (max 0 (min 4095 ((raw.toNat : Int) + 4 * calibration))).toNat

/-- R140 step 3: the value of a good sample of a channel. -/
def sampleValue (c : Analog) (lFull corrected : Nat) : Nat :=
  match c with
  | .dp => corrected * 1000 / 4096
  | .level => corrected * lFull / 4096

/-- R138: the next conversion starts at once on the other channel. -/
def otherChannel : Analog → Analog
  | .dp => .level
  | .level => .dp

/-- R139: the calibration of a channel in the working copy. -/
def LineParams.calibration (l : LineParams) : Analog → Int
  | .dp => l.dpCal
  | .level => l.levelCal

/-- R138, R139: a conversion starts on a channel, with its calibration. -/
def startConversion (c : Analog) (s : State) : State :=
  { s with measure := { s.measure with conversion := ⟨c, s.line.calibration c, 0⟩ } }

/-- R26, R27, R141: a completed DP conversion: the supply unit takes the sample and recomputes, and the sample goes on to
the filter sequencer. -/
def dpCompletes (raw : BitVec 12) (calibration : Int) (s : State) : State :=
  filterDpSample (recompute
    (if onRail raw then takeFaultedDp s
     else takeGoodDp (sampleValue .dp s.line.lFull (correctedCode raw calibration)) s))

/-- R28, R29, R141: a completed LEVEL conversion: the supply unit takes the sample and recomputes. -/
def levelCompletes (raw : BitVec 12) (calibration : Int) (s : State) : State :=
  recompute
    (if onRail raw then takeFaultedLevel s
     else takeGoodLevel (sampleValue .level s.line.lFull (correctedCode raw calibration)) s)

/-- R140: a conversion completes with a raw code from outside (DESIGN CHOICE, log entry 5), and the next one starts. -/
def conversionCompletes (raw : BitVec 12) (s : State) : State :=
  let c := s.measure.conversion
  startConversion (otherChannel c.channel)
    (match c.channel with
     | .dp => dpCompletes raw c.calibration s
     | .level => levelCompletes raw c.calibration s)

/-! ## Chute pulses (R144) -/

/-- R144: a load-cell pulse, which counts while the enable is on. -/
def chuteCounts (s : State) : State :=
  if s.measure.chute.enabled then
    { s with
      measure := { s.measure with
        chute := { s.measure.chute with count := min Config.chuteCountMax (s.measure.chute.count + 1) } } }
  else s

/-! ## The field-supply monitor (R147 to R149) -/

/-- R147: a reading of the supply: LOW below 19.0 V, GOOD at 20.0 V or above, else the last value. -/
def supplyReading (deciVolts : Nat) (last : Bool) : Bool :=
  if deciVolts < Config.supplyLowBelow then false
  else if Config.supplyGoodFrom ≤ deciVolts then true
  else last

/-- The monitor with the reading of the supply. -/
def setMonitor (m : Monitor) (good : Bool) (s : State) : State :=
  { s with measure := { s.measure with monitor := m, supplyGood := good } }

/-- R148, R149: the monitor after a fall. -/
def Monitor.afterFall : Monitor → Monitor
  | .good => .dip Config.dipTime
  | .dip n => .dip n
  | .failed => .failed
  | .recovering _ => .failed

/-- R148, R149: the monitor after a return. -/
def Monitor.afterReturn : Monitor → Monitor
  | .good => .good
  | .dip _ => .good
  | .failed => .recovering Config.recoveryTime
  | .recovering n => .recovering n

/-- R147: the supply comes to a voltage: a fall is the passage of the reading from GOOD to LOW, and a return its passage
from LOW to GOOD; a voltage that changes no reading does nothing (DEDUCED, log entry 12). -/
def supplyAt (deciVolts : Nat) (s : State) : State :=
  match s.measure.supplyGood, supplyReading deciVolts s.measure.supplyGood with
  | true, false => setMonitor s.measure.monitor.afterFall false s
  | false, true => setMonitor s.measure.monitor.afterReturn true s
  | _, _ => s

/-- R148: the dip timer runs out in DIP. -/
def dipEnds (s : State) : State :=
  match s.measure.monitor with
  | .dip _ => addCause .fieldSupply (setMonitor .failed s.measure.supplyGood s)
  | _ => s

/-- R149: the recovery timer runs out in RECOVERING. -/
def recoveryEnds (s : State) : State :=
  match s.measure.monitor with
  | .recovering _ => removeCause .fieldSupply (setMonitor .good s.measure.supplyGood s)
  | _ => s

/-- CONVERSION_COMPLETION (R140). -/
def execConversionCompletion (raw : BitVec 12) (s : State) : Host.Outcome State Fault Refusal :=
  running (conversionCompletes raw) s

/-- CHUTE_PULSE (R144). -/
def execChutePulse (s : State) : Host.Outcome State Fault Refusal := running chuteCounts s

/-- FIELD_SUPPLY_FALL (R148). -/
def execFieldSupplyFall (deciVolts : Nat) (s : State) : Host.Outcome State Fault Refusal := running (supplyAt deciVolts) s

/-- FIELD_SUPPLY_RETURN (R149). -/
def execFieldSupplyReturn (deciVolts : Nat) (s : State) : Host.Outcome State Fault Refusal :=
  running (supplyAt deciVolts) s

/-- DIP_TIMER_EXPIRY (R148). -/
def execDipTimerExpiry (s : State) : Host.Outcome State Fault Refusal := running dipEnds s

/-- RECOVERY_TIMER_EXPIRY (R149). -/
def execRecoveryTimerExpiry (s : State) : Host.Outcome State Fault Refusal := running recoveryEnds s

end Sys2Proof.Machine
end

