-- ==== Sys2Proof/Machine/DriveCommands.lean ====
section
/-! DEFINITION. The period end, the end of a valve's on time, and the spray toggle (chapter 9). -/

namespace Sys2Proof.Machine

/-- Whether a channel holds a staged reduction (R152). -/
def Channel.holdsReduction (c : Channel) : Bool :=
  match c.pending with
  | some (.reduction _) => true
  | _ => false

/-- R155: whether any channel holds a staged reduction. -/
def anyReduction (t : PerSlot Channel) : Bool := allSlots.any (fun sl => (t.get sl).holdsReduction)

/-- R155: a channel at a period end: with a reduction staged anywhere the reductions load, otherwise the increases. -/
def loadChannel (reductions : Bool) (c : Channel) : Channel :=
  match c.pending with
  | some (.reduction d) => { c with applied := d, pending := none }
  | some (.increase d) => if reductions then c else { c with applied := d, pending := none }
  | none => c

/-- R156: at the start of a period the output is on unless the applied duty is 0. -/
def switchOn (c : Channel) : Channel := { c with output := decide (0 < c.applied) }

/-- R155: what a period end loads. -/
def loadPending (t : PerSlot Channel) : PerSlot Channel := t.mapKeys (fun _ c => loadChannel (anyReduction t) c)

/-- R152, R155, R156: a period end: pending changes load, the outputs are switched, and the period timer starts again. -/
def periodEnds (s : State) : State :=
  { s with
    drive := { s.drive with
      channels := (loadPending s.drive.channels).mapKeys (fun _ c => switchOn c), periodLeft := Config.valvePeriod } }

/-- R156: a channel's output goes off after its applied duty has elapsed; duty 1000 holds it on through the period. -/
def dutyElapses (sl : Slot) (s : State) : State :=
  let c := s.drive.channels.get sl
  if c.applied < 1000 then
    { s with drive := { s.drive with channels := s.drive.channels.set sl { c with output := false } } }
  else s

/-- R160: the toggle timer runs out: the valve changes position and the timer starts again. -/
def sprayToggles (s : State) : State :=
  match s.drive.spray with
  | .off => s
  | .on valveOpen _ => { s with drive := { s.drive with spray := .on (!valveOpen) s.line.tSpray } }

/-- PERIOD_END (R155). -/
def execPeriodEnd (s : State) : Host.Outcome State Fault Refusal := running periodEnds s

/-- SPRAY_TOGGLE_EXPIRY (R160). -/
def execSprayToggleExpiry (s : State) : Host.Outcome State Fault Refusal := running sprayToggles s

/-- APPLIED_DUTY_ELAPSED (R156). -/
def execAppliedDutyElapsed (sl : Slot) (s : State) : Host.Outcome State Fault Refusal := running (dutyElapses sl) s

end Sys2Proof.Machine
end

