-- ==== Sys2Proof/Machine/LinkCommands.lean ====
section
/-! DEFINITION. The commands of the link ports themselves: bytes, frames that are discarded or owed a BUSY, requests of an
absent kind, and the end of a reply (chapter 11). -/

namespace Sys2Proof.Machine

/-- R177: a complete frame on a port's line; while the port transmits, its bytes are lost. -/
def wholeFrame (p : Port) (frame : List Byte) (s : State) : State := if receiverTakes p s then frameArrives p frame s else s

/-- R179: a complete frame that passed its tests, on a port that takes bytes; its request is not taken yet. -/
def goodFrame (p : Port) (r : LinkRequest) (s : State) : State := if receiverTakes p s then acceptFrame p r s else s

/-- R180: a request whose kind code is absent from Table 11-4. A code that the table has is the request of its own row,
and only its frame arrives here. -/
def absentKind (p : Port) (r : LinkRequest) (s : State) : State :=
  match kindOfCode r.kind with
  | none => takeRequest p r (bare .refusedKind) s
  | some _ => goodFrame p r s

/-- FRAME_DISCARDED (R177). -/
def execFrameDiscarded (p : Port) (frame : List Byte) (s : State) : Host.Outcome State Fault Refusal :=
  running (wholeFrame p frame) s

/-- FRAME_GAP_TIMEOUT (R177). -/
def execFrameGapTimeout (p : Port) (s : State) : Host.Outcome State Fault Refusal := running (gapRunsOut p) s

/-- OWED_BUSY_FRAME (R179). -/
def execOwedBusyFrame (p : Port) (tag kind : Byte) (payload : List Byte) (s : State) : Host.Outcome State Fault Refusal :=
  running (goodFrame p ⟨tag, kind, payload⟩) s

/-- RECEIVED_BYTE (R177). -/
def execReceivedByte (p : Port) (b : Byte) (s : State) : Host.Outcome State Fault Refusal := running (byteArrives p b) s

/-- ABSENT_KIND_REQUEST (R180). -/
def execAbsentKindRequest (p : Port) (tag code : Byte) (payload : List Byte) (s : State) :
    Host.Outcome State Fault Refusal :=
  running (absentKind p ⟨tag, code, payload⟩) s

/-- REPLY_TRANSMISSION_END (R177). -/
def execReplyTransmissionEnd (p : Port) (s : State) : Host.Outcome State Fault Refusal := running (endReply p) s

end Sys2Proof.Machine
end

