-- ==== Sys2Proof/Machine/PowerCommands.lean ====
section
/-! DEFINITION. The logic supply: its loss and its return (R137, R175). -/

namespace Sys2Proof.Machine

/-- R175: power-on. Every block takes its power-on state, with the working copy loaded from the start set; a field supply
found LOW enters FIELD_SUPPLY within it. The first reading between the thresholds is LOW (R147). -/
def powerUp (deciVolts : Nat) (sensorMade : Bool) (s : State) : State :=
  let good := supplyReading deciVolts false
  let s' := powerOnState s.store.nonVolatile good sensorMade s.ties s.pending
  if good then s' else addCause .fieldSupply s'

/-- R137: the logic supply is lost. The sets and the selector survive; a save in progress is not made. What the other
blocks held is lost: power-on sets it afresh, and nothing acts on it before (DESIGN CHOICE, log entry 14). -/
def powerDown (s : State) : State := { s with powered := false, store := { s.store with save := .idle } }

/-- POWER_ON (R175). -/
def execPowerOn (deciVolts : Nat) (sensorMade : Bool) (s : State) : Host.Outcome State Fault Refusal :=
  .next (powerUp deciVolts sensorMade s)

/-- LOGIC_SUPPLY_LOSS (R137). -/
def execLogicSupplyLoss (s : State) : Host.Outcome State Fault Refusal := running powerDown s

end Sys2Proof.Machine
end

