-- ==== Sys2Proof/Machine/Clock.lean ====
section
/-! DEFINITION. What the CF-640 does when no command waits (log entry 2): a held request or a timer that has run out gives
its command, one at a time; when there is none, one millisecond passes. -/

namespace Sys2Proof.Machine

/-! ## The commands that are due -/

/-- R179, R180: the command that takes a held request. -/
def heldCommand (p : Port) (r : LinkRequest) : Instr :=
  match kindOfCode r.kind with
  | none => .absentKindRequest p r.tag r.kind r.payload
  | some .status => .status p r.tag r.payload
  | some .range => .range p r.tag r.payload
  | some .keepA => .keepA p r.tag r.payload
  | some .keepB => .keepB p r.tag r.payload
  | some .coolantAsk => .coolantAsk p r.tag r.payload
  | some .coolantEnd => .coolantEnd p r.tag r.payload
  | some .dischargeAsk => .dischargeAsk p r.tag r.payload
  | some .dischargeGo => .dischargeGo p r.tag r.payload
  | some .dischargeDone => .dischargeDone p r.tag r.payload
  | some .dischargeCancel => .dischargeCancel p r.tag r.payload
  | some .tableRead => .tableRead p r.tag r.payload
  | some .lotRead => .lotRead p r.tag r.payload
  | some .profileRead => .profileRead p r.tag r.payload
  | some .profileWrite => .profileWrite p r.tag r.payload
  | some .profileLoad => .profileLoad p r.tag r.payload
  | some .profileSave => .profileSave p r.tag r.payload
  | some .backwashNow => .backwashNow p r.tag r.payload
  | some .indexNow => .indexNow p r.tag r.payload
  | some .fleeceLoaded => .fleeceLoaded p r.tag r.payload
  | some .hold => .hold p r.tag r.payload
  | some .release => .release p r.tag r.payload
  | some .resume => .resume p r.tag r.payload
  | some .ringCleared => .ringCleared p r.tag r.payload
  | some .ringFlush => .ringFlush p r.tag r.payload
  | some .setPocketLimit => .setPocketLimit p r.tag r.payload
  | some .carouselRetry => .carouselRetry p r.tag r.payload
  | some .crusherClear => .crusherClear p r.tag r.payload
  | some .binEmptied => .binEmptied p r.tag r.payload
  | some .stationWatch => .stationWatch p r.tag r.payload
  | some .eventLevel => .eventLevel p r.tag r.payload
  | some .lineStop => .lineStop p r.tag r.payload
  | some .lineResume => .lineResume p r.tag r.payload
  | some .lineRestart => .lineRestart p r.tag r.payload

/-- A command that is due when its timer has run out. -/
def dueWhen (left : Nat) (i : Instr) : List Instr := if left = 0 then [i] else []

/-- R177, R179: what is due on a port: its held request, the gap of a frame, the end of a reply. -/
def duePort (s : State) (p : Port) : List Instr :=
  (match (s.ports.get p).held with | some r => [heldCommand p r] | none => [])
    ++ (match (s.ports.get p).rx with | .assembling _ n => dueWhen n (.frameGapTimeout p) | .hunting => [])
    ++ (match (s.ports.get p).tx with | some t => dueWhen t.left (.replyTransmissionEnd p) | none => [])

/-- R166: the period timer of a station. -/
def dueWatch (s : State) (st : Station) : List Instr :=
  match (s.watches.get st).timer with
  | some n => dueWhen n (.keepalivePeriodExpiry st)
  | none => []

/-- R69, R73, R76: the windows of a discharge. -/
def dueDischarge (s : State) (src : Source) : List Instr :=
  match (s.request src).map DischargeRequest.state with
  | some (.offered _ w) => dueWhen w .offerWindowExpiry
  | some (.opened _ g d) =>
    dueWhen g .gateWindowExpiry ++ (match d with | some n => dueWhen n .dumpTimerExpiry | none => [])
  | _ => []

/-- R91, R145: the step timer and the confirmation timer. -/
def dueCarousel (s : State) : List Instr :=
  (match s.carousel.index with | .indexing _ n => dueWhen n .stepTimerExpiry | _ => [])
    ++ (match s.measure.sensor.confirming with | some n => dueWhen n .indexEdge | none => [])

/-- R108 to R110, R114, R116, R119, R143: the timers of the crusher, its lot's remaining, and the shaft window. -/
def dueCrusher (s : State) : List Instr :=
  (match s.crusher.state with
   | .runUp n => dueWhen n .runUpExpiry
   | .idleRun n => dueWhen n .idleExpiry
   | .purge n _ => dueWhen n .purgeExpiry
   | .reversing n => dueWhen n .reverseExpiry
   | .runDown n => dueWhen n .runDownExpiry
   | .crushing => (match s.crusher.slot with | some x => dueWhen x.remaining .endOfFeed | none => [])
   | .passThrough => (match s.crusher.slot with | some x => dueWhen x.remaining .endOfTransit | none => [])
   | .stopped => []
   | .blocked => [])
    ++ (match s.measure.shaft with | .counting _ _ n => dueWhen n .shaftWindowEnd | .idle => [])

/-- R45, R48, R50, R52, R160: the timers of the filter, the gap that a pending backwash waits for, and the spray. -/
def dueFilter (s : State) : List Instr :=
  (match s.filter.state with
   | .filtering => if s.filter.pending && s.gapElapsed && s.backwashAllowed then [.gapTimerExpiry] else []
   | .backwash n => dueWhen n .backwashTimerExpiry
   | .settle (some n) => dueWhen n .settleTimerExpiry
   | .settle none => []
   | .indexing _ _ n => dueWhen n .fleeceStallExpiry)
    ++ (match s.drive.spray with | .on _ n => dueWhen n .sprayToggleExpiry | .off => [])

/-- R156: a channel whose output is on and whose applied duty has elapsed. -/
def dueChannel (s : State) (sl : Slot) : List Instr :=
  let c := s.drive.channels.get sl
  if c.output && decide (c.applied < 1000) && decide (s.drive.periodLeft + c.applied ≤ Config.valvePeriod) then
    [.appliedDutyElapsed sl]
  else []

/-- R135, R148, R149: the save timer and the monitor's timers. -/
def dueStoreAndSupply (s : State) : List Instr :=
  (match s.store.save with | .saving _ _ n => dueWhen n .saveTimerExpiry | .idle => [])
    ++ (match s.measure.monitor with
        | .dip n => dueWhen n .dipTimerExpiry
        | .recovering n => dueWhen n .recoveryTimerExpiry
        | .good => []
        | .failed => [])

/-- Every command that is due. A conversion is not among them: its raw code comes from outside. -/
def State.due (s : State) : List Instr :=
  allPorts.flatMap (duePort s) ++ allStations.flatMap (dueWatch s) ++ allSources.flatMap (dueDischarge s)
    ++ dueCarousel s ++ dueCrusher s ++ dueFilter s ++ dueStoreAndSupply s
    ++ allSlots.flatMap (dueChannel s) ++ dueWhen s.drive.periodLeft .periodEnd

/-! ## One millisecond -/

/-- A timer after one millisecond. -/
def tickTimer (t : Option Nat) : Option Nat := t.map (fun n => n - 1)

/-- The timers of a port. -/
def tickPort (x : LinkPort) : LinkPort :=
  { x with
    rx := match x.rx with | .assembling b n => .assembling b (n - 1) | .hunting => .hunting
    tx := x.tx.map (fun t => { t with left := t.left - 1 }) }

/-- The windows of a discharge request. -/
def tickRequest (r : DischargeRequest) : DischargeRequest :=
  { r with
    state := match r.state with
      | .pending => .pending
      | .offered k w => .offered k (w - 1)
      | .opened k g d => .opened k (g - 1) (tickTimer d) }

/-- The timer of a crusher state. -/
def tickCrusherState : CrusherState → CrusherState
  | .stopped => .stopped
  | .runUp n => .runUp (n - 1)
  | .idleRun n => .idleRun (n - 1)
  | .purge n f => .purge (n - 1) f
  | .crushing => .crushing
  | .reversing n => .reversing (n - 1)
  | .blocked => .blocked
  | .passThrough => .passThrough
  | .runDown n => .runDown (n - 1)

/-- R114, R119: the remaining of the slot lot runs in CRUSHING and in PASS_THROUGH alone. -/
def tickSlot (c : CrusherState) (x : SlotLot) : SlotLot :=
  match c with
  | .crushing => { x with remaining := x.remaining - 1 }
  | .passThrough => { x with remaining := x.remaining - 1 }
  | _ => x

/-- The phase timer of a filter state. -/
def tickFilterState : FilterState → FilterState
  | .filtering => .filtering
  | .backwash n => .backwash (n - 1)
  | .settle t => .settle (tickTimer t)
  | .indexing l m n => .indexing l m (n - 1)

/-- The timers of the measurement unit. -/
def tickMeasure (m : Measure) : Measure :=
  { m with
    conversion := { m.conversion with elapsed := min Config.conversionTime (m.conversion.elapsed + 1) }
    shaft := match m.shaft with | .counting c p n => .counting c p (n - 1) | .idle => .idle
    sensor := { m.sensor with confirming := tickTimer m.sensor.confirming }
    monitor := match m.monitor with
      | .dip n => .dip (n - 1)
      | .recovering n => .recovering (n - 1)
      | .good => .good
      | .failed => .failed }

/-- The timers of the drive unit. -/
def tickDrive (d : Drive) : Drive :=
  { d with
    periodLeft := d.periodLeft - 1
    spray := match d.spray with | .on b n => .on b (n - 1) | .off => .off }

/-- One millisecond passes: every running timer runs on. -/
def tick (s : State) : State :=
  { s with
    ports := s.ports.mapKeys (fun _ x => tickPort x)
    watches := s.watches.mapKeys (fun _ w => { w with timer := tickTimer w.timer })
    arbiter := { s.arbiter with requests := s.arbiter.requests.mapKeys (fun _ r => r.map tickRequest) }
    carousel := { s.carousel with
      index := match s.carousel.index with | .indexing k n => .indexing k (n - 1) | i => i }
    crusher := { s.crusher with
      state := tickCrusherState s.crusher.state, slot := s.crusher.slot.map (tickSlot s.crusher.state) }
    filter := { s.filter with
      state := tickFilterState s.filter.state, gap := min Config.gapStop (s.filter.gap + 1) }
    store := { s.store with
      save := match s.store.save with | .saving k c n => .saving k c (n - 1) | .idle => .idle }
    measure := tickMeasure s.measure
    drive := tickDrive s.drive }

/-! ## The choice among commands that are due together -/

/-- What the block does when no command waits. -/
inductive Idle
  | rest
  | wait
  | take (i : Instr) (ties : Nat)
  deriving DecidableEq, Repr

/-- A module without its logic supply rests. Otherwise one of the commands that are due is taken, a free choice where
several are (log entry 3), and where none is, a millisecond passes. -/
def State.idle (s : State) : Idle :=
  if s.powered then
    match s.due with
    | [] => .wait
    | [i] => .take i s.ties
    | i :: j :: rest =>
      .take ((i :: j :: rest).getD (Config.tieChoice s.ties % (rest.length + 2)) i) (s.ties + 1)
  else .rest

end Sys2Proof.Machine
end

