-- ==== Sys2Proof/Machine/Dispatch.lean ====
section
/-! DEFINITION. The effect of every command on everything but the queue: one arm per command, one meaning per arm. -/

namespace Sys2Proof.Machine

/-- The meaning of a command. -/
def exec (i : Instr) (s : State) : Host.Outcome State Fault Refusal :=
  match i with
  | .status p tag payload => Sys2Proof.Machine.execStatus p tag payload s
  | .range p tag payload => Sys2Proof.Machine.execRange p tag payload s
  | .keepA p tag payload => Sys2Proof.Machine.execKeepA p tag payload s
  | .keepB p tag payload => Sys2Proof.Machine.execKeepB p tag payload s
  | .coolantAsk p tag payload => Sys2Proof.Machine.execCoolantAsk p tag payload s
  | .coolantEnd p tag payload => Sys2Proof.Machine.execCoolantEnd p tag payload s
  | .dischargeAsk p tag payload => Sys2Proof.Machine.execDischargeAsk p tag payload s
  | .dischargeGo p tag payload => Sys2Proof.Machine.execDischargeGo p tag payload s
  | .dischargeDone p tag payload => Sys2Proof.Machine.execDischargeDone p tag payload s
  | .dischargeCancel p tag payload => Sys2Proof.Machine.execDischargeCancel p tag payload s
  | .tableRead p tag payload => Sys2Proof.Machine.execTableRead p tag payload s
  | .lotRead p tag payload => Sys2Proof.Machine.execLotRead p tag payload s
  | .profileRead p tag payload => Sys2Proof.Machine.execProfileRead p tag payload s
  | .profileWrite p tag payload => Sys2Proof.Machine.execProfileWrite p tag payload s
  | .profileLoad p tag payload => Sys2Proof.Machine.execProfileLoad p tag payload s
  | .profileSave p tag payload => Sys2Proof.Machine.execProfileSave p tag payload s
  | .backwashNow p tag payload => Sys2Proof.Machine.execBackwashNow p tag payload s
  | .indexNow p tag payload => Sys2Proof.Machine.execIndexNow p tag payload s
  | .fleeceLoaded p tag payload => Sys2Proof.Machine.execFleeceLoaded p tag payload s
  | .hold p tag payload => Sys2Proof.Machine.execHold p tag payload s
  | .release p tag payload => Sys2Proof.Machine.execRelease p tag payload s
  | .resume p tag payload => Sys2Proof.Machine.execResume p tag payload s
  | .ringCleared p tag payload => Sys2Proof.Machine.execRingCleared p tag payload s
  | .ringFlush p tag payload => Sys2Proof.Machine.execRingFlush p tag payload s
  | .setPocketLimit p tag payload => Sys2Proof.Machine.execSetPocketLimit p tag payload s
  | .carouselRetry p tag payload => Sys2Proof.Machine.execCarouselRetry p tag payload s
  | .crusherClear p tag payload => Sys2Proof.Machine.execCrusherClear p tag payload s
  | .binEmptied p tag payload => Sys2Proof.Machine.execBinEmptied p tag payload s
  | .stationWatch p tag payload => Sys2Proof.Machine.execStationWatch p tag payload s
  | .eventLevel p tag payload => Sys2Proof.Machine.execEventLevel p tag payload s
  | .lineStop p tag payload => Sys2Proof.Machine.execLineStop p tag payload s
  | .lineResume p tag payload => Sys2Proof.Machine.execLineResume p tag payload s
  | .lineRestart p tag payload => Sys2Proof.Machine.execLineRestart p tag payload s
  | .frameDiscarded p frame => Sys2Proof.Machine.execFrameDiscarded p frame s
  | .frameGapTimeout p => Sys2Proof.Machine.execFrameGapTimeout p s
  | .owedBusyFrame p tag kind payload => Sys2Proof.Machine.execOwedBusyFrame p tag kind payload s
  | .conversionCompletion raw => Sys2Proof.Machine.execConversionCompletion raw s
  | .arbitration => Sys2Proof.Machine.execArbitration s
  | .offerWindowExpiry => Sys2Proof.Machine.execOfferWindowExpiry s
  | .gateWindowExpiry => Sys2Proof.Machine.execGateWindowExpiry s
  | .dumpTimerExpiry => Sys2Proof.Machine.execDumpTimerExpiry s
  | .indexStart => Sys2Proof.Machine.execIndexStart s
  | .indexSensorMade => Sys2Proof.Machine.execIndexSensorMade s
  | .indexSensorClear => Sys2Proof.Machine.execIndexSensorClear s
  | .indexEdge => Sys2Proof.Machine.execIndexEdge s
  | .stepTimerExpiry => Sys2Proof.Machine.execStepTimerExpiry s
  | .feedEvaluation => Sys2Proof.Machine.execFeedEvaluation s
  | .runUpExpiry => Sys2Proof.Machine.execRunUpExpiry s
  | .purgeExpiry => Sys2Proof.Machine.execPurgeExpiry s
  | .idleExpiry => Sys2Proof.Machine.execIdleExpiry s
  | .runDownExpiry => Sys2Proof.Machine.execRunDownExpiry s
  | .reverseExpiry => Sys2Proof.Machine.execReverseExpiry s
  | .endOfFeed => Sys2Proof.Machine.execEndOfFeed s
  | .endOfTransit => Sys2Proof.Machine.execEndOfTransit s
  | .shaftPulse => Sys2Proof.Machine.execShaftPulse s
  | .shaftWindowEnd => Sys2Proof.Machine.execShaftWindowEnd s
  | .chutePulse => Sys2Proof.Machine.execChutePulse s
  | .fleeceMeterPulse => Sys2Proof.Machine.execFleeceMeterPulse s
  | .fleeceStallExpiry => Sys2Proof.Machine.execFleeceStallExpiry s
  | .backwashTimerExpiry => Sys2Proof.Machine.execBackwashTimerExpiry s
  | .settleTimerExpiry => Sys2Proof.Machine.execSettleTimerExpiry s
  | .gapTimerExpiry => Sys2Proof.Machine.execGapTimerExpiry s
  | .pendingBackwashStart => Sys2Proof.Machine.execPendingBackwashStart s
  | .sprayToggleExpiry => Sys2Proof.Machine.execSprayToggleExpiry s
  | .periodEnd => Sys2Proof.Machine.execPeriodEnd s
  | .saveTimerExpiry => Sys2Proof.Machine.execSaveTimerExpiry s
  | .keepalivePeriodExpiry station => Sys2Proof.Machine.execKeepalivePeriodExpiry station s
  | .fieldSupplyFall deciVolts => Sys2Proof.Machine.execFieldSupplyFall deciVolts s
  | .fieldSupplyReturn deciVolts => Sys2Proof.Machine.execFieldSupplyReturn deciVolts s
  | .dipTimerExpiry => Sys2Proof.Machine.execDipTimerExpiry s
  | .recoveryTimerExpiry => Sys2Proof.Machine.execRecoveryTimerExpiry s
  | .powerOn deciVolts sensorMade => Sys2Proof.Machine.execPowerOn deciVolts sensorMade s
  | .logicSupplyLoss => Sys2Proof.Machine.execLogicSupplyLoss s
  | .receivedByte p byte => Sys2Proof.Machine.execReceivedByte p byte s
  | .absentKindRequest p tag code payload => Sys2Proof.Machine.execAbsentKindRequest p tag code payload s
  | .replyTransmissionEnd p => Sys2Proof.Machine.execReplyTransmissionEnd p s
  | .appliedDutyElapsed channel => Sys2Proof.Machine.execAppliedDutyElapsed channel s

end Sys2Proof.Machine
end

