-- ==== Sys2Proof/Machine/Step.lean ====
section
/-! DEFINITION. One step: the command at the front of the queue is carried out on the machine with the rest of the queue;
with no command waiting the block does what `State.idle` says. -/

namespace Sys2Proof.Machine

/-- The machine with another queue. -/
def State.withQueue (s : State) (q : List Instr) : State := { s with pending := q }

/-- A step on an empty queue (log entry 2). -/
def idleStep (s : State) : Host.Outcome State Fault Refusal :=
  match s.idle with
  | .rest => .next s
  | .wait => .next (tick s)
  | .take i ties => exec i { s with ties := ties }

/-- One step. -/
def step (s : State) : Host.Outcome State Fault Refusal :=
  match s.pending with
  | c :: rest => exec c (s.withQueue rest)
  | [] => idleStep s

/-- The machine with the command that a word spells at the front of its queue; unchanged where the word spells none. -/
def State.withFetchWord (s : State) (nbits w : Nat) : State :=
  match decodeTableWord nbits w with
  | some i => s.withQueue (i :: s.pending)
  | none => s

end Sys2Proof.Machine
end

