-- ==== Sys2Proof/Safety.lean ====
section
/-! DEFINITION. The terms the statements use: when a port takes a request, what its reply leaves behind, what an allotment
pass leaves behind, and the laws of the device as invariants of the state. -/

namespace Sys2Proof.Machine

/-! ## Requests -/

/-- R177, R179: a port takes a request: it holds that request, or it holds none and is not transmitting. -/
def Takes (p : Port) (r : LinkRequest) (s : State) : Prop :=
  s.powered = true ∧
    ((s.ports.get p).held = some r ∨ ((s.ports.get p).held = none ∧ (s.ports.get p).tx = none))

/-- R169, R180: a port takes a request that passes the tests of kind and length and is not answered NOT_LIVE. -/
def Admits (p : Port) (k : Kind) (tag : Byte) (payload : List Byte) (s : State) : Prop :=
  Takes p ⟨tag, kindCode k, payload⟩ s ∧ k.takenOn p = true ∧ payload.length = (kindRow k).length ∧
    notLive p k s = false

/-- R179, R181: from `s`, the reply with a result and a payload leaves the port as `t` stands: no request is held, the owed
BUSY and the discard count are as they were, and so is every other port. A request that arrived whole leaves the receiver
HUNTING (R177), and one that was held leaves it as it was. -/
def RepliedCode (p : Port) (tag code : Byte) (result : Result) (payload : List Byte) (s t : State) : Prop :=
  (t.ports.get p).tx =
      some ⟨makeReply p tag code result payload t, sendTime (makeReply p tag code result payload t)⟩ ∧
    (t.ports.get p).held = none ∧
    (t.ports.get p).rx = (if (s.ports.get p).held = none then .hunting else (s.ports.get p).rx) ∧
    (t.ports.get p).owed = (s.ports.get p).owed ∧ (t.ports.get p).discards = (s.ports.get p).discards ∧
    ∀ q, q ≠ p → t.ports.get q = s.ports.get q

/-- The same for a kind of Table 11-4. -/
def Replied (p : Port) (tag : Byte) (k : Kind) (result : Result) (payload : List Byte) (s t : State) : Prop :=
  RepliedCode p tag (kindCode k) result payload s t

/-- `t` is `u` but for the link ports. -/
def ButPorts (u t : State) : Prop := t = { u with ports := t.ports }

/-- What a request leaves: its reply, and the state `u` but for the link ports. -/
def Answered (p : Port) (tag : Byte) (k : Kind) (result : Result) (payload : List Byte) (s u t : State) : Prop :=
  Replied p tag k result payload s t ∧ ButPorts u t

/-! ## The allotment pass -/

/-- The entry of a slot as it stood before a pass, where the pass admitted it (R16). -/
def admittedEntry (before after : PerSlot (Option Entry)) (sl : Slot) : Option Entry :=
  match before.get sl, after.get sl with
  | some e, some g => if e.state ≠ .suspended ∧ g.admitted = true then some e else none
  | _, _ => none

/-- A sum over the entries that a pass admitted. -/
def admittedSum (before after : PerSlot (Option Entry)) (f : Slot × Entry → Nat) : Nat :=
  (allSlots.map (fun sl =>
    match admittedEntry before after sl with
    | some e => f (sl, e)
    | none => 0)).sum

/-- R16: the needs of the entries admitted before an entry in pass order. -/
def needsBefore (before after : PerSlot (Option Entry)) (x : Slot × Entry) : Nat :=
  admittedSum before after (fun y => if passBefore y x then y.2.need else 0)

/-- R17: the share pool that pass 1 leaves. -/
def sharePool (figure : Nat) (before after : PerSlot (Option Entry)) : Nat :=
  figure - admittedSum before after (fun y => y.2.need)

/-- R17: the sum of the sharers' wants. -/
def wantsOf (before after : PerSlot (Option Entry)) : Nat := admittedSum before after (fun y => y.2.want)

/-- R18: the leftover of a pool that does not meet every want. -/
def leftoverOf (figure : Nat) (before after : PerSlot (Option Entry)) : Nat :=
  let pool := sharePool figure before after
  pool - admittedSum before after (fun y => pool * y.2.want / wantsOf before after)

/-- R18: the sharers before an entry in pass order. -/
def sharersBefore (before after : PerSlot (Option Entry)) (x : Slot × Entry) : Nat :=
  admittedSum before after (fun y => if passBefore y x && decide (0 < y.2.want) then 1 else 0)

/-- R20, R154: what an allotment pass of an event leaves behind, the table before the event and the one the pass made being
given: the table, the comparison of each channel, and GRANT_CHANGED on each station port whose grants differ. -/
def Passed (before table : PerSlot (Option Entry)) (s t : State) : Prop :=
  t.slots = table ∧
    (∀ sl, t.drive.channels.get sl =
      stageChannel (targetDuty (grantOf (table.get sl)) (s.store.working.vmax.get sl)) (s.drive.channels.get sl)) ∧
    t.drive = { s.drive with channels := t.drive.channels } ∧
    (∀ st k, (t.stationSet st).get k =
      ((s.stationSet st).get k || (decide (k = .grantChanged) && grantsDiffer before table st))) ∧
    t.events.hall = s.events.hall

/-- The sum of the granted flows over the 14 slots (R19). -/
def grantedSum (t : PerSlot (Option Entry)) : Nat := (allSlots.map (fun sl => grantOf (t.get sl))).sum

/-- R3: the tie of an entry's granted flow to its state. -/
def Entry.grantFits (e : Entry) : Prop :=
  match e.state with
  | .granted => e.granted = e.asked
  | .trimmed => e.need ≤ e.granted ∧ e.granted < e.asked
  | .waiting => e.granted = 0
  | .suspended => e.granted = 0

/-- Table 01-2: the greatest asked flow of a slot: 60 for SPINDLE, 250 for FLOOD and a wash outlet. -/
def askedMost : Slot → Nat
  | .station _ .spindle => 60
  | .station _ .flood => 250
  | .wash1 => 250
  | .wash2 => 250

/-- R2, Table 01-2: the values of an entry of a slot. -/
def Entry.valuesFit (sl : Slot) (e : Entry) : Prop :=
  e.floor.isSome = hasFloor sl ∧ 1 ≤ e.asked ∧ e.asked ≤ askedMost sl ∧ e.floor.getD 0 ≤ e.asked ∧ 1 ≤ e.urgency ∧
    e.urgency ≤ 7

/-! ## The laws of the device -/

/-- R38: the published figure never exceeds Pmax, and is 0 in CRITICAL, in safe stop, and before a figure can be formed. -/
def SupplyLaw (s : State) : Prop :=
  s.supply.published ≤ s.line.pMax ∧ (s.supply.band = some .critical → s.supply.published = 0) ∧
    (s.inSafeStop = true → s.supply.published = 0) ∧ (figureBand s = none → s.supply.published = 0)

/-- R2, R3, R19: the law of the table, and its first law: the granted flows never exceed the published figure. -/
def TableLaw (s : State) : Prop :=
  (∀ sl e, s.slots.get sl = some e → e.valuesFit sl ∧ e.grantFits) ∧ grantedSum s.slots ≤ s.supply.published

/-- R10, R77: a station whose watch state is LAPSED or LOST has no entry but SUSPENDED ones, and no discharge request. -/
def UnliveLaw (s : State) : Prop :=
  ∀ st, (s.watches.get st).state ≠ .live →
    (∀ c e, s.slots.get (.station st c) = some e → e.state = .suspended ∧ e.granted = 0) ∧
      s.request (.station st) = none

/-- Whether a source's request is OFFERED or OPEN. -/
def State.isCurrent (s : State) (src : Source) : Prop := s.isCurrentSource src = true

/-- Whether a source's request is OPEN. -/
def State.isOpen (s : State) (src : Source) : Bool :=
  match (s.request src).map DischargeRequest.state with
  | some (.opened _ _ _) => true
  | _ => false

/-- Whether the gate of a source stands OPEN (R162). -/
def State.gateOpen (s : State) : Source → Bool
  | .station st => s.drive.gates.get st
  | .sludge => s.drive.dumpValve

/-- R66, R88, R162: at most one offer or open gate; while one exists no index is in progress, the ring is surveyed and the
line is not in safe stop; a gate stands open, and the chute counts, exactly while its request is OPEN. -/
def DischargeLaw (s : State) : Prop :=
  (∀ a b, s.isCurrent a → s.isCurrent b → a = b) ∧
    (∀ a, s.isCurrent a → s.carousel.index = .idle ∧ s.carousel.survey = .surveyed ∧ s.inSafeStop = false) ∧
    (∀ a, s.gateOpen a = s.isOpen a) ∧
    (s.measure.chute.enabled = true ↔ ∃ a, s.isOpen a = true)

/-- R125: every item of a profile lies in its range, and the two orders of R129 hold. -/
def Profile.fits (p : Profile) : Prop :=
  (∀ i, (itemRange i).least ≤ p.get i ∧ p.get i ≤ (itemRange i).greatest) ∧
    p.line.dpOrdered = true ∧ p.line.levelOrdered = true

/-- R125, R134, R135: the working copy, sets 1 and 2, and the content of a save in progress fit. -/
def StoreLaw (s : State) : Prop :=
  s.store.working.fits ∧ s.store.nonVolatile.set1.fits ∧ s.store.nonVolatile.set2.fits ∧
    ∀ n p left, s.store.save = .saving n p left → p.fits

/-- R84, R61: every lot spans 1 to 4 pockets, every request has an estimate, a reservation spans 1 to 4 pockets, and lots
and reservation together never exceed N. -/
def PocketLaw (s : State) : Prop :=
  (∀ l ∈ s.carousel.queue, 1 ≤ l.span ∧ l.span ≤ 4) ∧
    (∀ src r, s.request src = some r →
      1 ≤ r.estimate ∧ (r.isCurrent = true → 1 ≤ r.state.span ∧ r.state.span ≤ 4)) ∧
    s.occupied ≤ s.line.inService

/-- R43, R49, R53, R57, R159, R160: a fleece index never runs on a fleece used up, and runs exactly with its motor; a
backwash runs exactly with the spray, with no pending flag and the trough EMPTY; neither runs in safe stop; and the trough
is FULL exactly while the arbiter holds a source-7 request. -/
def FilterLaw (s : State) : Prop :=
  (∀ l m n, s.filter.state = .indexing l m n → s.filter.fleece ≠ some 0 ∧ s.inSafeStop = false) ∧
    (s.drive.fleeceMotor = true ↔ ∃ l m n, s.filter.state = .indexing l m n) ∧
    (∀ n, s.filter.state = .backwash n →
      s.filter.pending = false ∧ s.filter.troughFull = false ∧ s.inSafeStop = false) ∧
    (s.drive.spray ≠ .off ↔ ∃ n, s.filter.state = .backwash n) ∧
    (s.filter.troughFull = true ↔ s.request .sludge ≠ none)

/-- R81 to R83, R87, R89, R90, R97, R99: lot numbers are distinct among the live lots and never 0; only the head lot is ever
TIPPING, exactly while an index of a surveyed ring is not IDLE, and the slot lot is IN_CRUSHER; a ring that is not surveyed has
no lot and no request, and steps only in a flush; an index request stands exactly while the head lot is awaited. -/
def RingLaw (s : State) : Prop :=
  s.liveNumbers.Nodup ∧ (∀ n ∈ s.liveNumbers, 1 ≤ n ∧ n ≤ 65535) ∧
    1 ≤ s.carousel.counter ∧ s.carousel.counter ≤ 65535 ∧
    (∀ l rest, s.carousel.queue = l :: rest → (∀ x ∈ rest, x.stage = .queued) ∧
      l.stage = (if s.carousel.index = .idle then .queued else .tipping)) ∧
    (∀ x, s.crusher.slot = some x → x.lot.stage = .inCrusher) ∧
    (s.carousel.survey ≠ .surveyed → s.carousel.queue = [] ∧ s.carousel.requested = false ∧
      (s.carousel.index = .idle ↔ s.carousel.survey = .unsurveyed)) ∧
    (s.carousel.survey = .surveyed → s.carousel.index ≠ .idle → s.carousel.requested = true) ∧
    (s.carousel.requested = true → ∃ l, s.headLot = some l ∧ s.crusher.awaited = some l.number) ∧
    (s.carousel.requested = false → s.crusher.awaited = none)

/-- Table 06-2, R106, R111, R113, R116: what the crusher slot holds in each state, and that nothing is awaited with a lot in the
slot or in PURGE; sludge is awaited only in STOPPED; the bin gate stands at the current family, which is that of a crushable lot
in the slot or awaited; a jam count never exceeds the retry limit plus one, and equals it only in BLOCKED. -/
def CrusherLaw (s : State) : Prop :=
  (match s.crusher.state with
    | .crushing => ∃ x, s.crusher.slot = some x ∧ x.lot.isSludge = false
    | .reversing _ => ∃ x, s.crusher.slot = some x ∧ x.lot.isSludge = false
    | .blocked => ∃ x, s.crusher.slot = some x ∧ x.lot.isSludge = false
    | .passThrough => ∃ x, s.crusher.slot = some x ∧ x.lot.isSludge = true
    | .idleRun _ => s.crusher.slot = none
    | .purge _ _ => s.crusher.slot = none ∧ s.crusher.awaited = none
    | .stopped => True
    | .runUp _ => True
    | .runDown _ => True) ∧
    (s.crusher.slot ≠ none → s.crusher.awaited = none) ∧
    (∀ l, s.crusher.awaited.bind s.queuedLot = some l → l.isSludge = true → s.crusher.state = .stopped) ∧
    (∀ f, s.crusher.family = some f → s.drive.binGate = .bin f) ∧
    (∀ x f, s.crusher.slot = some x → x.lot.family = .chip f → s.crusher.family = some f) ∧
    (∀ l f, s.crusher.awaited.bind s.queuedLot = some l → l.family = .chip f → s.crusher.family = some f) ∧
    ∀ x, s.crusher.slot = some x → (x.lot.isSludge = true → x.jams = 0) ∧ x.jams ≤ s.line.nRetry + 1 ∧
      (x.jams = s.line.nRetry + 1 → s.crusher.state = .blocked)

/-- R152, R154: a channel whose pending change stands on its own side of the applied duty, both at most 1000. -/
def ChannelFits (c : Channel) : Prop :=
  c.applied ≤ 1000 ∧
    match c.pending with
    | none => True
    | some (.reduction d) => d < c.applied
    | some (.increase d) => c.applied < d ∧ d ≤ 1000

/-- The direction that a crusher state commands (R104). -/
def CrusherState.direction : CrusherState → Direction
  | .stopped => .stopped
  | .runUp _ => .forward
  | .idleRun _ => .forward
  | .purge _ _ => .forward
  | .crushing => .forward
  | .reversing _ => .reverse
  | .blocked => .stopped
  | .passThrough => .stopped
  | .runDown _ => .stopped

/-- R104, R142, R152, R154, R159: the crusher drive runs as the crusher's state says, shaft windows are counted exactly while
it runs forward, the step output runs exactly while a step is in motion, and every pending change fits its channel. -/
def DriveLaw (s : State) : Prop :=
  s.drive.direction = s.crusher.state.direction ∧
    (s.measure.shaft ≠ .idle ↔ s.drive.direction = .forward) ∧
    (s.drive.step = true ↔ ∃ n t, s.carousel.index = .indexing n t) ∧
    ∀ sl, ChannelFits (s.drive.channels.get sl)

end Sys2Proof.Machine
end

