-- ==== Sys2Proof/Certificates/Slice0/Obligations.lean ====
section
/-! DEFINITION. The statements about the CF-640, one definition each. -/

open Sys2Proof Sys2Proof.Machine

/-! ## The queue, the idle block, reset and power -/

/-- The model's queue (notes/assumptions/17.md): the front command is carried out on the machine with the queue's rest. The
spec names no queue. -/
def Obligations.StepTakesFront : Prop :=
  ∀ (c : Instr) (rest : List Instr) (s : State),
    s.pending = c :: rest → step s = exec c { s with pending := rest }

/-- The model's own idle step (notes/assumptions/2.md and 3.md): without power nothing happens; with power one command that is due is
carried out, any one of them where several are, and where none is due one millisecond passes. -/
def Obligations.IdleStep : Prop :=
  ∀ s : State, s.pending = [] →
    (s.powered = false → step s = .next s) ∧
      (s.powered = true → s.due = [] → step s = .next (tick s)) ∧
      (s.powered = true → ∀ c, s.due = [c] → step s = exec c s) ∧
      (s.powered = true → 2 ≤ s.due.length → ∃ c ∈ s.due, step s = exec c { s with ties := s.ties + 1 })

/-- The model's own running of time (notes/assumptions/2.md). A tick lowers every running timer by 1 ms, counts the gap timer
up to 3600 s and the elapsed time of a conversion up to 100 ms, and changes nothing else; the remaining of the slot lot runs in
CRUSHING and PASS_THROUGH alone. What is due is exactly: a held request, as the command of its kind; each timer that has run out;
a pending backwash that may start; an output whose applied duty has elapsed. A conversion is never due, since its raw code
comes from outside (notes/assumptions/5.md). -/
def Obligations.RunningOfTime : Prop :=
  (∀ s : State,
    let less : Option Nat → Option Nat := fun n => n.map (fun k => k - 1)
    let t := tick s
    (∀ p, t.ports.get p = { s.ports.get p with
      rx := match (s.ports.get p).rx with | .hunting => .hunting | .assembling b n => .assembling b (n - 1)
      tx := (s.ports.get p).tx.map (fun x => { x with left := x.left - 1 }) }) ∧
    (∀ st, t.watches.get st = { s.watches.get st with timer := less (s.watches.get st).timer }) ∧
    (∀ src, t.request src = (s.request src).map (fun r => { r with
      state := match r.state with
        | .pending => .pending
        | .offered k w => .offered k (w - 1)
        | .opened k g d => .opened k (g - 1) (less d) })) ∧
    t = { s with
      ports := t.ports
      watches := t.watches
      arbiter := { s.arbiter with requests := t.arbiter.requests }
      carousel := { s.carousel with
        index := match s.carousel.index with
          | .idle => .idle
          | .indexing k n => .indexing k (n - 1)
          | .suspended k b => .suspended k b
          | .faulted k => .faulted k }
      crusher := { s.crusher with
        state := match s.crusher.state with
          | .stopped => .stopped
          | .runUp n => .runUp (n - 1)
          | .idleRun n => .idleRun (n - 1)
          | .purge n f => .purge (n - 1) f
          | .crushing => .crushing
          | .reversing n => .reversing (n - 1)
          | .blocked => .blocked
          | .passThrough => .passThrough
          | .runDown n => .runDown (n - 1)
        slot := if s.crusher.state = .crushing ∨ s.crusher.state = .passThrough then
            s.crusher.slot.map (fun x => { x with remaining := x.remaining - 1 })
          else s.crusher.slot }
      filter := { s.filter with
        gap := min 3600000 (s.filter.gap + 1)
        state := match s.filter.state with
          | .filtering => .filtering
          | .backwash n => .backwash (n - 1)
          | .settle n => .settle (less n)
          | .indexing l m n => .indexing l m (n - 1) }
      store := { s.store with
        save := match s.store.save with | .idle => .idle | .saving k c n => .saving k c (n - 1) }
      measure := { s.measure with
        conversion := { s.measure.conversion with elapsed := min 100 (s.measure.conversion.elapsed + 1) }
        shaft := match s.measure.shaft with | .idle => .idle | .counting c k n => .counting c k (n - 1)
        sensor := { s.measure.sensor with confirming := less s.measure.sensor.confirming }
        monitor := match s.measure.monitor with
          | .good => .good
          | .dip n => .dip (n - 1)
          | .failed => .failed
          | .recovering n => .recovering (n - 1) }
      drive := { s.drive with
        periodLeft := s.drive.periodLeft - 1
        spray := match s.drive.spray with | .off => .off | .on b n => .on b (n - 1) } }) ∧
  (∀ (s : State) (c : Instr), c ∈ s.due ↔
    (∃ p r, (s.ports.get p).held = some r ∧ c = heldCommand p r) ∨
    (∃ p b, (s.ports.get p).rx = .assembling b 0 ∧ c = .frameGapTimeout p) ∨
    (∃ p x, (s.ports.get p).tx = some x ∧ x.left = 0 ∧ c = .replyTransmissionEnd p) ∨
    (∃ st, (s.watches.get st).timer = some 0 ∧ c = .keepalivePeriodExpiry st) ∨
    (∃ src r k, s.request src = some r ∧ r.state = .offered k 0 ∧ c = .offerWindowExpiry) ∨
    (∃ src r k d, s.request src = some r ∧ r.state = .opened k 0 d ∧ c = .gateWindowExpiry) ∨
    (∃ src r k g, s.request src = some r ∧ r.state = .opened k g (some 0) ∧ c = .dumpTimerExpiry) ∨
    (∃ k, s.carousel.index = .indexing k 0 ∧ c = .stepTimerExpiry) ∨
    (s.measure.sensor.confirming = some 0 ∧ c = .indexEdge) ∨
    (s.crusher.state = .runUp 0 ∧ c = .runUpExpiry) ∨ (s.crusher.state = .idleRun 0 ∧ c = .idleExpiry) ∨
    (∃ f, s.crusher.state = .purge 0 f ∧ c = .purgeExpiry) ∨
    (s.crusher.state = .reversing 0 ∧ c = .reverseExpiry) ∨ (s.crusher.state = .runDown 0 ∧ c = .runDownExpiry) ∨
    (∃ x, s.crusher.state = .crushing ∧ s.crusher.slot = some x ∧ x.remaining = 0 ∧ c = .endOfFeed) ∨
    (∃ x, s.crusher.state = .passThrough ∧ s.crusher.slot = some x ∧ x.remaining = 0 ∧ c = .endOfTransit) ∨
    (∃ n k, s.measure.shaft = .counting n k 0 ∧ c = .shaftWindowEnd) ∨
    (s.filter.state = .filtering ∧ s.filter.pending = true ∧ 1000 * s.line.bwGap ≤ s.filter.gap ∧
      s.filter.troughFull = false ∧ s.inSafeStop = false ∧ c = .gapTimerExpiry) ∨
    (s.filter.state = .backwash 0 ∧ c = .backwashTimerExpiry) ∨
    (s.filter.state = .settle (some 0) ∧ c = .settleTimerExpiry) ∨
    (∃ l m, s.filter.state = .indexing l m 0 ∧ c = .fleeceStallExpiry) ∨
    (∃ b, s.drive.spray = .on b 0 ∧ c = .sprayToggleExpiry) ∨
    (∃ k p, s.store.save = .saving k p 0 ∧ c = .saveTimerExpiry) ∨
    (s.measure.monitor = .dip 0 ∧ c = .dipTimerExpiry) ∨
    (s.measure.monitor = .recovering 0 ∧ c = .recoveryTimerExpiry) ∨
    (∃ sl, (s.drive.channels.get sl).output = true ∧ (s.drive.channels.get sl).applied < 1000 ∧
      s.drive.periodLeft + (s.drive.channels.get sl).applied ≤ 1000 ∧ c = .appliedDutyElapsed sl) ∨
    (s.drive.periodLeft = 0 ∧ c = .periodEnd)) ∧
  (∀ (p : Port) (tag : Byte) (payload : List Byte),
    let held : Byte → Instr := fun code => heldCommand p ⟨tag, code, payload⟩
    (∀ code, kindOfCode code = none → held code = .absentKindRequest p tag code payload) ∧
    held 0x01#8 = .status p tag payload ∧ held 0x02#8 = .range p tag payload ∧
    held 0x03#8 = .keepA p tag payload ∧ held 0x04#8 = .keepB p tag payload ∧
    held 0x10#8 = .coolantAsk p tag payload ∧ held 0x11#8 = .coolantEnd p tag payload ∧
    held 0x20#8 = .dischargeAsk p tag payload ∧ held 0x21#8 = .dischargeGo p tag payload ∧
    held 0x22#8 = .dischargeDone p tag payload ∧ held 0x23#8 = .dischargeCancel p tag payload ∧
    held 0x30#8 = .tableRead p tag payload ∧ held 0x31#8 = .lotRead p tag payload ∧
    held 0x40#8 = .profileRead p tag payload ∧ held 0x41#8 = .profileWrite p tag payload ∧
    held 0x42#8 = .profileLoad p tag payload ∧ held 0x43#8 = .profileSave p tag payload ∧
    held 0x50#8 = .backwashNow p tag payload ∧ held 0x51#8 = .indexNow p tag payload ∧
    held 0x52#8 = .fleeceLoaded p tag payload ∧ held 0x60#8 = .hold p tag payload ∧
    held 0x61#8 = .release p tag payload ∧ held 0x62#8 = .resume p tag payload ∧
    held 0x63#8 = .ringCleared p tag payload ∧ held 0x64#8 = .ringFlush p tag payload ∧
    held 0x65#8 = .setPocketLimit p tag payload ∧ held 0x66#8 = .carouselRetry p tag payload ∧
    held 0x70#8 = .crusherClear p tag payload ∧ held 0x71#8 = .binEmptied p tag payload ∧
    held 0x80#8 = .stationWatch p tag payload ∧ held 0x81#8 = .eventLevel p tag payload ∧
    held 0x90#8 = .lineStop p tag payload ∧ held 0x91#8 = .lineResume p tag payload ∧
    held 0x92#8 = .lineRestart p tag payload)

/-- What reset leaves (R1, R25, R43, R60, R81, R103, R125, R152, R164, R170, R173, R177). The field supply found GOOD and the
INDEX sensor found CLEAR are the model's choice (notes/assumptions/1.md). -/
def Obligations.ResetState : Prop :=
  State.reset.powered = true ∧ State.reset.pending = [] ∧
    (∀ p, State.reset.ports.get p = ⟨.hunting, none, none, 0, none⟩) ∧
    (∀ st, State.reset.watches.get st = ⟨.lost, none, none⟩) ∧
    (∀ sl, State.reset.slots.get sl = none) ∧
    State.reset.supply = ⟨0, 0, false, 0, 0, false, none, 0, 0⟩ ∧
    State.reset.filter = ⟨.filtering, false, 3600000, false, none⟩ ∧
    (∀ src, State.reset.request src = none) ∧ (∀ st, State.reset.arbiter.late.get st = none) ∧
    State.reset.carousel = ⟨[], .unsurveyed, .run, .idle, false, 1⟩ ∧
    State.reset.crusher = ⟨.stopped, none, none, none, 0, 0, none, ⟨0, 0, 0, 0⟩, 0, .same none⟩ ∧
    State.reset.store = ⟨factoryProfile, ⟨factoryProfile, factoryProfile, .set0⟩, .idle⟩ ∧
    State.reset.measure = ⟨⟨.dp, 0, 0⟩, .idle, ⟨0, false⟩, ⟨false, none⟩, true, .good⟩ ∧
    (∀ sl, State.reset.drive.channels.get sl = ⟨0, none, false⟩) ∧ State.reset.drive.periodLeft = 1000 ∧
    State.reset.drive.direction = .stopped ∧ State.reset.drive.speed = none ∧ State.reset.drive.step = false ∧
    State.reset.drive.fleeceMotor = false ∧ State.reset.drive.spray = .off ∧ State.reset.drive.binGate = .reject ∧
    State.reset.drive.flap = .crusher ∧ (∀ src, State.reset.gateOpen src = false) ∧
    (∀ st k, (State.reset.stationSet st).get k = false) ∧ (∀ k, State.reset.events.hall.get k = false) ∧
    State.reset.stop = ⟨false, false, none⟩

/-- R175, R137, R147: the logic supply. Power-on takes every block to its power-on state, with the working copy loaded from the
start set; a field supply found LOW enters FIELD_SUPPLY within it, and that entry alone posts an event. A loss of the logic
supply keeps the sets and the selector and ends a save unmade. That from then on no command but POWER_ON changes anything is
the model's choice (notes/assumptions/14.md). -/
def Obligations.LogicSupply : Prop :=
  (∀ (v : Nat) (made : Bool) (s : State), ∃ t, exec (.powerOn v made) s = .next t ∧
    t.powered = true ∧ t.pending = s.pending ∧
    t.store = ⟨s.store.nonVolatile.profile s.store.nonVolatile.selector, s.store.nonVolatile, .idle⟩ ∧
    (∀ p, t.ports.get p = ⟨.hunting, none, none, 0, none⟩) ∧ (∀ st, t.watches.get st = ⟨.lost, none, none⟩) ∧
    (∀ sl, t.slots.get sl = none) ∧ t.supply = ⟨0, 0, false, 0, 0, false, none, 0, 0⟩ ∧
    t.filter = ⟨.filtering, false, 3600000, false, none⟩ ∧
    (∀ src, t.request src = none) ∧ (∀ st, t.arbiter.late.get st = none) ∧
    t.carousel = ⟨[], .unsurveyed, .run, .idle, false, 1⟩ ∧
    t.crusher = ⟨.stopped, none, none, none, 0, 0, none, ⟨0, 0, 0, 0⟩, 0, .same none⟩ ∧
    t.measure.conversion = ⟨.dp, t.store.working.line.dpCal, 0⟩ ∧ t.measure.shaft = .idle ∧
    t.measure.chute = ⟨0, false⟩ ∧ t.measure.sensor = ⟨made, none⟩ ∧
    (∀ sl, t.drive.channels.get sl = ⟨0, none, false⟩) ∧ t.drive.periodLeft = 1000 ∧ t.drive.direction = .stopped ∧
    t.drive.speed = none ∧ t.drive.step = false ∧ t.drive.fleeceMotor = false ∧ t.drive.spray = .off ∧
    t.drive.binGate = .reject ∧ t.drive.flap = .crusher ∧ (∀ src, t.gateOpen src = false) ∧
    (∀ st k, (t.stationSet st).get k = false) ∧
    (if 200 ≤ v then
      t.measure.monitor = .good ∧ t.stop = ⟨false, false, none⟩ ∧ ∀ k, t.events.hall.get k = false
    else
      t.measure.monitor = .failed ∧ t.stop = ⟨true, false, some .fieldSupply⟩ ∧
        ∀ k, t.events.hall.get k = (decide (k = .safeStop) && decide (t.store.working.levels.get .safeStop ≠ 0)))) ∧
  ((∀ s : State, s.powered = true → ∃ t, exec .logicSupplyLoss s = .next t ∧ t.powered = false ∧
    t.store = { s.store with save := .idle }) ∧
  ∀ (c : Instr) (s : State), s.powered = false → (∀ v m, c ≠ .powerOn v m) → exec c s = .next s)

/-! ## Links (R177 to R181) -/

/-- R180, R169: of every kind of Table 11-4 on every port that takes it up: a kind not for the port is answered
REFUSED_KIND, then a wrong length REFUSED_RANGE, then a station not LIVE NOT_LIVE; a code absent from the table is answered
REFUSED_KIND. Such a request changes nothing but its port. -/
def Obligations.RequestRefusals : Prop :=
  (∀ (p : Port) (k : Kind) (tag : Byte) (payload : List Byte) (s : State),
    Takes p ⟨tag, kindCode k, payload⟩ s →
      ∀ result : Result,
        ((k.takenOn p = false ∧ result = .refusedKind) ∨
          (k.takenOn p = true ∧ payload.length ≠ (kindRow k).length ∧ result = .refusedRange) ∨
          (k.takenOn p = true ∧ payload.length = (kindRow k).length ∧ notLive p k s = true ∧ result = .notLive)) →
        ∃ t, exec (heldCommand p ⟨tag, kindCode k, payload⟩) s = .next t ∧ Replied p tag k result [] s t ∧
          ButPorts s t) ∧
  ∀ (p : Port) (tag code : Byte) (payload : List Byte) (s : State),
    Takes p ⟨tag, code, payload⟩ s → kindOfCode code = none →
      ∃ t, exec (.absentKindRequest p tag code payload) s = .next t ∧
        RepliedCode p tag code .refusedKind [] s t ∧ ButPorts s t

/-- R177, R179: a request of any kind at a port that cannot take it up. While the port transmits, nothing is received; with
another request held the frame is owed a BUSY, and with one owed already it is discarded and counted. -/
def Obligations.RequestAtBusyPort : Prop :=
  ∀ (p : Port) (r : LinkRequest) (s : State), s.powered = true → (s.ports.get p).held ≠ some r →
    ((s.ports.get p).tx ≠ none → exec (heldCommand p r) s = .next s) ∧
      ((s.ports.get p).tx = none → ∀ h, (s.ports.get p).held = some h →
        ∃ t, exec (heldCommand p r) s = .next t ∧ ButPorts s t ∧ (∀ q, q ≠ p → t.ports.get q = s.ports.get q) ∧
          t.ports.get p =
            match (s.ports.get p).owed with
            | none => { s.ports.get p with rx := .hunting, owed := some ⟨r.tag, r.kind⟩ }
            | some _ =>
              { s.ports.get p with rx := .hunting, discards := min 255 ((s.ports.get p).discards + 1) })

/-- R177, R179: complete frames and the end of a reply. A frame that fails its tests is discarded and counted; one that passes
becomes the held request, or the owed BUSY, or is discarded with both taken; and so does the frame of OWED_BUSY_FRAME. A gap
discards what is being assembled. While the port transmits no frame is received. When a reply ends with a BUSY owed, its reply
follows, with its tag and kind, no payload and the summary of that moment; otherwise the port transmits no longer. That the BUSY
reply starts in the same step, with a wire time of 2 ms, is the model's (notes/assumptions/11.md). -/
def Obligations.FramesAndReplies : Prop :=
  (∀ (p : Port) (s : State), s.powered = true →
    ((s.ports.get p).tx ≠ none → (∀ frame, exec (.frameDiscarded p frame) s = .next s) ∧
      ∀ tag kind payload, exec (.owedBusyFrame p tag kind payload) s = .next s) ∧
    ((s.ports.get p).tx = none → ∀ frame, frameRequest p frame = none →
      exec (.frameDiscarded p frame) s = .next { s with
        ports := s.ports.set p
          { s.ports.get p with rx := .hunting, discards := min 255 ((s.ports.get p).discards + 1) } }) ∧
    ((s.ports.get p).tx = none → ∀ (tag kind : Byte) (payload : List Byte) (c : Instr),
      (c = .owedBusyFrame p tag kind payload ∨
        ∃ frame, c = .frameDiscarded p frame ∧ frameRequest p frame = some ⟨tag, kind, payload⟩) →
      exec c s = .next { s with
        ports := s.ports.set p
          (match (s.ports.get p).held, (s.ports.get p).owed with
           | none, _ => { s.ports.get p with rx := .hunting, held := some ⟨tag, kind, payload⟩ }
           | some _, none => { s.ports.get p with rx := .hunting, owed := some ⟨tag, kind⟩ }
           | some _, some _ =>
             { s.ports.get p with rx := .hunting, discards := min 255 ((s.ports.get p).discards + 1) }) }) ∧
    ((s.ports.get p).rx = .hunting → exec (.frameGapTimeout p) s = .next s) ∧
    (∀ bytes left, (s.ports.get p).rx = .assembling bytes left →
      exec (.frameGapTimeout p) s = .next { s with
        ports := s.ports.set p
          { s.ports.get p with rx := .hunting, discards := min 255 ((s.ports.get p).discards + 1) } })) ∧
  (∀ (p : Port) (s : State), s.powered = true →
    ((s.ports.get p).tx = none → exec (.replyTransmissionEnd p) s = .next s) ∧
    ∀ x, (s.ports.get p).tx = some x →
      exec (.replyTransmissionEnd p) s = .next { s with
        ports := s.ports.set p
          (match (s.ports.get p).owed with
           | none => { s.ports.get p with tx := none }
           | some o =>
             { s.ports.get p with
               owed := none
               tx := some ⟨⟨portAddress p, o.tag, o.kind, .busy, attention p s, liveIndication p s, s.inSafeStop, []⟩,
                 2⟩ }) })

/-- R177: a received byte. In HUNTING only the start byte counts. In ASSEMBLING a byte is appended and the gap starts again;
a length byte above 32 discards the frame at once, and the
last check byte brings the tests of a complete frame. While the port transmits its receiver takes nothing. -/
def Obligations.ReceivedByte : Prop :=
  ∀ (p : Port) (b : Byte) (s : State), s.powered = true →
    ((s.ports.get p).tx ≠ none → exec (.receivedByte p b) s = .next s) ∧
    ((s.ports.get p).tx = none →
      ((s.ports.get p).rx = .hunting → b ≠ 0xC5#8 → exec (.receivedByte p b) s = .next s) ∧
      ((s.ports.get p).rx = .hunting → b = 0xC5#8 →
        exec (.receivedByte p b) s = .next { s with
          ports := s.ports.set p { s.ports.get p with rx := .assembling [0xC5#8] 5 } }) ∧
      (∀ bytes left, (s.ports.get p).rx = .assembling bytes left →
        (bytes.length < 4 →
          exec (.receivedByte p b) s = .next { s with
            ports := s.ports.set p { s.ports.get p with rx := .assembling (bytes ++ [b]) 5 } }) ∧
        (bytes.length = 4 → 32 < b.toNat →
          exec (.receivedByte p b) s = .next { s with
            ports := s.ports.set p
              { s.ports.get p with rx := .hunting, discards := min 255 ((s.ports.get p).discards + 1) } }) ∧
        (bytes.length = 4 → b.toNat ≤ 32 →
          exec (.receivedByte p b) s = .next { s with
            ports := s.ports.set p { s.ports.get p with rx := .assembling (bytes ++ [b]) 5 } }) ∧
        (5 ≤ bytes.length → byteAt bytes 4 ≤ 32 → bytes.length + 1 < byteAt bytes 4 + 7 →
          exec (.receivedByte p b) s = .next { s with
            ports := s.ports.set p { s.ports.get p with rx := .assembling (bytes ++ [b]) 5 } }) ∧
        (5 ≤ bytes.length → byteAt bytes 4 ≤ 32 → bytes.length + 1 = byteAt bytes 4 + 7 →
          exec (.receivedByte p b) s = exec (.frameDiscarded p (bytes ++ [b])) s)))

/-- R177 to R179, Table 11-1: the bytes of a request frame, sent one after the other to a port that hunts and does not
transmit, are assembled, pass the three tests, and leave exactly that request: held where the port held none. -/
def Obligations.ReceiverAssembles : Prop :=
  ∀ (p : Port) (r : LinkRequest) (s : State), r.payload.length ≤ 32 →
    (s.ports.get p).rx = .hunting → (s.ports.get p).tx = none → (s.ports.get p).held = none →
      frameRequest p (requestFrame p r) = some r ∧
        (requestFrame p r).foldl (fun s b => byteArrives p b s) s =
          { s with ports := s.ports.set p { s.ports.get p with held := some r } }

/-- R178: the check word makes the register 0 when it is taken in after the bytes it covers, high byte first, and any one
byte changed at one place gives another check word. -/
def Obligations.CheckWord : Prop :=
  (∀ bytes : List Byte, checkWord (bytes ++ checkBytes bytes) = 0) ∧
    (∀ (before after : List Byte) (a b : Byte), a ≠ b →
      checkWord (before ++ a :: after) ≠ checkWord (before ++ b :: after))

/-! ## Coolant (R1 to R24) -/

/-- R4 to R8, R13: an accepted COOLANT_ASK clamps its values, writes them into the slot (a new entry WAITING with granted flow
0, an old one with the state and granted flow it had), runs the pass, and answers with the entry as the pass left it. -/
def Obligations.CoolantAsk : Prop :=
  ∀ (p : Port) (tag : Byte) (payload : List Byte) (s : State) (sl : Slot),
    Admits p .coolantAsk tag payload s → circuitOperand p (byteAt payload 0) = .slot sl →
    s.ceiling sl ≠ 0 → byteAt payload 1 ≠ 0 →
    ∃ t e g, exec (.coolantAsk p tag payload) s = .next t ∧
      e.asked = min (s.ceiling sl) (byteAt payload 1) ∧
      e.floor = (if hasFloor sl then some (min e.asked (byteAt payload 2)) else none) ∧
      e.urgency = max 1 (min 7 (byteAt payload 3)) ∧
      (s.slots.get sl = none → e.state = .waiting ∧ e.granted = 0) ∧
      (∀ old, s.slots.get sl = some old → e.state = old.state ∧ e.granted = old.granted) ∧
      Passed s.slots (passTable s.supply.published (s.slots.set sl (some e))) s t ∧
      t.slots.get sl = some g ∧ g.asked = e.asked ∧ g.floor = e.floor ∧ g.urgency = e.urgency ∧
      Replied p tag .coolantAsk
        (if e.asked = byteAt payload 1 ∧ (hasFloor sl = true → e.floor = some (byteAt payload 2)) ∧
            e.urgency = byteAt payload 3 then .done else .clamped)
        [byteOf (slotNumber sl), byteOf (entryStateCode g.state), byteOf g.asked, byteOf (g.floor.getD 0),
          byteOf g.urgency, byteOf g.granted] s t ∧
      t = { s with ports := t.ports, slots := t.slots, drive := t.drive, events := t.events }

/-- R9, R4, R13: COOLANT_END empties the slot that circuit and port select and runs the pass; of an empty slot it is answered DONE
with no pass. The refusals of COOLANT_ASK and COOLANT_END in their order: an unknown circuit, a circuit of the other kind of
port, and for an ask a limit of 0 and a demand of 0. A refused request changes nothing but its port. -/
def Obligations.CoolantEnd : Prop :=
  (∀ (p : Port) (tag : Byte) (payload : List Byte) (s : State) (sl : Slot),
    Admits p .coolantEnd tag payload s → circuitOperand p (byteAt payload 0) = .slot sl →
    ∃ t, exec (.coolantEnd p tag payload) s = .next t ∧ Replied p tag .coolantEnd .done [] s t ∧
      (s.slots.get sl = none → ButPorts s t) ∧
      (s.slots.get sl ≠ none →
        Passed s.slots (passTable s.supply.published (s.slots.set sl none)) s t ∧
          t = { s with ports := t.ports, slots := t.slots, drive := t.drive, events := t.events })) ∧
  (∀ (p : Port) (tag : Byte) (payload : List Byte) (s : State) (k : Kind) (c : Instr) (result : Result),
    ((k = .coolantAsk ∧ c = .coolantAsk p tag payload) ∨ (k = .coolantEnd ∧ c = .coolantEnd p tag payload)) →
    Admits p k tag payload s →
    ((3 < byteAt payload 0 ∧ result = .refusedRange) ∨
      (byteAt payload 0 ≤ 3 ∧ (byteAt payload 0 ≤ 1 ↔ p = .hall) ∧ result = .refusedKind) ∨
      (k = .coolantAsk ∧ result = .refusedRange ∧
        ∃ sl, circuitOperand p (byteAt payload 0) = .slot sl ∧ (s.ceiling sl = 0 ∨ byteAt payload 1 = 0))) →
    ∃ t, exec c s = .next t ∧ Answered p tag k result [] s s t)

/-- R2, R3, R14, R19: a pass sets SUSPENDED entries aside, keeps every asked flow, floor and urgency, ties each granted flow
to its state, and never grants more than the figure. -/
def Obligations.PassKeepsTableLaw : Prop :=
  ∀ (figure : Nat) (t : PerSlot (Option Entry)),
    (∀ sl e, t.get sl = some e → e.valuesFit sl ∧ (e.state = .suspended → e.granted = 0)) →
    grantedSum (passTable figure t) ≤ figure ∧
      ∀ sl, (t.get sl = none → (passTable figure t).get sl = none) ∧
        ∀ e, t.get sl = some e →
          (e.state = .suspended → (passTable figure t).get sl = some e) ∧
          (e.state ≠ .suspended → ∃ g, (passTable figure t).get sl = some g ∧ g.asked = e.asked ∧ g.floor = e.floor ∧
            g.urgency = e.urgency ∧ g.state ≠ .suspended ∧ g.grantFits)

/-- R15, R16: pass 1. An entry that is not SUSPENDED goes WAITING exactly when some entry of strictly higher urgency went
WAITING, or when its need exceeds the figure less the needs of the entries admitted before it in pass order: by urgency,
then holders before newcomers, then source number, then circuit. -/
def Obligations.PassAdmission : Prop :=
  ∀ (figure : Nat) (t : PerSlot (Option Entry)) (sl : Slot) (e : Entry),
    t.get sl = some e → e.state ≠ .suspended →
    ∃ g, (passTable figure t).get sl = some g ∧ (g.state = .waiting ↔ g.admitted = false) ∧
      (g.admitted = false ↔
        (∃ sl' e' g', t.get sl' = some e' ∧ e'.state ≠ .suspended ∧ (passTable figure t).get sl' = some g' ∧
          g'.admitted = false ∧ e.urgency < e'.urgency) ∨
        figure < e.need + needsBefore t (passTable figure t) (sl, e))

/-- R17, R18, R19: pass 2. An admitted entry is granted its need and its share of the pool that pass 1 leaves: its whole want
where the pool meets every want; otherwise the pool divided by the wants, rounded down, and one litre more for each of the
first sharers in pass order until the pool is given out. GRANTED is the entry that has its whole asked flow. -/
def Obligations.PassShares : Prop :=
  ∀ (figure : Nat) (t : PerSlot (Option Entry)) (sl : Slot) (e g : Entry),
    t.get sl = some e → e.state ≠ .suspended → (passTable figure t).get sl = some g →
    (g.admitted = false → g.granted = 0) ∧
      (g.admitted = true →
        let after := passTable figure t
        let pool := sharePool figure t after
        (g.state = .granted ↔ g.granted = e.asked) ∧
        (wantsOf t after ≤ pool → g.granted = e.need + e.want) ∧
        (pool < wantsOf t after →
          g.granted = e.need + pool * e.want / wantsOf t after +
            (if 0 < e.want ∧ sharersBefore t after (sl, e) < leftoverOf figure t after then 1 else 0)))

/-! ## Station watch (R164 to R169) -/

/-- R164, R165, R168, R172, R11: KEEP_A and KEEP_B. A repeated phase changes nothing and is answered REPEAT; any other makes the
station LIVE, records the phase and starts the timer where the watch is enabled; from LAPSED the station's suspended entries come
back as newcomers and the pass runs. STATION_WATCH sets the watch enable of the working copy by its code, makes the station LIVE
from whatever state, and starts its timer afresh or stops it; from LAPSED it is a recovery, with its pass. EVENT_LEVEL cuts the
level to 7, stores it as the item of its kind, and at 0 removes the kind from the hall set. A number that names no station or no
kind is answered REFUSED_RANGE. -/
def Obligations.WatchRequests : Prop :=
  (∀ (st : Station) (tag : Byte) (s : State) (k : Kind) (ph : Phase) (c : Instr),
      ((k = .keepA ∧ ph = .a ∧ c = .keepA (.station st) tag []) ∨
        (k = .keepB ∧ ph = .b ∧ c = .keepB (.station st) tag [])) →
      Takes (.station st) ⟨tag, kindCode k, []⟩ s →
      let w := s.watches.get st
      let items := s.store.working.stations.get st
      let fresh : Watch := ⟨.live, some ph, if items.watchEnabled then some (250 * 2 ^ items.keepExponent) else none⟩
      ∃ t, exec c s = .next t ∧
        (w.state ≠ .lost → w.phase = some ph →
          Answered (.station st) tag k .repeated [byteOf (watchStateCode w.state)] s s t) ∧
        (w.state = .lost ∨ (w.state = .live ∧ w.phase ≠ some ph) →
          Answered (.station st) tag k .done [byteOf 1] s { s with watches := s.watches.set st fresh } t) ∧
        (w.state = .lapsed → w.phase ≠ some ph →
          Replied (.station st) tag k .done [byteOf 1] s t ∧
            Passed s.slots (passTable s.supply.published (onStationSlots st returnEntry s.slots)) s t ∧
            t = { s with
              ports := t.ports, watches := s.watches.set st fresh, slots := t.slots, drive := t.drive,
              events := t.events })) ∧
  (∀ (tag : Byte) (payload : List Byte) (s : State), Admits .hall .stationWatch tag payload s →
    ∃ t, exec (.stationWatch .hall tag payload) s = .next t ∧
      ((byteAt payload 0 = 0 ∨ 6 < byteAt payload 0) → Answered .hall tag .stationWatch .refusedRange [] s s t) ∧
      ∀ st, stationNumber st = byteAt payload 0 →
        let enable := decide (byteAt payload 1 ≠ 0xA5)
        let items := s.store.working.stations.get st
        let w := s.watches.get st
        let u := { s with
          store := { s.store with
            working := { s.store.working with
              stations := s.store.working.stations.set st { items with watchEnabled := enable } } }
          watches := s.watches.set st
            ⟨.live, w.phase, if enable then some (250 * 2 ^ items.keepExponent) else none⟩ }
        Replied .hall tag .stationWatch .done [] s t ∧
          (w.state ≠ .lapsed → ButPorts u t) ∧
          (w.state = .lapsed →
            Passed s.slots (passTable s.supply.published (onStationSlots st returnEntry s.slots)) s t ∧
              t = { u with ports := t.ports, slots := t.slots, drive := t.drive, events := t.events })) ∧
  (∀ (tag : Byte) (payload : List Byte) (s : State), Admits .hall .eventLevel tag payload s →
    ∃ t, exec (.eventLevel .hall tag payload) s = .next t ∧
      ((byteAt payload 0 = 0 ∨ 14 < byteAt payload 0) → Answered .hall tag .eventLevel .refusedRange [] s s t) ∧
      ∀ k, hallKindNumber k = byteAt payload 0 →
        Answered .hall tag .eventLevel (if byteAt payload 1 ≤ 7 then .done else .clamped)
          [byteOf (min 7 (byteAt payload 1))] s
          { s with
            store := { s.store with
              working := { s.store.working with
                levels := s.store.working.levels.set k (min 7 (byteAt payload 1)) } }
            events := { s.events with
              hall := if byteAt payload 1 = 0 then s.events.hall.set k false else s.events.hall } } t)

/-- R166, R167, R10, R12, R77: a station's period timer runs out. LIVE with its watch enabled it lapses: LAPSED with its phase
kept and the timer started again, its entries SUSPENDED with granted flow 0 and the pass run, and its discharge request
removed, or its open gate finalised CUT_SHORT. LAPSED it is lost: LOST with no phase and no timer, its slots emptied and the
pass run, its late report discarded. In any other state nothing runs out. -/
def Obligations.PeriodExpiry : Prop :=
  ∀ (st : Station) (s : State), s.powered = true →
    let w := s.watches.get st
    let items := s.store.working.stations.get st
    let lapsedTo : State → State := fun u =>
      match u.request (.station st) with
      | none => arbitrate u
      | some r =>
        match r.state with
        | .pending => arbitrate (setPlace (.station st) none u)
        | .offered _ _ => chuteFreed (setPlace (.station st) none u)
        | .opened k _ _ => finaliseLate (.station st) r k .cutShort u
    ((w.timer = none ∨ w.state = .lost ∨ (w.state = .live ∧ items.watchEnabled = false)) →
      exec (.keepalivePeriodExpiry st) s = .next s) ∧
    (w.timer ≠ none → w.state = .live → items.watchEnabled = true →
      ∃ u, exec (.keepalivePeriodExpiry st) s =
          .next (postHall .stationLapsed (postStation st .keepaliveLapsed (lapsedTo u))) ∧
        Passed s.slots (passTable s.supply.published (onStationSlots st suspendEntry s.slots)) s u ∧
        u = { s with
          watches := s.watches.set st ⟨.lapsed, w.phase, some (250 * 2 ^ items.keepExponent)⟩, slots := u.slots,
          drive := u.drive, events := u.events }) ∧
    (w.timer ≠ none → w.state = .lapsed →
      ∃ u, exec (.keepalivePeriodExpiry st) s = .next (postHall .stationLost (setLate st none u)) ∧
        Passed s.slots (passTable s.supply.published (onStationSlots st (fun _ => none) s.slots)) s u ∧
        u = { s with
          watches := s.watches.set st ⟨.lost, none, none⟩, slots := u.slots, drive := u.drive, events := u.events })

/-! ## Events and STATUS (R170 to R172, R182, R183) -/

/-- R171, R182: STATUS on a station port, in every watch state: the items of Table 11-5, the last of them the pending kind
with the lowest number, which is then removed; 0 where the set is empty. -/
def Obligations.StationStatus : Prop :=
  ∀ (st : Station) (tag : Byte) (s : State), Takes (.station st) ⟨tag, kindCode .status, []⟩ s →
    let r := s.request (.station st)
    let items : Nat → List Byte := fun top =>
      [byteOf (watchStateCode (s.watches.get st).state)]
        ++ entryStatus (s.slots.get (.station st .spindle)) ++ entryStatus (s.slots.get (.station st .flood))
        ++ [byteOf (dischargeStateCode (r.map DischargeRequest.state))] ++ u16 (windowSeconds r)
        ++ lastLotBytes (s.crusher.lastLots.get st) ++ [byteOf top]
    (∀ top, (items top).length = 14) ∧
    ∃ t, exec (.status (.station st) tag []) s = .next t ∧
      ((∀ k, (s.stationSet st).get k = false) →
        Answered (.station st) tag .status .done (items 0) s s t) ∧
      ∀ k, (s.stationSet st).get k = true →
        (∀ j, (s.stationSet st).get j = true → stationKindNumber k ≤ stationKindNumber j) →
        Answered (.station st) tag .status .done (items (stationKindNumber k)) s
          { s with events := { s.events with stations := s.events.stations.set st ((s.stationSet st).set k false) } } t

/-- R171, R183: STATUS on the hall port: the 55 bytes of Table 11-6, the last of them the pending kind with the highest level
in the working copy, and among equal levels the lowest number, which is then removed; 0 where the set is empty. The steps left
that it reports in IDLE, 0, are the model's choice (notes/assumptions/19.md). -/
def Obligations.HallStatus : Prop :=
  ∀ (tag : Byte) (s : State), Takes .hall ⟨tag, kindCode .status, []⟩ s →
    let bit : Bool → Nat := fun b => if b = true then 1 else 0
    let condition : Nat → Byte := fun faults => if faults = 0 then 0#8 else if faults < 21 then 1#8 else 2#8
    let watch : Station → Byte := fun st =>
      match (s.watches.get st).state with | .lost => 0#8 | .live => 1#8 | .lapsed => 2#8
    let discards : Port → Byte := fun p => byteOf (s.ports.get p).discards
    let reserved : Nat := match s.current with
      | none => 0
      | some (_, r) => match r.state with | .pending => 0 | .offered k _ => k | .opened k _ _ => k
    let occupied := (s.carousel.queue.map LotRecord.span).sum + reserved
    let items : List Byte :=
      [byteOf (bit s.stop.fieldSupply + 2 * bit s.stop.hall),
        (match s.stop.last with | none => 0#8 | some .fieldSupply => 1#8 | some .hall => 2#8),
        (match s.measure.monitor with | .good => 0#8 | .dip _ => 1#8 | .failed => 2#8 | .recovering _ => 3#8),
        watch .s1, watch .s2, watch .s3, watch .s4, watch .s5, watch .s6]
      ++ u16 s.supply.published
      ++ [match s.supply.band with
          | none => 0#8
          | some .critical => 1#8
          | some .low => 2#8
          | some .normal => 3#8
          | some .high => 4#8]
      ++ u16 s.supply.level ++ u16 s.supply.dp ++ [condition s.supply.dpFaults, condition s.supply.levelFaults]
      ++ [(match s.filter.state with | .filtering => 0#8 | .backwash _ => 1#8 | .settle _ => 2#8 | .indexing _ _ _ => 3#8),
        byteOf (bit s.filter.pending), byteOf (bit s.filter.troughFull)]
      ++ u16 (match s.filter.fleece with | none => 65535 | some n => n)
      ++ [(match s.carousel.survey with | .unsurveyed => 0#8 | .flushing => 1#8 | .surveyed => 2#8),
        (match s.carousel.mode with | .run => 0#8 | .hold _ => 1#8),
        (match s.carousel.mode with | .run => 0#8 | .hold n => byteOf n),
        (match s.carousel.index with
          | .idle => 0#8 | .indexing _ _ => 1#8 | .suspended _ _ => 2#8 | .faulted _ => 3#8),
        (match s.carousel.index with
          | .idle => 0#8 | .indexing n _ => byteOf n | .suspended n _ => byteOf n | .faulted n => byteOf n),
        byteOf (bit s.carousel.requested), byteOf s.carousel.queue.length, byteOf occupied,
        byteOf (s.line.inService - occupied), byteOf s.line.inService]
      ++ [match s.crusher.state with
          | .stopped => 0#8
          | .runUp _ => 1#8
          | .idleRun _ => 2#8
          | .purge _ _ => 3#8
          | .crushing => 4#8
          | .reversing _ => 5#8
          | .blocked => 6#8
          | .passThrough => 7#8
          | .runDown _ => 8#8]
      ++ u16 (match s.crusher.slot with | none => 0 | some x => x.lot.number)
      ++ [match s.crusher.family with | none => 0#8 | some .light => 1#8 | some .ferrous => 2#8 | some .hard => 3#8]
      ++ u16 s.crusher.fills.light ++ u16 s.crusher.fills.ferrous ++ u16 s.crusher.fills.hard
      ++ u16 s.crusher.fills.sludge ++ u16 s.crusher.reject
      ++ [discards (.station .s1), discards (.station .s2), discards (.station .s3), discards (.station .s4),
        discards (.station .s5), discards (.station .s6), discards .hall]
    items.length = 54 ∧ ∃ t, exec (.status .hall tag []) s = .next t ∧
      ((∀ k, s.events.hall.get k = false) → Answered .hall tag .status .done (items ++ [0#8]) s s t) ∧
      ∀ k, s.events.hall.get k = true →
        (∀ j, s.events.hall.get j = true →
          s.store.working.levels.get j < s.store.working.levels.get k ∨
            (s.store.working.levels.get j = s.store.working.levels.get k ∧ hallKindNumber k ≤ hallKindNumber j)) →
        Answered .hall tag .status .done (items ++ [byteOf (hallKindNumber k)]) s
          { s with events := { s.events with hall := s.events.hall.set k false } } t

/-! ## Discharges (R60 to R80) -/

/-- R62, R63: DISCHARGE_ASK. Its refusals in order: REFUSED_STATE while the station's request is OFFERED or OPEN, then
REFUSED_RANGE for a material that is absent or not in use and for an estimate of 0, then OVERSIZE above 4 × Mpocket. An
accepted one stores the request PENDING, discards the late report, and is answered after displacement and arbitration with
the state, urgency, span and window they left. -/
def Obligations.DischargeAsk : Prop :=
  ∀ (st : Station) (tag : Byte) (payload : List Byte) (s : State),
    Admits (.station st) .dischargeAsk tag payload s →
    let estimate := u16At payload 1
    let urgency := max 1 (min 7 (byteAt payload 3))
    let usable : Material → Prop := fun m =>
      materialNumber m = byteAt payload 0 ∧ (s.store.working.materials.get m).inUse = true
    ∃ t, exec (.dischargeAsk (.station st) tag payload) s = .next t ∧
      (s.isCurrent (.station st) → Answered (.station st) tag .dischargeAsk .refusedState [] s s t) ∧
      (¬ s.isCurrent (.station st) → ((∀ m, ¬ usable m) ∨ estimate = 0) →
        Answered (.station st) tag .dischargeAsk .refusedRange [] s s t) ∧
      (¬ s.isCurrent (.station st) → (∃ m, usable m) → estimate ≠ 0 → 4 * s.line.mPocket < estimate →
        Answered (.station st) tag .dischargeAsk .oversize [] s s t) ∧
      (¬ s.isCurrent (.station st) → ∀ m, usable m → estimate ≠ 0 → estimate ≤ 4 * s.line.mPocket →
        let u := afterRequest (.station st) urgency
          { s with
            arbiter := {
              requests := s.arbiter.requests.set (.station st) (some ⟨.chips m, estimate, urgency, .pending⟩)
              late := s.arbiter.late.set st none } }
        let result : Result := if urgency = byteAt payload 3 then .done else .clamped
        ((u.request (.station st) = some ⟨.chips m, estimate, urgency, .pending⟩ ∧
            Answered (.station st) tag .dischargeAsk result [byteOf 1, byteOf urgency, byteOf 0, byteOf 0] s u t) ∨
          ∃ k, u.request (.station st) = some ⟨.chips m, estimate, urgency, .offered k (1000 * s.line.tOffer)⟩ ∧
            Answered (.station st) tag .dischargeAsk result
              [byteOf 2, byteOf urgency, byteOf k, byteOf s.line.tOffer] s u t))

/-- R49, R63, R65, R70, R74 to R78, R86, R88: what follows. A stored request of strictly higher urgency than another source's
offer displaces it: the offer goes back to PENDING with OFFER_WITHDRAWN posted, and the chute is freed; in every other case the
arbiter arbitrates. A chute freed: the carousel tests its start conditions, then the arbiter arbitrates. A finalisation: a head
lot that has appeared is evaluated, for source 7 the emptied trough may start the pending backwash, and the chute is freed; in
safe stop nothing follows. One made without DONE leaves a station's outcome as its late report, with or without a lot. The order
is the model's choice (notes/assumptions/10.md), and so is the flag of a late report without a lot (notes/assumptions/15.md).
The four operations named here are the commands INDEX_START, ARBITRATION, FEED_EVALUATION and PENDING_BACKWASH_START. -/
def Obligations.FollowUps : Prop :=
  (∀ (src : Source) (urgency : Nat) (s : State),
      (∀ o r k w, s.current = some (.station o, r) → r.state = .offered k w → .station o ≠ src → r.urgency < urgency →
        afterRequest src urgency s = chuteFreed (postStation o .offerWithdrawn
          { s with
            arbiter := { s.arbiter with
              requests := s.arbiter.requests.set (.station o) (some { r with state := .pending }) } })) ∧
      ((∀ o r, s.current = some (o, r) → (∀ k w, r.state ≠ .offered k w) ∨ o = src ∨ urgency ≤ r.urgency) →
        afterRequest src urgency s = arbitrate s)) ∧
  (∀ s : State, s.powered = true →
    exec .indexStart s = .next (tryIndexStart s) ∧ exec .arbitration s = .next (arbitrate s) ∧
      exec .feedEvaluation s = .next (feedEvaluation s) ∧ exec .pendingBackwashStart s = .next (tryPendingBackwash s)) ∧
  (∀ s : State, chuteFreed s = arbitrate (tryIndexStart s)) ∧
  (∀ (wasEmpty : Bool) (s : State),
    headAppears wasEmpty s = if wasEmpty = true ∧ s.carousel.queue ≠ [] then feedEvaluation s else s) ∧
  (∀ s : State, (∀ st, troughEmptied (.station st) s = s) ∧ troughEmptied .sludge s = tryPendingBackwash s) ∧
  (∀ (wasEmpty : Bool) (s : State),
    let u := if wasEmpty = true ∧ s.carousel.queue ≠ [] then feedEvaluation s else s
    (∀ st, afterFinalise (.station st) wasEmpty s = arbitrate (tryIndexStart u)) ∧
      afterFinalise .sludge wasEmpty s = arbitrate (tryIndexStart (tryPendingBackwash u)) ∧
      (s.inSafeStop = true → ∀ src, afterFinalise src wasEmpty s = s)) ∧
  ∀ (r : DischargeRequest) (reserved : Nat) (c : EndCause) (s : State),
    let done : Source → State := fun src =>
      afterFinalise src s.carousel.queue.isEmpty (finalise src r reserved c s).1
    finaliseLate .sludge r reserved c s = done .sludge ∧
      ∀ st, finaliseLate (.station st) r reserved c s = setLate st (some (finalise (.station st) r reserved c s).2)
          (done (.station st)) ∧
        (∀ (o : Option Outcome) (u : State),
          setLate st o u = { u with arbiter := { u.arbiter with late := u.arbiter.late.set st o } })

/-- R68, R64, R144, R162: DISCHARGE_GO of an OFFERED request opens it: the chute count is zeroed and enabled, the gate opens, the
gate window starts, and the reply carries its seconds; in any other state it is answered REFUSED_STATE. DISCHARGE_CANCEL by the
state of the request: none, nothing; PENDING, removed; OFFERED, removed with its reservation released and the chute arbitrated
anew; OPEN, REFUSED_STATE. -/
def Obligations.DischargeGoCancel : Prop :=
  (∀ (st : Station) (tag : Byte) (s : State), Admits (.station st) .dischargeGo tag [] s →
    ∃ t, exec (.dischargeGo (.station st) tag []) s = .next t ∧
      (∀ r k w, s.request (.station st) = some r → r.state = .offered k w →
        Answered (.station st) tag .dischargeGo .done (u16 s.line.tGate) s
          { s with
            arbiter := { s.arbiter with
              requests := s.arbiter.requests.set (.station st)
                (some { r with state := .opened k (1000 * s.line.tGate) none }) }
            measure := { s.measure with chute := ⟨0, true⟩ }
            drive := { s.drive with gates := s.drive.gates.set st true } } t) ∧
      ((∀ r, s.request (.station st) = some r → ∀ k w, r.state ≠ .offered k w) →
        Answered (.station st) tag .dischargeGo .refusedState [] s s t)) ∧
  (∀ (st : Station) (tag : Byte) (s : State), Admits (.station st) .dischargeCancel tag [] s →
    let removed := { s with
      arbiter := { s.arbiter with requests := s.arbiter.requests.set (.station st) none } }
    ∃ t, exec (.dischargeCancel (.station st) tag []) s = .next t ∧
      (s.request (.station st) = none → Answered (.station st) tag .dischargeCancel .done [] s s t) ∧
      ∀ r, s.request (.station st) = some r →
        match r.state with
        | .pending => Answered (.station st) tag .dischargeCancel .done [] s (arbitrate removed) t
        | .offered _ _ => Answered (.station st) tag .dischargeCancel .done [] s (chuteFreed removed) t
        | .opened _ _ _ => Answered (.station st) tag .dischargeCancel .refusedState [] s s t)

/-- R75, R86, R144, R162: a finalisation. The gate closes and the chute counter stops. A measured mass of 0 gives no lot. A
mass above 0 gives a lot at the tail with the next free number, the copies of the material entry as it stands, a span of at
least 1 and at most the reserved one, and its flags. The request is removed, and source 7's trough becomes EMPTY. That an
outcome without a lot keeps the flag of what ended it is the model's (notes/assumptions/15.md). -/
def Obligations.Finalisation : Prop :=
  ∀ (src : Source) (r : DischargeRequest) (reserved : Nat) (c : EndCause) (s : State),
    let m := min 2000 (s.measure.chute.count / s.line.ppk)
    let span := min reserved (max 1 (ceilDiv m s.line.mPocket))
    let flags : LotFlags := ⟨decide (reserved * s.line.mPocket < m), decide (c = .timedOut), decide (c = .cutShort)⟩
    let content : LotContent := match r.cargo with
      | .sludge => .sludge
      | .chips n => .chips n
          ⟨(s.store.working.materials.get n).family, (s.store.working.materials.get n).form,
            (s.store.working.materials.get n).rate, (s.store.working.materials.get n).speed,
            (s.store.working.materials.get n).stall, (s.store.working.materials.get n).purge⟩
    let lot : LotRecord := ⟨s.newNumber, src, content, r.estimate, m, span, flags, .queued⟩
    let closed : State := { s with
      arbiter := { s.arbiter with requests := s.arbiter.requests.set src none }
      measure := { s.measure with chute := { s.measure.chute with enabled := false } }
      drive := match src with
        | .station st => { s.drive with gates := s.drive.gates.set st false }
        | .sludge => { s.drive with dumpValve := false }
      filter := match src with
        | .station _ => s.filter
        | .sludge => { s.filter with troughFull := false } }
    (m = 0 → finalise src r reserved c s = (closed, ⟨none, 0, 0, { flags with overfull := false }⟩)) ∧
      (m ≠ 0 → finalise src r reserved c s =
        ({ closed with
            carousel := { s.carousel with
              queue := s.carousel.queue ++ [lot]
              counter := if s.newNumber < 65535 then s.newNumber + 1 else 1 } },
          ⟨some s.newNumber, m, span, flags⟩))

/-- R83: a new lot gets the first number, from the lot counter on and round from 65535 to 1, that no live lot holds, where at most
17 lots are live. -/
def Obligations.LotNumbers : Prop :=
  ∀ s : State, s.liveNumbers.length ≤ 17 → 1 ≤ s.carousel.counter → s.carousel.counter ≤ 65535 →
    let next : Nat → Nat := fun n => if n < 65535 then n + 1 else 1
    s.newNumber ∉ s.liveNumbers ∧ 1 ≤ s.newNumber ∧ s.newNumber ≤ 65535 ∧
      ∃ j, j ≤ s.liveNumbers.length ∧ s.newNumber = next^[j] s.carousel.counter ∧
        ∀ i, i < j → next^[i] s.carousel.counter ∈ s.liveNumbers

/-- R72, R74, R75: DISCHARGE_DONE. An OPEN request is finalised with no end flag and answered DONE with the outcome, or EMPTY
where nothing was measured. With no request a late report is delivered and discarded, answered LATE. Otherwise the reply is
REFUSED_STATE. -/
def Obligations.DischargeDone : Prop :=
  ∀ (st : Station) (tag : Byte) (s : State), Admits (.station st) .dischargeDone tag [] s →
    let bytes : Outcome → List Byte := fun o =>
      u16 (o.lot.getD 0) ++ u16 o.mass
        ++ [byteOf o.span, byteOf (boolCode o.flags.overfull + 2 * boolCode o.flags.timedOut + 4 * boolCode o.flags.cutShort)]
    ∃ t, exec (.dischargeDone (.station st) tag []) s = .next t ∧
      (∀ r k g d, s.request (.station st) = some r → r.state = .opened k g d →
        let f := finalise (.station st) r k .done s
        Answered (.station st) tag .dischargeDone (if f.2.lot = none then .empty else .done) (bytes f.2) s
          (afterFinalise (.station st) s.carousel.queue.isEmpty f.1) t) ∧
      (∀ r, s.request (.station st) = some r → (∀ k g d, r.state ≠ .opened k g d) →
        Answered (.station st) tag .dischargeDone .refusedState [] s s t) ∧
      (s.request (.station st) = none → s.arbiter.late.get st = none →
        Answered (.station st) tag .dischargeDone .refusedState [] s s t) ∧
      (∀ o, s.request (.station st) = none → s.arbiter.late.get st = some o →
        Answered (.station st) tag .dischargeDone .late (bytes o) s
          { s with arbiter := { s.arbiter with late := s.arbiter.late.set st none } } t)

/-- R65, R66, R67, R76: ARBITRATION. Without all its conditions, or without a PENDING request, nothing happens. With them the
request of highest urgency, and among equals of the lowest source number, is taken; where its span exceeds the free pockets
no offer is made to any request; otherwise a station is offered its pockets for Toffer, and source 7 is opened at once. -/
def Obligations.Arbitration : Prop :=
  ∀ s : State, s.powered = true →
    let may : Prop := (∀ src, ¬ s.isCurrent src) ∧ s.carousel.survey = .surveyed ∧ s.carousel.index = .idle ∧
      s.carousel.requested = false ∧ s.inSafeStop = false
    (¬ may → exec .arbitration s = .next s) ∧
    ((∀ src r, s.request src = some r → r.state ≠ .pending) → exec .arbitration s = .next s) ∧
    (may → ∀ src r, s.request src = some r → r.state = .pending →
      (∀ o q, s.request o = some q → q.state = .pending → o ≠ src →
        q.urgency < r.urgency ∨ (q.urgency = r.urgency ∧ sourceNumber src < sourceNumber o)) →
      let k := min 4 (ceilDiv r.estimate s.line.mPocket)
      (s.freePockets < k → exec .arbitration s = .next s) ∧
      (k ≤ s.freePockets →
        (∀ st, src = .station st → exec .arbitration s = .next { s with
          arbiter := { s.arbiter with
            requests := s.arbiter.requests.set src (some { r with state := .offered k (1000 * s.line.tOffer) }) }
          events := { s.events with
            stations := s.events.stations.set st ((s.stationSet st).set .offerMade true) } }) ∧
        (src = .sludge → exec .arbitration s = .next { s with
          arbiter := { s.arbiter with
            requests := s.arbiter.requests.set src
              (some { r with state := .opened k (1000 * s.line.tGate) (some (1000 * s.line.tDump)) }) }
          measure := { s.measure with chute := ⟨0, true⟩ }
          drive := { s.drive with dumpValve := true } })))

/-- R69, R73, R74, R76: the windows of the current discharge. The offer window removes the request with OFFER_LAPSED and the
chute is arbitrated. The gate window finalises TIMED_OUT, for a station with GATE_TIMED_OUT and the outcome kept as its late
report. The dump timer is source 7's DONE. A window that does not run does nothing. -/
def Obligations.DischargeTimers : Prop :=
  ∀ s : State, s.powered = true →
    (∀ st r k w, s.current = some (.station st, r) → r.state = .offered k w →
      exec .offerWindowExpiry s = .next (chuteFreed (postStation st .offerLapsed
        { s with arbiter := { s.arbiter with requests := s.arbiter.requests.set (.station st) none } }))) ∧
    ((∀ src r, s.current = some (src, r) → ∀ k w, r.state ≠ .offered k w) → exec .offerWindowExpiry s = .next s) ∧
    (∀ st r k g d, s.current = some (.station st, r) → r.state = .opened k g d →
      let f := finalise (.station st) r k .timedOut (postStation st .gateTimedOut s)
      exec .gateWindowExpiry s = .next
        (setLate st (some f.2) (afterFinalise (.station st) s.carousel.queue.isEmpty f.1))) ∧
    (∀ r k g d, s.current = some (.sludge, r) → r.state = .opened k g d →
      exec .gateWindowExpiry s = .next
        (afterFinalise .sludge s.carousel.queue.isEmpty (finalise .sludge r k .timedOut s).1)) ∧
    ((∀ src r, s.current = some (src, r) → ∀ k g d, r.state ≠ .opened k g d) → exec .gateWindowExpiry s = .next s) ∧
    (∀ r k g d, s.current = some (.sludge, r) → r.state = .opened k g (some d) →
      exec .dumpTimerExpiry s = .next
        (afterFinalise .sludge s.carousel.queue.isEmpty (finalise .sludge r k .done s).1)) ∧
    ((∀ r, s.current = some (.sludge, r) → ∀ k g d, r.state ≠ .opened k g (some d)) →
      exec .dumpTimerExpiry s = .next s)

/-! ## Pocket carousel (R81 to R102, R145) -/

/-- R93: HOLD; R94: RELEASE; R95: RESUME. -/
def Obligations.ModeRequests : Prop :=
  ∀ (tag n : Byte) (s : State),
    let mode : Mode → State := fun m => { s with carousel := { s.carousel with mode := m } }
    (Admits .hall .hold tag [] s → ∃ t, exec (.hold .hall tag []) s = .next t ∧
      (s.carousel.mode = .run → s.carousel.requested = true → s.carousel.index = .idle →
        Answered .hall tag .hold .done [] s
          (arbitrate (feedEvaluation { s with
            carousel := { s.carousel with mode := .hold 0, requested := false }
            crusher := { s.crusher with awaited := none } })) t) ∧
      (s.carousel.mode = .run → ¬ (s.carousel.requested = true ∧ s.carousel.index = .idle) →
        Answered .hall tag .hold .done [] s (mode (.hold 0)) t) ∧
      (s.carousel.mode ≠ .run → Answered .hall tag .hold .done [] s s t)) ∧
    (Admits .hall .release tag [n] s → ∃ t, exec (.release .hall tag [n]) s = .next t ∧
      (s.carousel.mode = .run → Answered .hall tag .release .refusedState [] s s t) ∧
      ∀ m, s.carousel.mode = .hold m →
        let lots := (s.carousel.queue.filter (fun l => decide (l.stage = .queued))).length
        let count := min (m + n.toNat) lots
        let u := tryIndexStart
          (if m = 0 ∧ 0 < count then feedEvaluation (mode (.hold count)) else mode (.hold count))
        Answered .hall tag .release (if m + n.toNat ≤ lots then .done else .clamped)
          [byteOf u.carousel.mode.releases] s u t) ∧
    (Admits .hall .resume tag [] s → ∃ t, exec (.resume .hall tag []) s = .next t ∧
      (s.carousel.mode = .run → Answered .hall tag .resume .done [] s s t) ∧
      (s.carousel.mode ≠ .run →
        Answered .hall tag .resume .done [] s (tryIndexStart (feedEvaluation (mode .run))) t))

/-- R96, R98, R99: RING_CLEARED; RING_FLUSH, whose steps are made as any index step, N of them, with the sludge flap at REJECT; and
SET_POCKET_LIMIT, which sets N, cut to 4 to 16, while the carousel is empty: no lot, no reservation, index state IDLE; the
arbiter then arbitrates, and otherwise it is answered BUSY. -/
def Obligations.RingRequests : Prop :=
  (∀ (tag : Byte) (s : State),
    (Admits .hall .ringCleared tag [] s → ∃ t, exec (.ringCleared .hall tag []) s = .next t ∧
      (s.carousel.survey = .unsurveyed → Answered .hall tag .ringCleared .done [] s
        (arbitrate { s with carousel := { s.carousel with survey := .surveyed } }) t) ∧
      (s.carousel.survey = .flushing → Answered .hall tag .ringCleared .busy [] s s t) ∧
      (s.carousel.survey = .surveyed → Answered .hall tag .ringCleared .refusedState [] s s t)) ∧
    (Admits .hall .ringFlush tag [] s → ∃ t, exec (.ringFlush .hall tag []) s = .next t ∧
      (s.carousel.survey = .unsurveyed → s.inSafeStop = false → Answered .hall tag .ringFlush .done [] s
        { s with
          carousel := { s.carousel with
            survey := .flushing, index := .indexing s.line.inService (2000 * s.line.tIdx) }
          drive := { s.drive with flap := .reject, step := true } } t) ∧
      (s.carousel.survey = .flushing → Answered .hall tag .ringFlush .busy [] s s t) ∧
      (s.carousel.survey = .surveyed ∨ (s.carousel.survey = .unsurveyed ∧ s.inSafeStop = true) →
        Answered .hall tag .ringFlush .refusedState [] s s t))) ∧
  (∀ (tag n : Byte) (s : State), Admits .hall .setPocketLimit tag [n] s →
    let empty : Prop := s.carousel.queue = [] ∧ (∀ src, ¬ s.isCurrent src) ∧ s.carousel.index = .idle
    let v := max 4 (min 16 n.toNat)
    ∃ t, exec (.setPocketLimit .hall tag [n]) s = .next t ∧
      (¬ empty → Answered .hall tag .setPocketLimit .busy [] s s t) ∧
      (empty → Answered .hall tag .setPocketLimit (if v = n.toNat then .done else .clamped) [byteOf v] s
        (arbitrate { s with
          store := { s.store with
            working := { s.store.working with line := { s.line with inService := v } } } }) t))

/-- R88, R89: INDEX_START starts the index of the head lot when all its conditions hold: the lot TIPPING, the release count
lowered in HOLD, as many steps as the lot spans, the first one running for 2 × Tidx. Otherwise nothing happens. -/
def Obligations.IndexStart : Prop :=
  ∀ s : State, s.powered = true →
    let may : Prop := s.carousel.requested = true ∧ s.carousel.index = .idle ∧ s.carousel.survey = .surveyed ∧
      (∀ src, ¬ s.isCurrent src) ∧ s.inSafeStop = false ∧ s.carousel.mode ≠ .hold 0
    (¬ may → exec .indexStart s = .next s) ∧
    (may → ∀ l rest, s.carousel.queue = l :: rest →
      exec .indexStart s = .next { s with
        carousel := { s.carousel with
          queue := { l with stage := .tipping } :: rest
          mode := (match s.carousel.mode with | .run => .run | .hold n => .hold (n - 1))
          index := .indexing l.span (2000 * s.line.tIdx) }
        drive := { s.drive with step := true } })

/-- R145, R89 to R92, R99, R100: the INDEX sensor and the steps. A passage to made starts the confirmation of 20 ms, clearing
discards it, and its end gives one edge: an edge ends the step in motion, the next one starting with a fresh timer; the last one
takes the head lot to the crusher, or ends a flush; in SUSPENDED the first is the run-on edge of the interrupted step; any other
is ignored. A step timer that runs out makes the carousel FAULTED with the steps left unchanged and posts CAROUSEL_FAULT.
CAROUSEL_RETRY makes the failed step again, out of safe stop; otherwise it is answered REFUSED_STATE. -/
def Obligations.StepsAndFaults : Prop :=
  (∀ s : State, s.powered = true →
    let sensor : IndexSensor → State := fun x => { s with measure := { s.measure with sensor := x } }
    let u := sensor ⟨true, none⟩
    (s.measure.sensor = ⟨false, none⟩ → exec .indexSensorMade s = .next (sensor ⟨false, some 20⟩)) ∧
    (s.measure.sensor ≠ ⟨false, none⟩ → exec .indexSensorMade s = .next s) ∧
    exec .indexSensorClear s = .next (sensor ⟨false, none⟩) ∧
    (s.measure.sensor.confirming = none → exec .indexEdge s = .next s) ∧
    (s.measure.sensor.confirming ≠ none →
      (∀ n x, s.carousel.index = .indexing n x → 2 ≤ n → exec .indexEdge s = .next { u with
        carousel := { s.carousel with index := .indexing (n - 1) (2000 * s.line.tIdx) }
        drive := { s.drive with step := true } }) ∧
      (∀ n x, s.carousel.index = .indexing n x → n ≤ 1 → s.carousel.survey = .flushing →
        exec .indexEdge s = .next (arbitrate { u with
          carousel := { s.carousel with index := .idle, survey := .surveyed }
          drive := { s.drive with step := false, flap := .crusher } })) ∧
      (∀ n x l rest, s.carousel.index = .indexing n x → n ≤ 1 → s.carousel.survey ≠ .flushing →
        s.carousel.queue = l :: rest →
        exec .indexEdge s = .next (arbitrate (feedEvaluation (lotArrives l { u with
          carousel := { s.carousel with queue := rest, requested := false, index := .idle }
          drive := { s.drive with step := false } })))) ∧
      (∀ n, s.carousel.index = .suspended n false → exec .indexEdge s = .next { u with
        carousel := { s.carousel with index := .suspended (n - 1) true } }) ∧
      ((∀ n x, s.carousel.index ≠ .indexing n x) → (∀ n, s.carousel.index ≠ .suspended n false) →
        exec .indexEdge s = .next u))) ∧
  (∀ (tag : Byte) (s : State),
    (s.powered = true → ∀ n x, s.carousel.index = .indexing n x →
      exec .stepTimerExpiry s = .next (postHall .carouselFault { s with
        carousel := { s.carousel with index := .faulted n }, drive := { s.drive with step := false } })) ∧
    (s.powered = true → (∀ n x, s.carousel.index ≠ .indexing n x) → exec .stepTimerExpiry s = .next s) ∧
    (Admits .hall .carouselRetry tag [] s → ∃ t, exec (.carouselRetry .hall tag []) s = .next t ∧
      (∀ n, s.carousel.index = .faulted n → s.inSafeStop = false → Answered .hall tag .carouselRetry .done [] s
        { s with
          carousel := { s.carousel with index := .indexing n (2000 * s.line.tIdx) }
          drive := { s.drive with step := true } } t) ∧
      (s.inSafeStop = true ∨ (∀ n, s.carousel.index ≠ .faulted n) →
        Answered .hall tag .carouselRetry .refusedState [] s s t)))

/-! ## Crusher (R103 to R124, R142, R143, R158) -/

/-- R105, R106, R107, R108, R111: FEED_EVALUATION. It acts only under all the conditions of R105. A full bin waits, with
BIN_FULL posted once. A crushable head lot starts the drive from STOPPED; from IDLE_RUN it purges when the family differs, and
asks for the index when it is the same. Sludge asks from STOPPED and runs the crusher down from IDLE_RUN. -/
def Obligations.FeedEvaluation : Prop :=
  ∀ s : State, s.powered = true →
    let may : Prop := s.crusher.slot = none ∧ s.crusher.awaited = none ∧ s.carousel.survey = .surveyed ∧
      (∀ n, s.carousel.index ≠ .faulted n) ∧ s.carousel.mode ≠ .hold 0 ∧ s.inSafeStop = false ∧
      (s.crusher.state = .stopped ∨ ∃ n, s.crusher.state = .idleRun n)
    (¬ may → exec .feedEvaluation s = .next s) ∧
    ((∀ l, s.headLot = some l → l.stage ≠ .queued) → exec .feedEvaluation s = .next s) ∧
    (may → ∀ l, s.headLot = some l → l.stage = .queued →
      let full : Prop := s.line.cBin l.family ≤ s.crusher.fills.get l.family
      let asked : Carousel := { s.carousel with requested := true }
      (full → s.crusher.binWait = some l.family → exec .feedEvaluation s = .next s) ∧
      (full → s.crusher.binWait ≠ some l.family → exec .feedEvaluation s =
        .next (postHall .binFull { s with crusher := { s.crusher with binWait := some l.family } })) ∧
      (¬ full → ∀ m c, l.content = .chips m c →
        (s.crusher.state = .stopped → exec .feedEvaluation s = .next (driveCrusher .forward (some c.speed)
          { s with crusher := { s.crusher with binWait := none, state := .runUp (1000 * s.line.tRunUp) } })) ∧
        (∀ n, s.crusher.state = .idleRun n → s.crusher.family = some c.family →
          exec .feedEvaluation s = .next (tryIndexStart
            { s with
              crusher := { s.crusher with binWait := none, awaited := some l.number }
              drive := { s.drive with flap := .crusher, speed := some c.speed }
              carousel := asked })) ∧
        (∀ n, s.crusher.state = .idleRun n → s.crusher.family ≠ some c.family →
          let time := if s.crusher.family = none then c.purge else s.crusher.heldPurge
          (time ≠ 0 → exec .feedEvaluation s = .next (driveCrusher .forward none
            { s with crusher := { s.crusher with binWait := none, state := .purge (1000 * time) c.family } })) ∧
          (time = 0 → exec .feedEvaluation s = .next (tryIndexStart
            (let v := driveCrusher .forward none { s with
              crusher := { s.crusher with
                binWait := none, family := some c.family, heldPurge := c.purge,
                state := .idleRun (1000 * s.line.tIdle) } }
            { v with
              crusher := { v.crusher with awaited := some l.number }
              drive := { v.drive with binGate := .bin c.family, flap := .crusher, speed := some c.speed }
              carousel := asked }))))) ∧
      (¬ full → l.content = .sludge →
        (s.crusher.state = .stopped → exec .feedEvaluation s = .next (tryIndexStart
          { s with
            crusher := { s.crusher with binWait := none, awaited := some l.number }
            drive := { s.drive with flap := .sludge }
            carousel := asked })) ∧
        (∀ n, s.crusher.state = .idleRun n → exec .feedEvaluation s = .next (driveCrusher .stopped none
          { s with crusher := { s.crusher with binWait := none, state := .runDown (1000 * s.line.tRunDown) } }))))

/-- R113: a lot that an index delivers enters the slot IN_CRUSHER with jam count 0 and its feed time or transit time, and
nothing is awaited any more. It is crushed from IDLE_RUN, run up or passed through from STOPPED out of safe stop, and in every
other state it waits. -/
def Obligations.LotArrival : Prop :=
  ∀ (l : LotRecord) (s : State),
    let placed : Nat → Nat → State := fun remaining held => { s with
      crusher := { s.crusher with
        slot := some ⟨{ l with stage := .inCrusher }, remaining, 0⟩, awaited := none, heldPurge := held } }
    (∀ m c, l.content = .chips m c →
      let u := placed (1000 * max 1 (min 3600 (ceilDiv (l.mass * 60) c.rate))) c.purge
      (∀ n, s.crusher.state = .idleRun n → lotArrives l s = driveCrusher .forward (some c.speed)
        { u with crusher := { u.crusher with state := .crushing, stallCount := 0 } }) ∧
      (s.crusher.state = .stopped → s.inSafeStop = false → lotArrives l s = driveCrusher .forward (some c.speed)
        { u with crusher := { u.crusher with state := .runUp (1000 * s.line.tRunUp) } }) ∧
      ((∀ n, s.crusher.state ≠ .idleRun n) → (s.crusher.state = .stopped → s.inSafeStop = true) →
        lotArrives l s = u)) ∧
    (l.content = .sludge →
      let u := placed (1000 * s.line.tTransit) s.crusher.heldPurge
      (s.crusher.state = .stopped → s.inSafeStop = false → lotArrives l s = driveCrusher .stopped none
        { u with crusher := { u.crusher with state := .passThrough } }) ∧
      ((s.crusher.state = .stopped → s.inSafeStop = true) → lotArrives l s = u))

/-- R108, R109, R110, R116: the run-up, purge, idle, run-down and reverse timers. Each acts in its own state alone. -/
def Obligations.CrusherTimers : Prop :=
  ∀ s : State, s.powered = true →
    let become : CrusherState → State := fun x => { s with crusher := { s.crusher with state := x } }
    let idling := driveCrusher .forward none (become (.idleRun (1000 * s.line.tIdle)))
    let stopping := driveCrusher .stopped none (become .stopped)
    (∀ n, s.crusher.state = .runUp n →
      (∀ x m c, s.crusher.slot = some x → x.lot.content = .chips m c →
        exec .runUpExpiry s = .next (driveCrusher .forward (some c.speed)
          { s with crusher := { s.crusher with state := .crushing, stallCount := 0 } })) ∧
      (s.crusher.slot = none → s.crusher.awaited ≠ none → exec .runUpExpiry s = .next idling) ∧
      (s.crusher.slot = none → s.crusher.awaited = none →
        exec .runUpExpiry s = .next (feedEvaluation idling))) ∧
    ((∀ n, s.crusher.state ≠ .runUp n) → exec .runUpExpiry s = .next s) ∧
    (∀ n f held, s.crusher.state = .purge n f →
      (∀ l m c, s.headLot = some l → l.content = .chips m c → held = c.purge) →
      ((∀ l m c, s.headLot = some l → l.content ≠ .chips m c) → held = s.crusher.heldPurge) →
      exec .purgeExpiry s = .next (feedEvaluation (driveCrusher .forward none { s with
        drive := { s.drive with binGate := .bin f }
        crusher := { s.crusher with
          family := some f, heldPurge := held, state := .idleRun (1000 * s.line.tIdle) } }))) ∧
    ((∀ n f, s.crusher.state ≠ .purge n f) → exec .purgeExpiry s = .next s) ∧
    (∀ n, s.crusher.state = .idleRun n →
      exec .idleExpiry s = .next (driveCrusher .stopped none (become (.runDown (1000 * s.line.tRunDown))))) ∧
    ((∀ n, s.crusher.state ≠ .idleRun n) → exec .idleExpiry s = .next s) ∧
    (∀ n, s.crusher.state = .runDown n →
      (s.crusher.slot = none → exec .runDownExpiry s = .next (feedEvaluation stopping)) ∧
      (∀ x m c, s.crusher.slot = some x → x.lot.content = .chips m c →
        exec .runDownExpiry s = .next (driveCrusher .forward (some c.speed)
          { stopping with crusher := { s.crusher with state := .runUp (1000 * s.line.tRunUp) } }))) ∧
    ((∀ n, s.crusher.state ≠ .runDown n) → exec .runDownExpiry s = .next s) ∧
    (∀ n, s.crusher.state = .reversing n → ∀ x m c, s.crusher.slot = some x → x.lot.content = .chips m c →
      exec .reverseExpiry s = .next
        (driveCrusher .forward (some c.speed) (become (.runUp (1000 * s.line.tRunUp))))) ∧
    ((∀ n, s.crusher.state ≠ .reversing n) → exec .reverseExpiry s = .next s)

/-- R114, R119: the end of feed raises the fill of the lot's bin, stopping at 65535, sets the last-lot report of a station lot
and posts LOT_CRUSHED, empties the slot, and idles with the feed evaluation made. The end of transit raises the fill of the
SLUDGE bin, sets the flap to CRUSHER, empties the slot and stops with the feed evaluation made. -/
def Obligations.LotEnds : Prop :=
  ∀ s : State, s.powered = true →
    (∀ x, s.crusher.state = .crushing → s.crusher.slot = some x →
      let f := x.lot.family
      let u : State := { s with
        crusher := { s.crusher with
          fills := s.crusher.fills.set f (min 65535 (s.crusher.fills.get f + x.lot.mass)), slot := none,
          state := .idleRun (1000 * s.line.tIdle) } }
      (∀ st, x.lot.source = .station st → exec .endOfFeed s =
        .next (feedEvaluation (driveCrusher .forward none (postStation st .lotCrushed { u with
          crusher := { u.crusher with
            lastLots := s.crusher.lastLots.set st (some ⟨x.lot.number, .crushed⟩) } })))) ∧
      (x.lot.source = .sludge → exec .endOfFeed s = .next (feedEvaluation (driveCrusher .forward none u)))) ∧
    (s.crusher.state ≠ .crushing ∨ s.crusher.slot = none → exec .endOfFeed s = .next s) ∧
    (∀ x, s.crusher.state = .passThrough → s.crusher.slot = some x → exec .endOfTransit s =
      .next (feedEvaluation (driveCrusher .stopped none { s with
        crusher := { s.crusher with
          fills := s.crusher.fills.set .sludge (min 65535 (s.crusher.fills.sludge + x.lot.mass)), slot := none,
          state := .stopped }
        drive := { s.drive with flap := .crusher } }))) ∧
    (s.crusher.state ≠ .passThrough ∨ s.crusher.slot = none → exec .endOfTransit s = .next s)

/-- R142 to R144, R115, R116, R158: pulses, shaft windows and drive commands. A shaft pulse counts while a window runs, up to 65535.
The end of a window gives count × 120 ÷ ppr and starts the next one. In CRUSHING a window below the stall limit raises the stall
count, any other sets it to 0, and the third in a row is a jam: reversed while the jam count is at most Nretry, else BLOCKED. A
chute pulse counts while the chute counter is enabled, up to 999,999. A drive command sets the direction, and the speed
reference where it carries one; a passage to forward starts a window, and a passage away from it abandons the window. The
forward contact is made in FORWARD alone and the reverse contact in REVERSE alone, never both, and the speed output is the
reference while the drive runs and 0 while it is STOPPED. -/
def Obligations.PulsesAndDrive : Prop :=
  (∀ s : State, s.powered = true →
    exec .chutePulse s = .next (if s.measure.chute.enabled then { s with
      measure := { s.measure with
        chute := { s.measure.chute with count := min 999999 (s.measure.chute.count + 1) } } } else s)) ∧
  (∀ s : State, s.powered = true →
    (s.measure.shaft = .idle → exec .shaftPulse s = .next s ∧ exec .shaftWindowEnd s = .next s) ∧
    ∀ n ppr left, s.measure.shaft = .counting n ppr left →
      exec .shaftPulse s = .next { s with
        measure := { s.measure with shaft := .counting (min 65535 (n + 1)) ppr left } } ∧
      let w : State := { s with measure := { s.measure with shaft := .counting 0 s.line.ppr 500 } }
      let count : Nat → State := fun k => { w with crusher := { s.crusher with stallCount := k } }
      ((s.crusher.state ≠ .crushing ∨ s.crusher.slot = none) → exec .shaftWindowEnd s = .next w) ∧
      ∀ x m c, s.crusher.state = .crushing → s.crusher.slot = some x → x.lot.content = .chips m c →
        let rpm := n * 120 / ppr
        let jammed := postHall .jam { w with
          crusher := { s.crusher with stallCount := 0, slot := some { x with jams := x.jams + 1 } } }
        (c.stall * c.speed ≤ rpm * 100 → exec .shaftWindowEnd s = .next (count 0)) ∧
        (rpm * 100 < c.stall * c.speed → s.crusher.stallCount < 2 →
          exec .shaftWindowEnd s = .next (count (s.crusher.stallCount + 1))) ∧
        (rpm * 100 < c.stall * c.speed → 2 ≤ s.crusher.stallCount → x.jams < s.line.nRetry →
          exec .shaftWindowEnd s = .next (driveCrusher .reverse (some c.speed)
            { jammed with crusher := { jammed.crusher with state := .reversing (1000 * s.line.tRev) } })) ∧
        (rpm * 100 < c.stall * c.speed → 2 ≤ s.crusher.stallCount → s.line.nRetry ≤ x.jams →
          exec .shaftWindowEnd s = .next (postHall .crusherBlocked (driveCrusher .stopped none
            { jammed with crusher := { jammed.crusher with state := .blocked } })))) ∧
  (∀ (d : Direction) (setpoint : Option Nat) (s : State),
    driveCrusher d setpoint s = { s with
      drive := { s.drive with direction := d, speed := if setpoint = none then s.drive.speed else setpoint }
      measure := { s.measure with
        shaft := if s.drive.direction = d then s.measure.shaft
          else if d = .forward then .counting 0 s.line.ppr 500 else .idle } }) ∧
  (∀ d : Drive,
    (d.forwardContact = true ↔ d.direction = .forward) ∧ (d.reverseContact = true ↔ d.direction = .reverse) ∧
      ¬ (d.forwardContact = true ∧ d.reverseContact = true) ∧
      (d.direction = .stopped → d.speedOutput = some 0) ∧ (d.direction ≠ .stopped → d.speedOutput = d.speed))

/-- R118, R120: CRUSHER_CLEAR. An unknown action is answered REFUSED_RANGE, any state but BLOCKED REFUSED_STATE. RETRY runs the lot
up again with jam count 0, or stops it in safe stop; REJECT counts its mass to the reject skip, reports it, empties the slot,
sends the bin gate to REJECT and the current family to NONE, and the feed evaluation is made. BIN_EMPTIED sets the fill of
LIGHT, FERROUS, HARD or SLUDGE, or the reject mass, to 0, in every state, and makes the feed evaluation; any other value is
answered REFUSED_RANGE. That an unknown action is refused before the state is looked at is the model's, since R118 gives no
order (notes/assumptions/20.md). -/
def Obligations.ClearRequests : Prop :=
  (∀ (tag a : Byte) (s : State), Admits .hall .crusherClear tag [a] s →
    ∃ t, exec (.crusherClear .hall tag [a]) s = .next t ∧
      (a ≠ 1#8 → a ≠ 2#8 → Answered .hall tag .crusherClear .refusedRange [] s s t) ∧
      (a = 1#8 ∨ a = 2#8 → s.crusher.state ≠ .blocked →
        Answered .hall tag .crusherClear .refusedState [] s s t) ∧
      ∀ x m c, s.crusher.state = .blocked → s.crusher.slot = some x → x.lot.content = .chips m c →
        let cleared : CrusherState → State := fun k => { s with
          crusher := { s.crusher with slot := some { x with jams := 0 }, state := k } }
        let u : State := { s with
          crusher := { s.crusher with
            reject := min 65535 (s.crusher.reject + x.lot.mass), slot := none, state := .stopped, family := none }
          drive := { s.drive with binGate := .reject } }
        (a = 1#8 → s.inSafeStop = false → Answered .hall tag .crusherClear .done [] s
          (driveCrusher .forward (some c.speed) (cleared (.runUp (1000 * s.line.tRunUp)))) t) ∧
        (a = 1#8 → s.inSafeStop = true → Answered .hall tag .crusherClear .done [] s
          (driveCrusher .stopped none (cleared .stopped)) t) ∧
        (∀ st, a = 2#8 → x.lot.source = .station st → Answered .hall tag .crusherClear .done [] s
          (feedEvaluation (driveCrusher .stopped none (postStation st .lotRejected { u with
            crusher := { u.crusher with
              lastLots := s.crusher.lastLots.set st (some ⟨x.lot.number, .rejected⟩) } }))) t) ∧
        (a = 2#8 → x.lot.source = .sludge → Answered .hall tag .crusherClear .done [] s
          (feedEvaluation (driveCrusher .stopped none u)) t)) ∧
  (∀ (tag b : Byte) (s : State), Admits .hall .binEmptied tag [b] s →
    let emptied : Fills → Nat → State := fun f r =>
      feedEvaluation { s with crusher := { s.crusher with fills := f, reject := r } }
    let fills := s.crusher.fills
    ∃ t, exec (.binEmptied .hall tag [b]) s = .next t ∧
      (b = 1#8 → Answered .hall tag .binEmptied .done [] s (emptied { fills with light := 0 } s.crusher.reject) t) ∧
      (b = 2#8 → Answered .hall tag .binEmptied .done [] s (emptied { fills with ferrous := 0 } s.crusher.reject) t) ∧
      (b = 3#8 → Answered .hall tag .binEmptied .done [] s (emptied { fills with hard := 0 } s.crusher.reject) t) ∧
      (b = 4#8 → Answered .hall tag .binEmptied .done [] s (emptied { fills with sludge := 0 } s.crusher.reject) t) ∧
      (b = 5#8 → Answered .hall tag .binEmptied .done [] s (emptied fills 0) t) ∧
      (b = 0#8 ∨ 5 < b.toNat → Answered .hall tag .binEmptied .refusedRange [] s s t))

/-! ## Drum filter (R43 to R59) -/

/-- R55: BACKWASH_NOW; R56: INDEX_NOW, by filter state and conditions. -/
def Obligations.FilterRequests : Prop :=
  ∀ (tag : Byte) (s : State),
    let flagged : State := { s with filter := { s.filter with pending := true } }
    (Admits .hall .backwashNow tag [] s → ∃ t, exec (.backwashNow .hall tag []) s = .next t ∧
      (s.filter.state = .filtering → s.filter.troughFull = false → s.inSafeStop = false →
        Answered .hall tag .backwashNow .done [] s (startBackwash s) t) ∧
      (s.filter.state = .filtering → s.filter.troughFull = true ∨ s.inSafeStop = true →
        Answered .hall tag .backwashNow .wait [] s flagged t) ∧
      (∀ x, s.filter.state = .settle x → Answered .hall tag .backwashNow .wait [] s flagged t) ∧
      (∀ x, s.filter.state = .backwash x → Answered .hall tag .backwashNow .busy [] s s t) ∧
      (∀ x y z, s.filter.state = .indexing x y z → Answered .hall tag .backwashNow .busy [] s s t)) ∧
    (Admits .hall .indexNow tag [] s → ∃ t, exec (.indexNow .hall tag []) s = .next t ∧
      (∀ f, s.filter.state = .filtering → s.filter.fleece = some f → 0 < f → s.inSafeStop = false →
        Answered .hall tag .indexNow .done [] s
          { s with
            filter := { s.filter with state := .indexing s.line.lIdx 0 5000 }
            drive := { s.drive with fleeceMotor := true } } t) ∧
      (s.filter.state = .filtering → s.filter.fleece = none ∨ s.filter.fleece = some 0 ∨ s.inSafeStop = true →
        Answered .hall tag .indexNow .refusedState [] s s t) ∧
      (s.filter.state ≠ .filtering → Answered .hall tag .indexNow .busy [] s s t))

/-- R51, R52, R53, R54: the fleece. FLEECE_LOADED sets the remaining, cut to 30000, and a load of 0 ends an index. A pulse in
INDEXING raises the metered length, lowers a known remaining and restarts the stall timer; the one that takes the remaining
below Lwarn posts FLEECE_LOW, the one that takes it to 0 posts FLEECE_OUT and ends the index, and the one that reaches Lidx
completes it. The stall timer abandons the index with FLEECE_STALL. At an end the motor stops, and a pending backwash may
start. -/
def Obligations.Fleece : Prop :=
  ∀ (tag : Byte) (payload : List Byte) (s : State),
    let left : State → State := fun u => tryPendingBackwash { u with
      filter := { u.filter with state := .filtering }, drive := { u.drive with fleeceMotor := false } }
    (Admits .hall .fleeceLoaded tag payload s → ∃ t, exec (.fleeceLoaded .hall tag payload) s = .next t ∧
      let n := min 30000 (u16At payload 0)
      let u : State := { s with filter := { s.filter with fleece := some n } }
      let result : Result := if n = u16At payload 0 then .done else .clamped
      (n = 0 → ∀ x y z, s.filter.state = .indexing x y z →
        Answered .hall tag .fleeceLoaded result (u16 n) s (left u) t) ∧
      (n ≠ 0 ∨ (∀ x y z, s.filter.state ≠ .indexing x y z) →
        Answered .hall tag .fleeceLoaded result (u16 n) s u t)) ∧
    (s.powered = true → ∀ length metered stall, s.filter.state = .indexing length metered stall →
      exec .fleeceStallExpiry s = .next (left (postHall .fleeceStall s)) ∧
      let pulsed : Option Nat → State := fun f => { s with
        filter := { s.filter with state := .indexing length (metered + 1) 5000, fleece := f } }
      (s.filter.fleece = none → length ≤ metered + 1 → exec .fleeceMeterPulse s = .next (left (pulsed none))) ∧
      (s.filter.fleece = none → metered + 1 < length → exec .fleeceMeterPulse s = .next (pulsed none)) ∧
      ∀ n, s.filter.fleece = some n →
        let low : State := if s.line.lWarn ≤ n ∧ n - 1 < s.line.lWarn then
          postHall .fleeceLow (pulsed (some (n - 1))) else pulsed (some (n - 1))
        (n ≤ 1 → exec .fleeceMeterPulse s = .next (left (postHall .fleeceOut low))) ∧
        (1 < n → length ≤ metered + 1 → exec .fleeceMeterPulse s = .next (left low)) ∧
        (1 < n → metered + 1 < length → exec .fleeceMeterPulse s = .next low)) ∧
    (s.powered = true → (∀ x y z, s.filter.state ≠ .indexing x y z) →
      exec .fleeceMeterPulse s = .next s ∧ exec .fleeceStallExpiry s = .next s)

/-- R45 to R50, R31, R160: the timers of the filter sequencer and the start of a backwash. The backwash timer ends the spray, fills
the trough, starts the gap timer and the settle, and posts the sludge request with its displacement and arbitration. The settle
timer leaves the decision to the next DP sample. The gap timer and PENDING_BACKWASH_START start a pending backwash in FILTERING
once the gap has elapsed, the trough is EMPTY and the line is not in safe stop. A backwash starts with the flag clear, the spray
valve opened with its toggle timer and the channel DP copied (DPtrigger before any DP sample), and the figure is recomputed.
That GAP_TIMER_EXPIRY lifts the gap timer to BWgap, and that an expiry acts whatever time is left, is the model's choice
(notes/assumptions/4.md). -/
def Obligations.FilterTimers : Prop :=
  (∀ s : State, s.powered = true →
    let mayStart : Nat → Prop := fun gap => s.filter.state = .filtering ∧ s.filter.pending = true ∧
      1000 * s.line.bwGap ≤ gap ∧ s.filter.troughFull = false ∧ s.inSafeStop = false
    let reached : State := { s with filter := { s.filter with gap := max s.filter.gap (1000 * s.line.bwGap) } }
    (∀ n, s.filter.state = .backwash n → exec .backwashTimerExpiry s = .next (afterRequest .sludge 6 { s with
      filter := { s.filter with state := .settle (some (1000 * s.line.tSettle)), troughFull := true, gap := 0 }
      drive := { s.drive with spray := .off }
      arbiter := { s.arbiter with
        requests := s.arbiter.requests.set .sludge
          (some ⟨.sludge, min s.line.mSludge (4 * s.line.mPocket), 6, .pending⟩) } })) ∧
    ((∀ n, s.filter.state ≠ .backwash n) → exec .backwashTimerExpiry s = .next s) ∧
    (∀ n, s.filter.state = .settle (some n) → exec .settleTimerExpiry s =
      .next { s with filter := { s.filter with state := .settle none } }) ∧
    ((∀ n, s.filter.state ≠ .settle (some n)) → exec .settleTimerExpiry s = .next s) ∧
    (mayStart (max s.filter.gap (1000 * s.line.bwGap)) → exec .gapTimerExpiry s = .next (startBackwash reached)) ∧
    (¬ mayStart (max s.filter.gap (1000 * s.line.bwGap)) → exec .gapTimerExpiry s = .next reached) ∧
    (mayStart s.filter.gap → exec .pendingBackwashStart s = .next (startBackwash s)) ∧
    (¬ mayStart s.filter.gap → exec .pendingBackwashStart s = .next s)) ∧
  (∀ s : State, startBackwash s = recompute { s with
    filter := { s.filter with state := .backwash (1000 * s.line.bwTime), pending := false }
    drive := { s.drive with spray := .on true s.line.tSpray }
    supply := { s.supply with backwashDp := if s.supply.dpMark then s.supply.dp else s.line.dpTrigger } })

/-! ## Profile store (R125 to R137) -/

/-- R22, R102, R127, R132: the read requests, which change nothing. TABLE_READ gives a slot, LOT_READ the lot at a position
(0 the crusher slot), EMPTY where there is none, PROFILE_READ an item's value, and RANGE its limits, its value and its set 0
value, on every port and in every watch state. -/
def Obligations.ReadRequests : Prop :=
  ∀ (tag n : Byte) (s : State),
    (Admits .hall .tableRead tag [n] s → ∃ t, exec (.tableRead .hall tag [n]) s = .next t ∧
      (n = 0#8 ∨ 14 < n.toNat → Answered .hall tag .tableRead .refusedRange [] s s t) ∧
      ∀ sl, slotNumber sl = n.toNat →
        (s.slots.get sl = none → Answered .hall tag .tableRead .done [n, 0, 0, 0, 0, 0, 0, 0] s s t) ∧
        ∀ e, s.slots.get sl = some e → Answered .hall tag .tableRead .done
          [n, 1, byteOf (circuitCode sl), byteOf e.asked, byteOf (e.floor.getD 0), byteOf e.urgency,
            byteOf (entryStateCode e.state), byteOf e.granted] s s t) ∧
    (Admits .hall .lotRead tag [n] s → ∃ t, exec (.lotRead .hall tag [n]) s = .next t ∧
      (16 < n.toNat → Answered .hall tag .lotRead .refusedRange [] s s t) ∧
      (n = 0#8 → s.crusher.slot = none → Answered .hall tag .lotRead .empty [] s s t) ∧
      (∀ x, n = 0#8 → s.crusher.slot = some x →
        Answered .hall tag .lotRead .done (lotBytes 0 x.lot (some (x.remaining, x.jams))) s s t) ∧
      (n ≠ 0#8 → n.toNat ≤ 16 → s.carousel.queue.length < n.toNat →
        Answered .hall tag .lotRead .empty [] s s t) ∧
      (∀ l, n ≠ 0#8 → n.toNat ≤ 16 → s.carousel.queue[n.toNat - 1]? = some l →
        Answered .hall tag .lotRead .done (lotBytes n.toNat l none) s s t)) ∧
    (Admits .hall .profileRead tag [n] s → ∃ t, exec (.profileRead .hall tag [n]) s = .next t ∧
      (itemOfNumber n.toNat = none → Answered .hall tag .profileRead .refusedRange [] s s t) ∧
      (∀ i, itemOfNumber n.toNat = some (.writable i) →
        Answered .hall tag .profileRead .done (n :: i16 (s.store.working.get i)) s s t) ∧
      (n = 104#8 → Answered .hall tag .profileRead .done (n :: i16 4) s s t) ∧
      (n = 105#8 → Answered .hall tag .profileRead .done (n :: i16 3) s s t) ∧
      (n = 176#8 → Answered .hall tag .profileRead .done
        (n :: i16 (setNumberCode s.store.nonVolatile.selector)) s s t)) ∧
    ∀ p, Admits p .range tag [n] s → ∃ t, exec (.range p tag [n]) s = .next t ∧
      (itemOfNumber n.toNat = none →
        Answered p tag .range .done [n, 0, 0, 0, 0, 0, 0, 0, 0, 0] s s t) ∧
      (∀ i, itemOfNumber n.toNat = some (.writable i) → Answered p tag .range .done
        ([n, 1] ++ i16 (itemRange i).least ++ i16 (itemRange i).greatest ++ i16 (s.store.working.get i)
          ++ i16 (factoryProfile.get i)) s s t) ∧
      (n = 104#8 → Answered p tag .range .done ([n, 1] ++ i16 4 ++ i16 4 ++ i16 4 ++ i16 4) s s t) ∧
      (n = 105#8 → Answered p tag .range .done ([n, 1] ++ i16 3 ++ i16 3 ++ i16 3 ++ i16 3) s s t) ∧
      (n = 176#8 → Answered p tag .range .done
        ([n, 1] ++ i16 0 ++ i16 2 ++ i16 (setNumberCode s.store.nonVolatile.selector) ++ i16 0) s s t)

/-- R128, R129, R96: PROFILE_WRITE: no item REFUSED_RANGE, a read-only item REFUSED_KIND, a save in progress BUSY, a broken
order of the clamped value REFUSED_ORDER, N or Mpocket with the carousel not empty BUSY; otherwise the clamped value is stored
and handed to its owner, and the reply carries the item and the value stored. -/
def Obligations.ProfileWrite : Prop :=
  ∀ (tag : Byte) (payload : List Byte) (s : State), Admits .hall .profileWrite tag payload s →
    let number := byteAt payload 0
    let asked := i16At payload 1
    let empty : Prop := s.carousel.queue = [] ∧ (∀ src, ¬ s.isCurrent src) ∧ s.carousel.index = .idle
    ∃ t, exec (.profileWrite .hall tag payload) s = .next t ∧
      (itemOfNumber number = none → Answered .hall tag .profileWrite .refusedRange [] s s t) ∧
      (number = 104 ∨ number = 105 ∨ number = 176 → Answered .hall tag .profileWrite .refusedKind [] s s t) ∧
      ∀ i, itemOfNumber number = some (.writable i) →
        let v := max (itemRange i).least (min asked (itemRange i).greatest)
        let p := s.store.working.set i v
        let ordered : Prop :=
          (number = 2 ∨ number = 3 ∨ number = 4 → p.line.dpClean < p.line.dpTrigger ∧ p.line.dpTrigger < p.line.dpLimit) ∧
          (number = 6 ∨ number = 7 ∨ number = 8 → p.line.lMin < p.line.lLo ∧ p.line.lLo < p.line.lHi)
        let ringItem : Prop := number = 26 ∨ number = 27
        (s.store.save ≠ .idle → Answered .hall tag .profileWrite .busy [] s s t) ∧
        (s.store.save = .idle → ¬ ordered → Answered .hall tag .profileWrite .refusedOrder [] s s t) ∧
        (s.store.save = .idle → ordered → ringItem → ¬ empty →
          Answered .hall tag .profileWrite .busy [] s s t) ∧
        (s.store.save = .idle → ordered → (ringItem → empty) →
          Answered .hall tag .profileWrite (if v = asked then .done else .clamped) (payload.take 1 ++ i16 v) s
            (handOver i { s with store := { s.store with working := p } }) t)

/-- R130: the hand-overs of a stored write, by item number. -/
def Obligations.HandOver : Prop :=
  ∀ (n : Nat) (i : Item) (s : State), itemOfNumber n = some (.writable i) →
    (n = 1 ∨ n = 2 ∨ n = 4 ∨ n = 5 ∨ n = 10 ∨ n = 11 → handOver i s = recompute s) ∧
    (6 ≤ n → n ≤ 9 → handOver i s = recompute (reevaluateBand s)) ∧
    (n = 15 → handOver i s = tryPendingBackwash s) ∧
    (n = 26 ∨ n = 27 → handOver i s = arbitrate s) ∧
    (n = 34 → (s.crusher.slot = none → handOver i s = s) ∧
      ∀ x, s.crusher.slot = some x → handOver i s =
        match x.lot.content with
        | .sludge => s
        | .chips _ _ => { s with
            crusher := { s.crusher with
              slot := some { x with
                jams := if s.crusher.state = .blocked then s.line.nRetry + 1 else min x.jams s.line.nRetry } } }) ∧
    (∀ f, (n = 35 ∧ f = .chip .light) ∨ (n = 36 ∧ f = .chip .ferrous) ∨ (n = 37 ∧ f = .chip .hard) ∨
        (n = 38 ∧ f = .sludge) →
      ((∃ l, s.carousel.requested = true ∧ s.carousel.index = .idle ∧
          s.crusher.awaited.bind s.queuedLot = some l ∧ l.family = f ∧ s.line.cBin f ≤ s.crusher.fills.get f) →
        handOver i s = arbitrate (feedEvaluation { s with
          carousel := { s.carousel with requested := false }, crusher := { s.crusher with awaited := none } })) ∧
      ((¬ ∃ l, s.carousel.requested = true ∧ s.carousel.index = .idle ∧
          s.crusher.awaited.bind s.queuedLot = some l ∧ l.family = f ∧ s.line.cBin f ≤ s.crusher.fills.get f) →
        handOver i s = feedEvaluation s)) ∧
    (∀ st, n = 47 + 4 * stationNumber st →
      let w := s.watches.get st
      let items := s.store.working.stations.get st
      let u : State := { s with
        watches := s.watches.set st
          ⟨.live, w.phase, if items.watchEnabled then some (250 * 2 ^ items.keepExponent) else none⟩ }
      handOver i s = if w.state = .lapsed then returnStation st u else u) ∧
    (∀ k, n = 87 + hallKindNumber k → handOver i s =
      if s.store.working.levels.get k = 0 then
        { s with events := { s.events with hall := s.events.hall.set k false } } else s) ∧
    (n = 3 ∨ n = 12 ∨ n = 13 ∨ n = 14 ∨ (16 ≤ n ∧ n ≤ 25) ∨ (28 ≤ n ∧ n ≤ 33) ∨ (39 ≤ n ∧ n ≤ 41) ∨
        (48 ≤ n ∧ n ≤ 71 ∧ n % 4 ≠ 3) ∨ (72 ≤ n ∧ n ≤ 85) ∨ 112 ≤ n → handOver i s = s)

/-- R134: PROFILE_LOAD: a set above 2 REFUSED_RANGE, a save in progress BUSY, another N or Mpocket with the carousel not empty
BUSY; otherwise the working copy becomes the set, and each owner acts once. The owners' order is the model's
choice (notes/assumptions/8.md). -/
def Obligations.ProfileLoad : Prop :=
  ∀ (tag n : Byte) (s : State), Admits .hall .profileLoad tag [n] s →
    let empty : Prop := s.carousel.queue = [] ∧ (∀ src, ¬ s.isCurrent src) ∧ s.carousel.index = .idle
    let old := s.line
    ∃ t, exec (.profileLoad .hall tag [n]) s = .next t ∧
      (2 < n.toNat → Answered .hall tag .profileLoad .refusedRange [] s s t) ∧
      (n.toNat ≤ 2 → s.store.save ≠ .idle → Answered .hall tag .profileLoad .busy [] s s t) ∧
      ∀ p, s.store.save = .idle →
        ((n = 0#8 ∧ p = factoryProfile) ∨ (n = 1#8 ∧ p = s.store.nonVolatile.set1) ∨
          (n = 2#8 ∧ p = s.store.nonVolatile.set2)) →
        let ringSame : Prop := p.line.inService = old.inService ∧ p.line.mPocket = old.mPocket
        let edgesSame : Prop := p.line.lMin = old.lMin ∧ p.line.lLo = old.lLo ∧ p.line.lHi = old.lHi ∧
          p.line.hyst = old.hyst
        let u0 : State := { s with store := { s.store with working := p } }
        let u1 := recompute (if edgesSame then u0 else reevaluateBand u0)
        let u2 := tryPendingBackwash u1
        let u3 := if ringSame then u2 else arbitrate u2
        let u4 := capacitiesWritten [.chip .light, .chip .ferrous, .chip .hard, .sludge] (retryLimitWritten u3)
        let u5 := allStations.foldl (fun u st => applyWatch st u) u4
        let u6 := allHallKinds.foldl (fun u k => levelWritten k u) u5
        (¬ ringSame → ¬ empty → Answered .hall tag .profileLoad .busy [] s s t) ∧
        ((ringSame ∨ empty) → Answered .hall tag .profileLoad .done [] s u6 t ∧
          t.store = { s.store with working := p } ∧ ∀ st, (t.watches.get st).state = .live)

/-- R135, R136: PROFILE_SAVE: a set above 2 REFUSED_RANGE, a save in progress BUSY, set 0 the selector alone, 1 and 2 a save of
the working copy as it stands, to be made in 400 ms. The save timer replaces the set as a whole, sets the selector to it,
and posts PROFILE_SAVED. That a set above 2 is refused before a save in progress is looked at is the model's, since R135 gives no
order (notes/assumptions/20.md). -/
def Obligations.ProfileSave : Prop :=
  (∀ (tag n : Byte) (s : State), Admits .hall .profileSave tag [n] s →
    let saving : UserSet → State := fun k => { s with
      store := { s.store with save := .saving k s.store.working 400 } }
    ∃ t, exec (.profileSave .hall tag [n]) s = .next t ∧
      (2 < n.toNat → Answered .hall tag .profileSave .refusedRange [] s s t) ∧
      (n.toNat ≤ 2 → s.store.save ≠ .idle → Answered .hall tag .profileSave .busy [] s s t) ∧
      (n = 0#8 → s.store.save = .idle → Answered .hall tag .profileSave .done [] s { s with
        store := { s.store with nonVolatile := { s.store.nonVolatile with selector := .set0 } } } t) ∧
      (n = 1#8 → s.store.save = .idle → Answered .hall tag .profileSave .done [] s (saving .set1) t) ∧
      (n = 2#8 → s.store.save = .idle → Answered .hall tag .profileSave .done [] s (saving .set2) t)) ∧
  ∀ s : State, s.powered = true →
    (s.store.save = .idle → exec .saveTimerExpiry s = .next s) ∧
    ∀ k p left, s.store.save = .saving k p left →
      let nv := s.store.nonVolatile
      exec .saveTimerExpiry s = .next (postHall .profileSaved { s with
        store := { s.store with
          save := .idle
          nonVolatile := match k with
            | .set1 => { nv with set1 := p, selector := .set1 }
            | .set2 => { nv with set2 := p, selector := .set2 } } })

/-! ## Clean supply and conversions (R25 to R42, R138 to R141) -/

/-- R138 to R141, R26 to R29, R34: a completed conversion. A raw code of 0 or 4095 is a faulted sample; any other is corrected
by 4 counts for each unit of the calibration taken at its start, cut to 0 to 4095, and scaled. The supply unit takes the sample
and recomputes, a DP sample goes on to the filter, and the next conversion starts on the other channel with its calibration.
That the DP sample reaches the filter after the recomputation (R31 lets either come first) and that the raw code is an operand
are the model's choices (notes/assumptions/10.md and 5.md). -/
def Obligations.Conversions : Prop :=
  ∀ (raw : BitVec 12) (s : State), s.powered = true →
    let good : Prop := raw ≠ 0#12 ∧ raw ≠ 4095#12
    let code := (max 0 (min 4095 ((raw.toNat : Int) + 4 * s.measure.conversion.calibration))).toNat
    let sup := s.supply
    let after : Analog → Int → State → State := fun c k u => { u with
      measure := { u.measure with conversion := ⟨c, k, 0⟩ } }
    let faulted : State → Nat → State := fun u n => if n = 0 then postHall .sensorFault u else u
    (s.measure.conversion.channel = .dp →
      (good → exec (.conversionCompletion raw) s = .next (after .level s.line.levelCal
        (filterDpSample (recompute { s with
          supply := { sup with dp := code * 1000 / 4096, dpFaults := 0, dpMark := true } })))) ∧
      (¬ good → ∀ n, n = (if sup.dpMark = false ∧ sup.dpFaults = 0 then 21 else min 21 (sup.dpFaults + 1)) →
        exec (.conversionCompletion raw) s = .next (after .level s.line.levelCal
          (filterDpSample (recompute (faulted { s with
            supply := { sup with
              dp := if n = 21 then s.line.dpTrigger else sup.dp, dpFaults := n, dpMark := true } } sup.dpFaults)))))) ∧
    (s.measure.conversion.channel = .level →
      (good → ∀ b, b = (match sup.band with
            | none => firstBand s.line (code * s.line.lFull / 4096)
            | some x => bandFrom s.line (code * s.line.lFull / 4096) (if 21 ≤ sup.levelFaults then .low else x)) →
        let u : State := { s with
          supply := { sup with
            level := code * s.line.lFull / 4096, levelFaults := 0, levelMark := true, band := some b } }
        exec (.conversionCompletion raw) s = .next (after .dp s.line.dpCal (recompute
          (if b = .critical ∧ sup.band ≠ some .critical then postHall .levelCritical u else u)))) ∧
      (¬ good → ∀ n, n = (if sup.band = none ∧ sup.levelFaults = 0 then 21 else min 21 (sup.levelFaults + 1)) →
        exec (.conversionCompletion raw) s = .next (after .dp s.line.dpCal (recompute (faulted { s with
          supply := { sup with
            band := if n = 21 then some .low else sup.band, levelFaults := n, levelMark := true } }
          sup.levelFaults)))))

/-- R32, R37: the level bands. An evaluation moves down to the band of the edges where that is lower, and otherwise up only to
a band whose edge the level passes by H; a re-evaluation is made only with the band set and the LEVEL channel GOOD. -/
def Obligations.LevelBands : Prop :=
  ∀ (l : LineParams) (level : Nat) (b : Band), l.lMin < l.lLo → l.lLo < l.lHi →
    let rank : Band → Nat := fun x => match x with | .critical => 0 | .low => 1 | .normal => 2 | .high => 3
    let first := firstBand l level
    let raised := firstBand { l with lMin := l.lMin + l.hyst, lLo := l.lLo + l.hyst, lHi := l.lHi + l.hyst } level
    (first = .critical ↔ level < l.lMin) ∧ (first = .low ↔ l.lMin ≤ level ∧ level < l.lLo) ∧
      (first = .normal ↔ l.lLo ≤ level ∧ level < l.lHi) ∧ (first = .high ↔ l.lHi ≤ level) ∧
      (rank first < rank b → bandFrom l level b = first) ∧
      (rank b ≤ rank first → rank raised ≤ rank b → bandFrom l level b = b) ∧
      (rank b ≤ rank first → rank b < rank raised → bandFrom l level b = raised) ∧
      ∀ s : State, (s.supply.band = none ∨ s.supply.levelFaults ≠ 0 → reevaluateBand s = s) ∧
        ∀ x, s.supply.band = some x → s.supply.levelFaults = 0 →
          let y := bandFrom s.line s.supply.level x
          let u : State := { s with supply := { s.supply with band := some y } }
          reevaluateBand s = if y = .critical ∧ x ≠ .critical then postHall .levelCritical u else u

/-- R30, R33, R35, R36, R38, R40: a recomputation. Before both first samples it does nothing. Then the figure is formed from the
capacity DP (the copied one in BACKWASH and SETTLE, less the part kept), the band and Pmax, and is 0 in safe stop. A fall is
published at once, a rise from S on, and a publication runs the pass within it. -/
def Obligations.Publication : Prop :=
  ∀ s : State,
    (s.supply.dpMark = false ∨ s.supply.levelMark = false ∨ s.supply.band = none →
      figureBand s = none ∧ recompute s = s) ∧
    (s.supply.dpMark = true → s.supply.levelMark = true → ∀ b, s.supply.band = some b →
      ∀ keeps : Bool, (keeps = true ↔ (∃ n, s.filter.state = .backwash n) ∨ ∃ n, s.filter.state = .settle n) →
      let l := s.line
      let dp := if keeps then s.supply.backwashDp else s.supply.dp
      let cf := if dp ≤ l.dpClean then l.crated else if l.dpLimit ≤ dp then 0
        else l.crated * (l.dpLimit - dp) / (l.dpLimit - l.dpClean)
      let kept := if keeps then cf * l.bwKeep / 16 else cf
      let adjusted := match b with
        | .high => kept + l.bMax
        | .normal => kept
        | .low => kept - l.bMax
        | .critical => 0
      let figure := if s.inSafeStop then 0 else min adjusted l.pMax
      figureBand s = some b ∧ newFigure s b = figure ∧
      (s.supply.published ≤ figure → figure < s.supply.published + l.supplyStep → recompute s = s) ∧
      (figure < s.supply.published ∨ s.supply.published + l.supplyStep ≤ figure →
        Passed s.slots (passTable figure s.slots) s (recompute s) ∧
          recompute s = { s with
            supply := { s.supply with published := figure }, slots := (recompute s).slots,
            drive := (recompute s).drive, events := (recompute s).events }))

/-- R44, R45, R50: the DP sample at the filter sequencer. In FILTERING a DP at or above DPtrigger on a channel not DEGRADED
starts a backwash, or defers it with BACKWASH_DEFERRED posted once. A settle whose time has run out decides: safe stop, the
pending backwash, a DEGRADED channel, then the fleece index at DPindex or above, or FLEECE_OUT with no fleece left. In every
other state the sample does nothing. That a settle which ends in a pending backwash recomputes on the passage to FILTERING and
again at the start is the model's choice (notes/assumptions/10.md). -/
def Obligations.FilterSample : Prop :=
  ∀ s : State,
    let may : Prop := 1000 * s.line.bwGap ≤ s.filter.gap ∧ s.filter.troughFull = false
    let left : State := recompute { s with filter := { s.filter with state := .filtering } }
    (s.filter.state = .filtering →
      let triggered : Prop := s.line.dpTrigger ≤ s.supply.dp ∧ s.supply.dpFaults < 21
      (¬ triggered → filterDpSample s = s) ∧
      (triggered → may → s.inSafeStop = false → filterDpSample s = startBackwash s) ∧
      (triggered → ¬ (may ∧ s.inSafeStop = false) → s.filter.pending = true → filterDpSample s = s) ∧
      (triggered → ¬ (may ∧ s.inSafeStop = false) → s.filter.pending = false →
        filterDpSample s = postHall .backwashDeferred { s with filter := { s.filter with pending := true } })) ∧
    (s.filter.state = .settle none →
      (s.inSafeStop = true → filterDpSample s = left) ∧
      (s.inSafeStop = false → s.filter.pending = true → may → filterDpSample s = startBackwash left) ∧
      (s.inSafeStop = false → ¬ (s.filter.pending = true ∧ may) →
        (21 ≤ s.supply.dpFaults → filterDpSample s = left) ∧
        (s.supply.dpFaults < 21 → s.supply.dp < s.line.dpIndex → filterDpSample s = left) ∧
        (s.supply.dpFaults < 21 → s.line.dpIndex ≤ s.supply.dp → s.filter.fleece = some 0 →
          filterDpSample s = postHall .fleeceOut left) ∧
        (s.supply.dpFaults < 21 → s.line.dpIndex ≤ s.supply.dp → s.filter.fleece ≠ some 0 →
          filterDpSample s = recompute { s with
            filter := { s.filter with state := .indexing s.line.lIdx 0 5000 }
            drive := { s.drive with fleeceMotor := true } }))) ∧
    ((∃ n, s.filter.state = .backwash n) ∨ (∃ n, s.filter.state = .settle (some n)) ∨
        (∃ x y z, s.filter.state = .indexing x y z) → filterDpSample s = s)

/-! ## Valves and spray (R152 to R160) -/

/-- R155, R156, R160: a period end loads every staged reduction, or, with no reduction staged anywhere, every held increase,
switches on each output with a duty above 0 and starts the next period. Where each pending change stands on its side of the
applied duty, no channel rises while another falls. An output goes off after its applied duty unless that is 1000. The
spray toggle changes the valve's position and starts again; the spray valve is CLOSED while its channel is OFF. -/
def Obligations.ValveOutputs : Prop :=
  ∀ s : State, s.powered = true →
    let before : Slot → Channel := fun sl => s.drive.channels.get sl
    (∃ t, exec .periodEnd s = .next t ∧
      t = { s with drive := { s.drive with channels := t.drive.channels, periodLeft := 1000 } } ∧
      let now : Slot → Channel := fun sl => t.drive.channels.get sl
      let staged : Prop := ∃ x d, (before x).pending = some (.reduction d)
      (∀ sl, (now sl).output = decide (0 < (now sl).applied)) ∧
      (∀ sl d, (before sl).pending = some (.reduction d) → (now sl).applied = d ∧ (now sl).pending = none) ∧
      (∀ sl d, (before sl).pending = some (.increase d) →
        (staged → (now sl).applied = (before sl).applied ∧ (now sl).pending = (before sl).pending) ∧
        (¬ staged → (now sl).applied = d ∧ (now sl).pending = none)) ∧
      (∀ sl, (before sl).pending = none → (now sl).applied = (before sl).applied ∧ (now sl).pending = none) ∧
      ((∀ sl, ChannelFits (before sl)) →
        ∀ x y, (before x).applied < (now x).applied → (before y).applied ≤ (now y).applied)) ∧
    (∀ sl, ((before sl).applied < 1000 → exec (.appliedDutyElapsed sl) s = .next { s with
        drive := { s.drive with channels := s.drive.channels.set sl { before sl with output := false } } }) ∧
      (1000 ≤ (before sl).applied → exec (.appliedDutyElapsed sl) s = .next s)) ∧
    (s.drive.spray = .off → s.drive.sprayValveOpen = false ∧ exec .sprayToggleExpiry s = .next s) ∧
    ∀ b n, s.drive.spray = .on b n → s.drive.sprayValveOpen = b ∧ exec .sprayToggleExpiry s = .next { s with
      drive := { s.drive with spray := .on (!b) s.line.tSpray } }

/-! ## Field supply, safe stop and restart (R147 to R150, R173 to R176) -/

/-- R147, R148, R149, R173: the field-supply monitor and the stop causes. A fall starts the ride-through, or fails a recovery; a
return ends it, or starts the recovery. The dip timer adds FIELD_SUPPLY and the recovery timer removes it; LINE_STOP and
LINE_RESUME do the same with HALL. The first cause added enters safe stop, the last one removed leaves it, and each addition
alone sets the last cause. -/
def Obligations.StopCauses : Prop :=
  ∀ (s : State) (v : Nat) (tag : Byte),
    let monitor : Monitor → Bool → State := fun m good => { s with
      measure := { s.measure with monitor := m, supplyGood := good } }
    let failed := monitor .failed s.measure.supplyGood
    let well := monitor .good s.measure.supplyGood
    let stop : Machine.StopCauses → State → State := fun c u => { u with stop := c }
    (s.powered = true → v < 190 → s.measure.supplyGood = true →
      (s.measure.monitor = .good → exec (.fieldSupplyFall v) s = .next (monitor (.dip 80) false)) ∧
      (∀ n, s.measure.monitor = .recovering n → exec (.fieldSupplyFall v) s = .next (monitor .failed false))) ∧
    (s.powered = true → v < 190 → s.measure.supplyGood = false → exec (.fieldSupplyFall v) s = .next s) ∧
    (s.powered = true → 200 ≤ v → s.measure.supplyGood = false →
      (∀ n, s.measure.monitor = .dip n → exec (.fieldSupplyReturn v) s = .next (monitor .good true)) ∧
      (s.measure.monitor = .failed → exec (.fieldSupplyReturn v) s = .next (monitor (.recovering 2000) true))) ∧
    (s.powered = true → 200 ≤ v → s.measure.supplyGood = true → exec (.fieldSupplyReturn v) s = .next s) ∧
    (s.powered = true → (∀ n, s.measure.monitor ≠ .dip n) → exec .dipTimerExpiry s = .next s) ∧
    (s.powered = true → (∀ n, s.measure.monitor ≠ .recovering n) → exec .recoveryTimerExpiry s = .next s) ∧
    (s.powered = true → ∀ n, s.measure.monitor = .dip n →
      (s.stop.fieldSupply = true → exec .dipTimerExpiry s = .next failed) ∧
      (s.stop.fieldSupply = false → s.stop.hall = true →
        exec .dipTimerExpiry s = .next (stop ⟨true, true, some .fieldSupply⟩ failed)) ∧
      (s.stop.fieldSupply = false → s.stop.hall = false →
        exec .dipTimerExpiry s = .next (enterSafeStop (stop ⟨true, false, some .fieldSupply⟩ failed)))) ∧
    (s.powered = true → ∀ n, s.measure.monitor = .recovering n →
      (s.stop.fieldSupply = false → exec .recoveryTimerExpiry s = .next well) ∧
      (s.stop.fieldSupply = true → s.stop.hall = true →
        exec .recoveryTimerExpiry s = .next (stop ⟨false, true, s.stop.last⟩ well)) ∧
      (s.stop.fieldSupply = true → s.stop.hall = false →
        exec .recoveryTimerExpiry s = .next (exitSafeStop (stop ⟨false, false, s.stop.last⟩ well)))) ∧
    (Admits .hall .lineStop tag [] s → ∃ t, exec (.lineStop .hall tag []) s = .next t ∧
      (s.stop.hall = true → Answered .hall tag .lineStop .done [] s s t) ∧
      (s.stop.hall = false → s.stop.fieldSupply = true →
        Answered .hall tag .lineStop .done [] s (stop ⟨true, true, some .hall⟩ s) t) ∧
      (s.stop.hall = false → s.stop.fieldSupply = false →
        Answered .hall tag .lineStop .done [] s (enterSafeStop (stop ⟨false, true, some .hall⟩ s)) t)) ∧
    (Admits .hall .lineResume tag [] s → ∃ t, exec (.lineResume .hall tag []) s = .next t ∧
      (s.stop.hall = false → Answered .hall tag .lineResume .done [] s s t) ∧
      (s.stop.hall = true → s.stop.fieldSupply = true →
        Answered .hall tag .lineResume .done [] s (stop ⟨true, false, s.stop.last⟩ s) t) ∧
      (s.stop.hall = true → s.stop.fieldSupply = false →
        Answered .hall tag .lineResume .done [] s (exitSafeStop (stop ⟨false, false, s.stop.last⟩ s)) t))

/-- R174, R39, R57, R75, R78, R100, R121, R157, R162: the entry into safe stop, a cause being present. SAFE_STOP is posted unless
its level is 0, the figure is 0, no entry holds flow, and every valve is shut with nothing pending. An offer goes back to PENDING
with OFFER_WITHDRAWN posted. An open gate is closed and its discharge finalised CUT_SHORT: its lot joins the queue, a station's
outcome is kept as its late report, and source 7's trough becomes EMPTY. A step in motion is suspended, the crusher stands STOPPED
(or BLOCKED) with its slot kept, and a backwash or a fleece index is abandoned, the backwash leaving its flag. The table is what
the pass on 0 makes of it, asked flows, floors and urgencies included, and GRANT_CHANGED is posted on each station port whose
grants it changes (R20, R24). Everything else stays, and no other event is posted. The order of the blocks is the model's choice
(notes/assumptions/7.md). -/
def Obligations.SafeStopEntry : Prop :=
  ∀ s : State, s.inSafeStop = true → (∀ a b, s.isCurrent a → s.isCurrent b → a = b) →
    (∀ sl e, s.slots.get sl = some e → e.state = .suspended → e.granted = 0) →
    let t := enterSafeStop s
    t.stop = s.stop ∧ t.store = s.store ∧ t.ports = s.ports ∧ t.watches = s.watches ∧
      t.powered = s.powered ∧ t.pending = s.pending ∧ t.ties = s.ties ∧
      (∀ k, t.events.hall.get k = (s.events.hall.get k ||
        (decide (k = .safeStop) && decide (s.store.working.levels.get .safeStop ≠ 0)))) ∧
      (∀ st k, k ≠ .grantChanged → k ≠ .offerWithdrawn → (t.stationSet st).get k = (s.stationSet st).get k) ∧
      t.slots = passTable 0 s.slots ∧
      (∀ st, (t.stationSet st).get .grantChanged =
        ((s.stationSet st).get .grantChanged || grantsDiffer s.slots (passTable 0 s.slots) st)) ∧
      t.supply = { s.supply with published := 0 } ∧
      (∀ sl, grantOf (t.slots.get sl) = 0 ∧ (t.slots.get sl).isSome = (s.slots.get sl).isSome) ∧
      (∀ sl, t.drive.channels.get sl = ⟨0, none, false⟩) ∧ (∀ src, ¬ t.isCurrent src) ∧
      (∀ src, s.request src = none → t.request src = none) ∧
      (∀ src r, s.request src = some r → r.state = .pending → t.request src = some r) ∧
      (∀ src r k w, s.request src = some r → r.state = .offered k w →
        t.request src = some { r with state := .pending } ∧
          ∀ st, src = .station st → (t.stationSet st).get .offerWithdrawn = true) ∧
      (∀ st, (∀ r k w, s.request (.station st) = some r → r.state ≠ .offered k w) →
        (t.stationSet st).get .offerWithdrawn = (s.stationSet st).get .offerWithdrawn) ∧
      (∀ src r k g d, s.request src = some r → r.state = .opened k g d →
        let f := finalise src r k .cutShort s
        t.request src = none ∧ t.carousel.queue = f.1.carousel.queue ∧ t.carousel.counter = f.1.carousel.counter ∧
          ∀ st, src = .station st → t.arbiter.late.get st = some f.2) ∧
      ((∀ src, s.isOpen src = false) →
        t.carousel.queue = s.carousel.queue ∧ t.carousel.counter = s.carousel.counter) ∧
      (∀ st, s.isOpen (.station st) = false → t.arbiter.late.get st = s.arbiter.late.get st) ∧
      (∀ src, t.gateOpen src = (s.gateOpen src && !s.isOpen src)) ∧
      t.measure = { s.measure with
        chute := t.measure.chute, shaft := if s.drive.direction = .stopped then s.measure.shaft else .idle } ∧
      t.measure.chute =
        { s.measure.chute with enabled := s.measure.chute.enabled && allSources.all (fun src => !s.isOpen src) } ∧
      (∀ n x, s.carousel.index = .indexing n x → t.carousel.index = .suspended n false ∧ t.drive.step = false) ∧
      ((∀ n x, s.carousel.index ≠ .indexing n x) →
        t.carousel.index = s.carousel.index ∧ t.drive.step = s.drive.step) ∧
      t.carousel.mode = s.carousel.mode ∧ t.carousel.survey = s.carousel.survey ∧
      t.carousel.requested = s.carousel.requested ∧
      t.crusher = { s.crusher with
        state := if s.crusher.state = .blocked then .blocked else .stopped
        stallCount := if s.crusher.state = .crushing then 0 else s.crusher.stallCount } ∧
      t.drive.direction = .stopped ∧ t.drive.speed = s.drive.speed ∧ t.drive.binGate = s.drive.binGate ∧
      t.drive.flap = s.drive.flap ∧ t.drive.periodLeft = s.drive.periodLeft ∧
      t.filter.gap = s.filter.gap ∧ t.filter.fleece = s.filter.fleece ∧
      t.filter.troughFull = (s.filter.troughFull && !s.isOpen .sludge) ∧
      (∀ n, s.filter.state = .backwash n →
        t.filter.state = .filtering ∧ t.filter.pending = true ∧ t.drive.spray = .off) ∧
      ((∀ n, s.filter.state ≠ .backwash n) → t.filter.pending = s.filter.pending ∧ t.drive.spray = s.drive.spray) ∧
      (∀ x y z, s.filter.state = .indexing x y z → t.filter.state = .filtering ∧ t.drive.fleeceMotor = false) ∧
      ((∀ x y z, s.filter.state ≠ .indexing x y z) → t.drive.fleeceMotor = s.drive.fleeceMotor) ∧
      (s.filter.state = .filtering ∨ (∃ n, s.filter.state = .settle n) → t.filter.state = s.filter.state)

/-- R174, R39, R57, R78, R100, R122: the exit from safe stop, the set being empty: the figure is recomputed, the arbiter
arbitrates, a suspended index makes its steps left or completes, the crusher passes its sludge lot through, runs up for its lot
or for the lot it awaits, or makes the feed evaluation, and a pending backwash starts when it may. The order is the model's
choice (notes/assumptions/7.md). -/
def Obligations.SafeStopExit : Prop :=
  ∀ s : State,
    exitSafeStop s = tryPendingBackwash (crusherGoOn (carouselStopExit (arbitrate (recompute s)))) ∧
    (∀ n b, s.carousel.index = .suspended n b → n ≠ 0 → carouselStopExit s = { s with
      carousel := { s.carousel with index := .indexing n (2000 * s.line.tIdx) }
      drive := { s.drive with step := true } }) ∧
    (∀ b, s.carousel.index = .suspended 0 b → s.carousel.survey = .flushing → carouselStopExit s = arbitrate { s with
      carousel := { s.carousel with index := .idle, survey := .surveyed }
      drive := { s.drive with flap := .crusher } }) ∧
    (∀ b l rest, s.carousel.index = .suspended 0 b → s.carousel.survey ≠ .flushing → s.carousel.queue = l :: rest →
      carouselStopExit s = arbitrate (feedEvaluation (lotArrives l { s with
        carousel := { s.carousel with queue := rest, requested := false, index := .idle } }))) ∧
    (s.carousel.index = .idle → carouselStopExit s = tryIndexStart s) ∧
    (∀ n, s.carousel.index = .faulted n → carouselStopExit s = s) ∧
    (s.crusher.state = .stopped →
      (∀ x m c, s.crusher.slot = some x → x.lot.content = .chips m c →
        crusherGoOn s = driveCrusher .forward (some c.speed)
          { s with crusher := { s.crusher with state := .runUp (1000 * s.line.tRunUp) } }) ∧
      (∀ x, s.crusher.slot = some x → x.lot.content = .sludge →
        crusherGoOn s = driveCrusher .stopped none { s with crusher := { s.crusher with state := .passThrough } }) ∧
      (∀ n l m c, s.crusher.slot = none → s.crusher.awaited = some n → s.queuedLot n = some l →
        l.content = .chips m c → crusherGoOn s = driveCrusher .forward (some c.speed)
          { s with crusher := { s.crusher with state := .runUp (1000 * s.line.tRunUp) } }) ∧
      (∀ n l, s.crusher.slot = none → s.crusher.awaited = some n → s.queuedLot n = some l →
        l.content = .sludge → crusherGoOn s = s) ∧
      (s.crusher.slot = none → s.crusher.awaited = none → crusherGoOn s = feedEvaluation s)) ∧
    (s.crusher.state ≠ .stopped → crusherGoOn s = s)

/-- R176, R41, R45, R58, R79, R101, R123, R177: LINE_RESTART, in every state, answered DONE after its effects. Every watch is LOST,
every slot empty, every station request and late report gone and an open gate finalised; the mode is RUN, an index request not
started is withdrawn, and the discard counts are 0. A backwash or a fleece index is abandoned and a trough still FULL posts its
request again: sludge, urgency 6, Msludge cut to 4 × Mpocket. The backwash-pending flag is kept, but where the restart has emptied
the trough or ended an index the pending backwash starts within it when it may. The crusher is STOPPED, or stays BLOCKED, with
stall count 0, no bin wait and its slot kept. The figure is published, or 0 before the first, and every channel is to be reduced
to 0. The shaft window is abandoned with the drive, and the chute counter stops with its gate; converter, INDEX sensor and
field-supply monitor run on, and bin gate, sludge flap, step output and period timer are kept. From that state, with its event
sets empty, the arbiter arbitrates, which may open the dump valve, and out of safe stop the crusher goes on as at the exit. Events
other than BIN_FULL are gone; store and stop causes stay, and so do the lots, but for the stage of one whose index then starts.
The order, the start within the restart (notes/assumptions/9.md) and the reply in the same step with its 2 ms
(notes/assumptions/11.md) are the model's. -/
def Obligations.LineRestart : Prop :=
  ∀ (tag : Byte) (s : State),
    let bare : LotRecord → LotRecord := fun l => { l with stage := .queued }
    Admits .hall .lineRestart tag [] s → (∀ a b, s.isCurrent a → s.isCurrent b → a = b) →
    ∃ t, exec (.lineRestart .hall tag []) s = .next t ∧
      (∀ r, r = (⟨15#8, tag, 0x92#8, .done, attention .hall t, true, s.inSafeStop, []⟩ : Reply) →
        ∀ rx, rx = (if (s.ports.get .hall).held = none then RxState.hunting else (s.ports.get .hall).rx) →
        t.ports.get .hall = ⟨rx, none, (s.ports.get .hall).owed, 0, some ⟨r, 2⟩⟩) ∧
      (∀ q, q ≠ .hall → t.ports.get q = { s.ports.get q with discards := 0 }) ∧
      t.powered = true ∧ t.store = s.store ∧ t.stop = s.stop ∧ t.pending = s.pending ∧ t.ties = s.ties ∧
      (∀ st, t.watches.get st = ⟨.lost, none, none⟩ ∧ t.request (.station st) = none ∧
        t.arbiter.late.get st = none ∧
        t.drive.gates.get st = (s.drive.gates.get st && !s.isOpen (.station st))) ∧
      (∀ sl, t.slots.get sl = none) ∧
      (∀ st k, (t.stationSet st).get k = false) ∧ (∀ k, k ≠ .binFull → t.events.hall.get k = false) ∧
      t.carousel.mode = .run ∧ t.carousel.survey = s.carousel.survey ∧
      ((∀ src, s.isOpen src = false) →
        t.carousel.queue.map bare = s.carousel.queue.map bare ∧ t.carousel.counter = s.carousel.counter) ∧
      (∀ src r k g d, s.request src = some r → r.state = .opened k g d →
        t.carousel.queue.map bare = (finalise src r k .cutShort s).1.carousel.queue.map bare ∧
          t.carousel.counter = (finalise src r k .cutShort s).1.carousel.counter) ∧
      t.filter.troughFull = (s.filter.troughFull && !s.isOpen .sludge) ∧
      (t.request .sludge ≠ none ↔ t.filter.troughFull = true) ∧
      (∀ n, s.filter.state = .backwash n →
        t.filter = { s.filter with
          state := .settle (some (1000 * s.line.tSettle)), troughFull := t.filter.troughFull } ∧
          t.drive.spray = .off) ∧
      (∀ n, s.filter.state = .settle n → t.filter = { s.filter with troughFull := t.filter.troughFull }) ∧
      (∀ x y z, s.filter.state = .indexing x y z → t.drive.fleeceMotor = false) ∧
      ((∀ x y z, s.filter.state ≠ .indexing x y z) → t.drive.fleeceMotor = s.drive.fleeceMotor) ∧
      ((∃ n, s.filter.state = .settle n) → t.drive.spray = s.drive.spray) ∧
      (s.filter.state = .filtering ∨ (∃ x y z, s.filter.state = .indexing x y z) →
        let starts : Prop := s.filter.pending = true ∧ 1000 * s.line.bwGap ≤ s.filter.gap ∧ s.inSafeStop = false ∧
          t.filter.troughFull = false ∧ (s.filter.state = .filtering → s.filter.troughFull = true)
        (starts → t.filter = { s.filter with
            state := .backwash (1000 * s.line.bwTime), pending := false, troughFull := false } ∧
          t.drive.spray = .on true s.line.tSpray ∧
          t.supply.backwashDp = if s.supply.dpMark then s.supply.dp else s.line.dpTrigger) ∧
        (¬ starts → t.filter = { s.filter with state := .filtering, troughFull := t.filter.troughFull } ∧
          t.drive.spray = s.drive.spray ∧ t.supply.backwashDp = s.supply.backwashDp)) ∧
      ((∃ n, s.filter.state = .backwash n) ∨ (∃ n, s.filter.state = .settle n) →
        t.supply.backwashDp = s.supply.backwashDp) ∧
      t.supply = { s.supply with
        backwashDp := t.supply.backwashDp
        published := match figureBand t with | none => 0 | some b => newFigure t b } ∧
      (∀ sl, t.drive.channels.get sl = { s.drive.channels.get sl with
        pending := if 0 < (s.drive.channels.get sl).applied then some (.reduction 0) else none }) ∧
      t.crusher.slot = s.crusher.slot ∧
      t.measure.conversion = s.measure.conversion ∧ t.measure.sensor = s.measure.sensor ∧
      t.measure.monitor = s.measure.monitor ∧ t.measure.supplyGood = s.measure.supplyGood ∧
      t.measure.chute = (if t.isOpen .sludge then ⟨0, true⟩ else
        { s.measure.chute with enabled := s.measure.chute.enabled && allSources.all (fun src => !s.isOpen src) }) ∧
      t.drive.dumpValve = (t.isOpen .sludge || (s.drive.dumpValve && !s.isOpen .sludge)) ∧
      t.drive.binGate = s.drive.binGate ∧ t.drive.periodLeft = s.drive.periodLeft ∧
      (s.inSafeStop = true → t.drive.flap = s.drive.flap ∧ t.drive.step = s.drive.step ∧
        t.drive.direction = .stopped ∧ t.drive.speed = s.drive.speed ∧
        t.measure.shaft = if s.drive.direction = .stopped then s.measure.shaft else .idle) ∧
      let withdrawn : Bool := s.carousel.requested && decide (s.carousel.index = .idle)
      ∃ u : State,
        u.powered = true ∧ u.store = s.store ∧ u.stop = s.stop ∧ u.pending = s.pending ∧ u.ties = s.ties ∧
        u.watches = t.watches ∧ u.slots = t.slots ∧ u.supply = t.supply ∧ u.filter = t.filter ∧
        (∀ st, u.request (.station st) = none ∧ u.arbiter.late.get st = none) ∧
        u.request .sludge = (if t.filter.troughFull then
          some ⟨.sludge, min s.line.mSludge (4 * s.line.mPocket), 6, .pending⟩ else none) ∧
        (∀ st k, (u.stationSet st).get k = false) ∧ (∀ k, u.events.hall.get k = false) ∧
        u.crusher = { s.crusher with
          state := if s.crusher.state = .blocked then .blocked else .stopped
          stallCount := 0
          binWait := none
          awaited := if withdrawn then none else s.crusher.awaited } ∧
        u.carousel = { s.carousel with
          queue := u.carousel.queue, counter := u.carousel.counter, mode := .run,
          requested := s.carousel.requested && !withdrawn } ∧
        ((∀ src, s.isOpen src = false) →
          u.carousel.queue = s.carousel.queue ∧ u.carousel.counter = s.carousel.counter) ∧
        (∀ src r k g d, s.request src = some r → r.state = .opened k g d →
          u.carousel.queue = (finalise src r k .cutShort s).1.carousel.queue ∧
            u.carousel.counter = (finalise src r k .cutShort s).1.carousel.counter) ∧
        u.measure = { s.measure with
          chute := { s.measure.chute with
            enabled := s.measure.chute.enabled && allSources.all (fun src => !s.isOpen src) }
          shaft := if s.drive.direction = .stopped then s.measure.shaft else .idle } ∧
        u.drive = { s.drive with
          channels := t.drive.channels, spray := t.drive.spray, fleeceMotor := t.drive.fleeceMotor
          gates := t.drive.gates, dumpValve := s.drive.dumpValve && !s.isOpen .sludge, direction := .stopped } ∧
        ButPorts (if s.inSafeStop then arbitrate u else crusherGoOn (arbitrate u)) t

/-! ## The laws of the device -/

/-- R19, R38, R2, R3, R10, R77: every step keeps the laws of the figure, of the table, and of the stations that are not LIVE: the
granted flows never exceed the published figure, which never exceeds Pmax, and every asked flow lies in its range of Table 01-2.
The law of the profile store is a premise, since the ranges of the station limits bound the asked flows. -/
def Obligations.StepKeepsTableLaw : Prop :=
  ∀ s t : State, SupplyLaw s → TableLaw s → UnliveLaw s → StoreLaw s → step s = .next t →
    SupplyLaw t ∧ TableLaw t ∧ UnliveLaw t

/-- R66, R84, R125, R129: every step keeps the laws of the one discharge, of the pockets and of the profile store: at most one
offer or open gate, and lots and reservation never beyond N. The law of the filter is a premise, since a backwash posts the
sludge request. -/
def Obligations.StepKeepsDischargeLaw : Prop :=
  ∀ s t : State, DischargeLaw s → PocketLaw s → StoreLaw s → FilterLaw s → step s = .next t →
    DischargeLaw t ∧ PocketLaw t ∧ StoreLaw t

/-- R43 to R59, R104, R142, R152, R155, R159, R160: every step keeps the laws of the filter and of the drives. -/
def Obligations.StepKeepsFilterLaw : Prop :=
  ∀ s t : State, FilterLaw s → DriveLaw s → step s = .next t → FilterLaw t ∧ DriveLaw t

/-- R81 to R83, R87, R97, R104: every step keeps the laws of the ring and of the crusher slot: lot numbers unique among the live
lots, one lot at most in motion, and in the slot what Table 06-2 says. -/
def Obligations.StepKeepsRingLaw : Prop :=
  ∀ s t : State, RingLaw s → CrusherLaw s → DischargeLaw s → PocketLaw s → StoreLaw s → FilterLaw s → step s = .next t →
    RingLaw t ∧ CrusherLaw t

/-- The laws hold right after reset. -/
def Obligations.ResetLaws : Prop :=
  SupplyLaw State.reset ∧ TableLaw State.reset ∧ UnliveLaw State.reset ∧ DischargeLaw State.reset ∧
    PocketLaw State.reset ∧ StoreLaw State.reset ∧ FilterLaw State.reset ∧ DriveLaw State.reset ∧
    RingLaw State.reset ∧ CrusherLaw State.reset
end

