-- ==== Sys2Proof/Laws/State.lean ====
section
/-! SUPPORT. One lemma per field per named update of `State`: no later proof unfolds a record update. -/

namespace Sys2Proof.Machine

@[simp] theorem withQueue_powered (q : List Instr) (s : State) : (s.withQueue q).powered = s.powered := rfl
@[simp] theorem withQueue_ports (q : List Instr) (s : State) : (s.withQueue q).ports = s.ports := rfl
@[simp] theorem withQueue_watches (q : List Instr) (s : State) : (s.withQueue q).watches = s.watches := rfl
@[simp] theorem withQueue_slots (q : List Instr) (s : State) : (s.withQueue q).slots = s.slots := rfl
@[simp] theorem withQueue_supply (q : List Instr) (s : State) : (s.withQueue q).supply = s.supply := rfl
@[simp] theorem withQueue_filter (q : List Instr) (s : State) : (s.withQueue q).filter = s.filter := rfl
@[simp] theorem withQueue_arbiter (q : List Instr) (s : State) : (s.withQueue q).arbiter = s.arbiter := rfl
@[simp] theorem withQueue_carousel (q : List Instr) (s : State) : (s.withQueue q).carousel = s.carousel := rfl
@[simp] theorem withQueue_crusher (q : List Instr) (s : State) : (s.withQueue q).crusher = s.crusher := rfl
@[simp] theorem withQueue_store (q : List Instr) (s : State) : (s.withQueue q).store = s.store := rfl
@[simp] theorem withQueue_measure (q : List Instr) (s : State) : (s.withQueue q).measure = s.measure := rfl
@[simp] theorem withQueue_drive (q : List Instr) (s : State) : (s.withQueue q).drive = s.drive := rfl
@[simp] theorem withQueue_events (q : List Instr) (s : State) : (s.withQueue q).events = s.events := rfl
@[simp] theorem withQueue_stop (q : List Instr) (s : State) : (s.withQueue q).stop = s.stop := rfl
@[simp] theorem withQueue_ties (q : List Instr) (s : State) : (s.withQueue q).ties = s.ties := rfl
@[simp] theorem withQueue_pending (q : List Instr) (s : State) : (s.withQueue q).pending = q := rfl

@[simp] theorem postStation_powered (st : Station) (k : StationKind) (s : State) :
    (postStation st k s).powered = s.powered := rfl
@[simp] theorem postStation_ports (st : Station) (k : StationKind) (s : State) :
    (postStation st k s).ports = s.ports := rfl
@[simp] theorem postStation_watches (st : Station) (k : StationKind) (s : State) :
    (postStation st k s).watches = s.watches := rfl
@[simp] theorem postStation_slots (st : Station) (k : StationKind) (s : State) :
    (postStation st k s).slots = s.slots := rfl
@[simp] theorem postStation_supply (st : Station) (k : StationKind) (s : State) :
    (postStation st k s).supply = s.supply := rfl
@[simp] theorem postStation_filter (st : Station) (k : StationKind) (s : State) :
    (postStation st k s).filter = s.filter := rfl
@[simp] theorem postStation_arbiter (st : Station) (k : StationKind) (s : State) :
    (postStation st k s).arbiter = s.arbiter := rfl
@[simp] theorem postStation_carousel (st : Station) (k : StationKind) (s : State) :
    (postStation st k s).carousel = s.carousel := rfl
@[simp] theorem postStation_crusher (st : Station) (k : StationKind) (s : State) :
    (postStation st k s).crusher = s.crusher := rfl
@[simp] theorem postStation_store (st : Station) (k : StationKind) (s : State) :
    (postStation st k s).store = s.store := rfl
@[simp] theorem postStation_measure (st : Station) (k : StationKind) (s : State) :
    (postStation st k s).measure = s.measure := rfl
@[simp] theorem postStation_drive (st : Station) (k : StationKind) (s : State) :
    (postStation st k s).drive = s.drive := rfl
@[simp] theorem postStation_events (st : Station) (k : StationKind) (s : State) :
    (postStation st k s).events = { s.events with stations := s.events.stations.set st ((s.stationSet st).set k true) } := rfl
@[simp] theorem postStation_stop (st : Station) (k : StationKind) (s : State) :
    (postStation st k s).stop = s.stop := rfl
@[simp] theorem postStation_ties (st : Station) (k : StationKind) (s : State) :
    (postStation st k s).ties = s.ties := rfl
@[simp] theorem postStation_pending (st : Station) (k : StationKind) (s : State) :
    (postStation st k s).pending = s.pending := rfl

@[simp] theorem postHall_powered (k : HallKind) (s : State) :
    (postHall k s).powered = s.powered := by unfold postHall; split <;> rfl
@[simp] theorem postHall_ports (k : HallKind) (s : State) :
    (postHall k s).ports = s.ports := by unfold postHall; split <;> rfl
@[simp] theorem postHall_watches (k : HallKind) (s : State) :
    (postHall k s).watches = s.watches := by unfold postHall; split <;> rfl
@[simp] theorem postHall_slots (k : HallKind) (s : State) :
    (postHall k s).slots = s.slots := by unfold postHall; split <;> rfl
@[simp] theorem postHall_supply (k : HallKind) (s : State) :
    (postHall k s).supply = s.supply := by unfold postHall; split <;> rfl
@[simp] theorem postHall_filter (k : HallKind) (s : State) :
    (postHall k s).filter = s.filter := by unfold postHall; split <;> rfl
@[simp] theorem postHall_arbiter (k : HallKind) (s : State) :
    (postHall k s).arbiter = s.arbiter := by unfold postHall; split <;> rfl
@[simp] theorem postHall_carousel (k : HallKind) (s : State) :
    (postHall k s).carousel = s.carousel := by unfold postHall; split <;> rfl
@[simp] theorem postHall_crusher (k : HallKind) (s : State) :
    (postHall k s).crusher = s.crusher := by unfold postHall; split <;> rfl
@[simp] theorem postHall_store (k : HallKind) (s : State) :
    (postHall k s).store = s.store := by unfold postHall; split <;> rfl
@[simp] theorem postHall_measure (k : HallKind) (s : State) :
    (postHall k s).measure = s.measure := by unfold postHall; split <;> rfl
@[simp] theorem postHall_drive (k : HallKind) (s : State) :
    (postHall k s).drive = s.drive := by unfold postHall; split <;> rfl
@[simp] theorem postHall_events (k : HallKind) (s : State) :
    (postHall k s).events = if s.store.working.levels.get k = 0 then s.events else { s.events with hall := s.events.hall.set k true } := by unfold postHall; split <;> rfl
@[simp] theorem postHall_stop (k : HallKind) (s : State) :
    (postHall k s).stop = s.stop := by unfold postHall; split <;> rfl
@[simp] theorem postHall_ties (k : HallKind) (s : State) :
    (postHall k s).ties = s.ties := by unfold postHall; split <;> rfl
@[simp] theorem postHall_pending (k : HallKind) (s : State) :
    (postHall k s).pending = s.pending := by unfold postHall; split <;> rfl

@[simp] theorem dropHall_powered (k : HallKind) (s : State) : (dropHall k s).powered = s.powered := rfl
@[simp] theorem dropHall_ports (k : HallKind) (s : State) : (dropHall k s).ports = s.ports := rfl
@[simp] theorem dropHall_watches (k : HallKind) (s : State) : (dropHall k s).watches = s.watches := rfl
@[simp] theorem dropHall_slots (k : HallKind) (s : State) : (dropHall k s).slots = s.slots := rfl
@[simp] theorem dropHall_supply (k : HallKind) (s : State) : (dropHall k s).supply = s.supply := rfl
@[simp] theorem dropHall_filter (k : HallKind) (s : State) : (dropHall k s).filter = s.filter := rfl
@[simp] theorem dropHall_arbiter (k : HallKind) (s : State) : (dropHall k s).arbiter = s.arbiter := rfl
@[simp] theorem dropHall_carousel (k : HallKind) (s : State) : (dropHall k s).carousel = s.carousel := rfl
@[simp] theorem dropHall_crusher (k : HallKind) (s : State) : (dropHall k s).crusher = s.crusher := rfl
@[simp] theorem dropHall_store (k : HallKind) (s : State) : (dropHall k s).store = s.store := rfl
@[simp] theorem dropHall_measure (k : HallKind) (s : State) : (dropHall k s).measure = s.measure := rfl
@[simp] theorem dropHall_drive (k : HallKind) (s : State) : (dropHall k s).drive = s.drive := rfl
@[simp] theorem dropHall_events (k : HallKind) (s : State) :
    (dropHall k s).events = { s.events with hall := s.events.hall.set k false } := rfl
@[simp] theorem dropHall_stop (k : HallKind) (s : State) : (dropHall k s).stop = s.stop := rfl
@[simp] theorem dropHall_ties (k : HallKind) (s : State) : (dropHall k s).ties = s.ties := rfl
@[simp] theorem dropHall_pending (k : HallKind) (s : State) : (dropHall k s).pending = s.pending := rfl

@[simp] theorem dropStation_powered (st : Station) (k : StationKind) (s : State) :
    (dropStation st k s).powered = s.powered := rfl
@[simp] theorem dropStation_ports (st : Station) (k : StationKind) (s : State) :
    (dropStation st k s).ports = s.ports := rfl
@[simp] theorem dropStation_watches (st : Station) (k : StationKind) (s : State) :
    (dropStation st k s).watches = s.watches := rfl
@[simp] theorem dropStation_slots (st : Station) (k : StationKind) (s : State) :
    (dropStation st k s).slots = s.slots := rfl
@[simp] theorem dropStation_supply (st : Station) (k : StationKind) (s : State) :
    (dropStation st k s).supply = s.supply := rfl
@[simp] theorem dropStation_filter (st : Station) (k : StationKind) (s : State) :
    (dropStation st k s).filter = s.filter := rfl
@[simp] theorem dropStation_arbiter (st : Station) (k : StationKind) (s : State) :
    (dropStation st k s).arbiter = s.arbiter := rfl
@[simp] theorem dropStation_carousel (st : Station) (k : StationKind) (s : State) :
    (dropStation st k s).carousel = s.carousel := rfl
@[simp] theorem dropStation_crusher (st : Station) (k : StationKind) (s : State) :
    (dropStation st k s).crusher = s.crusher := rfl
@[simp] theorem dropStation_store (st : Station) (k : StationKind) (s : State) :
    (dropStation st k s).store = s.store := rfl
@[simp] theorem dropStation_measure (st : Station) (k : StationKind) (s : State) :
    (dropStation st k s).measure = s.measure := rfl
@[simp] theorem dropStation_drive (st : Station) (k : StationKind) (s : State) :
    (dropStation st k s).drive = s.drive := rfl
@[simp] theorem dropStation_events (st : Station) (k : StationKind) (s : State) :
    (dropStation st k s).events = { s.events with stations := s.events.stations.set st ((s.stationSet st).set k false) } := rfl
@[simp] theorem dropStation_stop (st : Station) (k : StationKind) (s : State) :
    (dropStation st k s).stop = s.stop := rfl
@[simp] theorem dropStation_ties (st : Station) (k : StationKind) (s : State) :
    (dropStation st k s).ties = s.ties := rfl
@[simp] theorem dropStation_pending (st : Station) (k : StationKind) (s : State) :
    (dropStation st k s).pending = s.pending := rfl

@[simp] theorem emptyEventSets_powered (s : State) : (emptyEventSets s).powered = s.powered := rfl
@[simp] theorem emptyEventSets_ports (s : State) : (emptyEventSets s).ports = s.ports := rfl
@[simp] theorem emptyEventSets_watches (s : State) : (emptyEventSets s).watches = s.watches := rfl
@[simp] theorem emptyEventSets_slots (s : State) : (emptyEventSets s).slots = s.slots := rfl
@[simp] theorem emptyEventSets_supply (s : State) : (emptyEventSets s).supply = s.supply := rfl
@[simp] theorem emptyEventSets_filter (s : State) : (emptyEventSets s).filter = s.filter := rfl
@[simp] theorem emptyEventSets_arbiter (s : State) : (emptyEventSets s).arbiter = s.arbiter := rfl
@[simp] theorem emptyEventSets_carousel (s : State) : (emptyEventSets s).carousel = s.carousel := rfl
@[simp] theorem emptyEventSets_crusher (s : State) : (emptyEventSets s).crusher = s.crusher := rfl
@[simp] theorem emptyEventSets_store (s : State) : (emptyEventSets s).store = s.store := rfl
@[simp] theorem emptyEventSets_measure (s : State) : (emptyEventSets s).measure = s.measure := rfl
@[simp] theorem emptyEventSets_drive (s : State) : (emptyEventSets s).drive = s.drive := rfl
@[simp] theorem emptyEventSets_events (s : State) : (emptyEventSets s).events = eventsPowerOn := rfl
@[simp] theorem emptyEventSets_stop (s : State) : (emptyEventSets s).stop = s.stop := rfl
@[simp] theorem emptyEventSets_ties (s : State) : (emptyEventSets s).ties = s.ties := rfl
@[simp] theorem emptyEventSets_pending (s : State) : (emptyEventSets s).pending = s.pending := rfl

@[simp] theorem driveCrusher_powered (d : Direction) (v : Option Nat) (s : State) :
    (driveCrusher d v s).powered = s.powered := rfl
@[simp] theorem driveCrusher_ports (d : Direction) (v : Option Nat) (s : State) :
    (driveCrusher d v s).ports = s.ports := rfl
@[simp] theorem driveCrusher_watches (d : Direction) (v : Option Nat) (s : State) :
    (driveCrusher d v s).watches = s.watches := rfl
@[simp] theorem driveCrusher_slots (d : Direction) (v : Option Nat) (s : State) :
    (driveCrusher d v s).slots = s.slots := rfl
@[simp] theorem driveCrusher_supply (d : Direction) (v : Option Nat) (s : State) :
    (driveCrusher d v s).supply = s.supply := rfl
@[simp] theorem driveCrusher_filter (d : Direction) (v : Option Nat) (s : State) :
    (driveCrusher d v s).filter = s.filter := rfl
@[simp] theorem driveCrusher_arbiter (d : Direction) (v : Option Nat) (s : State) :
    (driveCrusher d v s).arbiter = s.arbiter := rfl
@[simp] theorem driveCrusher_carousel (d : Direction) (v : Option Nat) (s : State) :
    (driveCrusher d v s).carousel = s.carousel := rfl
@[simp] theorem driveCrusher_crusher (d : Direction) (v : Option Nat) (s : State) :
    (driveCrusher d v s).crusher = s.crusher := rfl
@[simp] theorem driveCrusher_store (d : Direction) (v : Option Nat) (s : State) :
    (driveCrusher d v s).store = s.store := rfl
@[simp] theorem driveCrusher_measure (d : Direction) (v : Option Nat) (s : State) :
    (driveCrusher d v s).measure = { s.measure with shaft := shaftOnDirection s.line.ppr s.drive.direction d s.measure.shaft } := rfl
@[simp] theorem driveCrusher_drive (d : Direction) (v : Option Nat) (s : State) :
    (driveCrusher d v s).drive = { s.drive with direction := d, speed := v <|> s.drive.speed } := rfl
@[simp] theorem driveCrusher_events (d : Direction) (v : Option Nat) (s : State) :
    (driveCrusher d v s).events = s.events := rfl
@[simp] theorem driveCrusher_stop (d : Direction) (v : Option Nat) (s : State) :
    (driveCrusher d v s).stop = s.stop := rfl
@[simp] theorem driveCrusher_ties (d : Direction) (v : Option Nat) (s : State) :
    (driveCrusher d v s).ties = s.ties := rfl
@[simp] theorem driveCrusher_pending (d : Direction) (v : Option Nat) (s : State) :
    (driveCrusher d v s).pending = s.pending := rfl

@[simp] theorem setSpeed_powered (v : Option Nat) (s : State) : (setSpeed v s).powered = s.powered := rfl
@[simp] theorem setSpeed_ports (v : Option Nat) (s : State) : (setSpeed v s).ports = s.ports := rfl
@[simp] theorem setSpeed_watches (v : Option Nat) (s : State) : (setSpeed v s).watches = s.watches := rfl
@[simp] theorem setSpeed_slots (v : Option Nat) (s : State) : (setSpeed v s).slots = s.slots := rfl
@[simp] theorem setSpeed_supply (v : Option Nat) (s : State) : (setSpeed v s).supply = s.supply := rfl
@[simp] theorem setSpeed_filter (v : Option Nat) (s : State) : (setSpeed v s).filter = s.filter := rfl
@[simp] theorem setSpeed_arbiter (v : Option Nat) (s : State) : (setSpeed v s).arbiter = s.arbiter := rfl
@[simp] theorem setSpeed_carousel (v : Option Nat) (s : State) : (setSpeed v s).carousel = s.carousel := rfl
@[simp] theorem setSpeed_crusher (v : Option Nat) (s : State) : (setSpeed v s).crusher = s.crusher := rfl
@[simp] theorem setSpeed_store (v : Option Nat) (s : State) : (setSpeed v s).store = s.store := rfl
@[simp] theorem setSpeed_measure (v : Option Nat) (s : State) : (setSpeed v s).measure = s.measure := rfl
@[simp] theorem setSpeed_drive (v : Option Nat) (s : State) :
    (setSpeed v s).drive = { s.drive with speed := v <|> s.drive.speed } := rfl
@[simp] theorem setSpeed_events (v : Option Nat) (s : State) : (setSpeed v s).events = s.events := rfl
@[simp] theorem setSpeed_stop (v : Option Nat) (s : State) : (setSpeed v s).stop = s.stop := rfl
@[simp] theorem setSpeed_ties (v : Option Nat) (s : State) : (setSpeed v s).ties = s.ties := rfl
@[simp] theorem setSpeed_pending (v : Option Nat) (s : State) : (setSpeed v s).pending = s.pending := rfl

@[simp] theorem setStep_powered (b : Bool) (s : State) : (setStep b s).powered = s.powered := rfl
@[simp] theorem setStep_ports (b : Bool) (s : State) : (setStep b s).ports = s.ports := rfl
@[simp] theorem setStep_watches (b : Bool) (s : State) : (setStep b s).watches = s.watches := rfl
@[simp] theorem setStep_slots (b : Bool) (s : State) : (setStep b s).slots = s.slots := rfl
@[simp] theorem setStep_supply (b : Bool) (s : State) : (setStep b s).supply = s.supply := rfl
@[simp] theorem setStep_filter (b : Bool) (s : State) : (setStep b s).filter = s.filter := rfl
@[simp] theorem setStep_arbiter (b : Bool) (s : State) : (setStep b s).arbiter = s.arbiter := rfl
@[simp] theorem setStep_carousel (b : Bool) (s : State) : (setStep b s).carousel = s.carousel := rfl
@[simp] theorem setStep_crusher (b : Bool) (s : State) : (setStep b s).crusher = s.crusher := rfl
@[simp] theorem setStep_store (b : Bool) (s : State) : (setStep b s).store = s.store := rfl
@[simp] theorem setStep_measure (b : Bool) (s : State) : (setStep b s).measure = s.measure := rfl
@[simp] theorem setStep_drive (b : Bool) (s : State) : (setStep b s).drive = { s.drive with step := b } := rfl
@[simp] theorem setStep_events (b : Bool) (s : State) : (setStep b s).events = s.events := rfl
@[simp] theorem setStep_stop (b : Bool) (s : State) : (setStep b s).stop = s.stop := rfl
@[simp] theorem setStep_ties (b : Bool) (s : State) : (setStep b s).ties = s.ties := rfl
@[simp] theorem setStep_pending (b : Bool) (s : State) : (setStep b s).pending = s.pending := rfl

@[simp] theorem setFleeceMotor_powered (b : Bool) (s : State) : (setFleeceMotor b s).powered = s.powered := rfl
@[simp] theorem setFleeceMotor_ports (b : Bool) (s : State) : (setFleeceMotor b s).ports = s.ports := rfl
@[simp] theorem setFleeceMotor_watches (b : Bool) (s : State) : (setFleeceMotor b s).watches = s.watches := rfl
@[simp] theorem setFleeceMotor_slots (b : Bool) (s : State) : (setFleeceMotor b s).slots = s.slots := rfl
@[simp] theorem setFleeceMotor_supply (b : Bool) (s : State) : (setFleeceMotor b s).supply = s.supply := rfl
@[simp] theorem setFleeceMotor_filter (b : Bool) (s : State) : (setFleeceMotor b s).filter = s.filter := rfl
@[simp] theorem setFleeceMotor_arbiter (b : Bool) (s : State) : (setFleeceMotor b s).arbiter = s.arbiter := rfl
@[simp] theorem setFleeceMotor_carousel (b : Bool) (s : State) : (setFleeceMotor b s).carousel = s.carousel := rfl
@[simp] theorem setFleeceMotor_crusher (b : Bool) (s : State) : (setFleeceMotor b s).crusher = s.crusher := rfl
@[simp] theorem setFleeceMotor_store (b : Bool) (s : State) : (setFleeceMotor b s).store = s.store := rfl
@[simp] theorem setFleeceMotor_measure (b : Bool) (s : State) : (setFleeceMotor b s).measure = s.measure := rfl
@[simp] theorem setFleeceMotor_drive (b : Bool) (s : State) :
    (setFleeceMotor b s).drive = { s.drive with fleeceMotor := b } := rfl
@[simp] theorem setFleeceMotor_events (b : Bool) (s : State) : (setFleeceMotor b s).events = s.events := rfl
@[simp] theorem setFleeceMotor_stop (b : Bool) (s : State) : (setFleeceMotor b s).stop = s.stop := rfl
@[simp] theorem setFleeceMotor_ties (b : Bool) (s : State) : (setFleeceMotor b s).ties = s.ties := rfl
@[simp] theorem setFleeceMotor_pending (b : Bool) (s : State) : (setFleeceMotor b s).pending = s.pending := rfl

@[simp] theorem sprayOn_powered (s : State) : (sprayOn s).powered = s.powered := rfl
@[simp] theorem sprayOn_ports (s : State) : (sprayOn s).ports = s.ports := rfl
@[simp] theorem sprayOn_watches (s : State) : (sprayOn s).watches = s.watches := rfl
@[simp] theorem sprayOn_slots (s : State) : (sprayOn s).slots = s.slots := rfl
@[simp] theorem sprayOn_supply (s : State) : (sprayOn s).supply = s.supply := rfl
@[simp] theorem sprayOn_filter (s : State) : (sprayOn s).filter = s.filter := rfl
@[simp] theorem sprayOn_arbiter (s : State) : (sprayOn s).arbiter = s.arbiter := rfl
@[simp] theorem sprayOn_carousel (s : State) : (sprayOn s).carousel = s.carousel := rfl
@[simp] theorem sprayOn_crusher (s : State) : (sprayOn s).crusher = s.crusher := rfl
@[simp] theorem sprayOn_store (s : State) : (sprayOn s).store = s.store := rfl
@[simp] theorem sprayOn_measure (s : State) : (sprayOn s).measure = s.measure := rfl
@[simp] theorem sprayOn_drive (s : State) :
    (sprayOn s).drive = { s.drive with spray := .on true s.line.tSpray } := rfl
@[simp] theorem sprayOn_events (s : State) : (sprayOn s).events = s.events := rfl
@[simp] theorem sprayOn_stop (s : State) : (sprayOn s).stop = s.stop := rfl
@[simp] theorem sprayOn_ties (s : State) : (sprayOn s).ties = s.ties := rfl
@[simp] theorem sprayOn_pending (s : State) : (sprayOn s).pending = s.pending := rfl

@[simp] theorem sprayOff_powered (s : State) : (sprayOff s).powered = s.powered := rfl
@[simp] theorem sprayOff_ports (s : State) : (sprayOff s).ports = s.ports := rfl
@[simp] theorem sprayOff_watches (s : State) : (sprayOff s).watches = s.watches := rfl
@[simp] theorem sprayOff_slots (s : State) : (sprayOff s).slots = s.slots := rfl
@[simp] theorem sprayOff_supply (s : State) : (sprayOff s).supply = s.supply := rfl
@[simp] theorem sprayOff_filter (s : State) : (sprayOff s).filter = s.filter := rfl
@[simp] theorem sprayOff_arbiter (s : State) : (sprayOff s).arbiter = s.arbiter := rfl
@[simp] theorem sprayOff_carousel (s : State) : (sprayOff s).carousel = s.carousel := rfl
@[simp] theorem sprayOff_crusher (s : State) : (sprayOff s).crusher = s.crusher := rfl
@[simp] theorem sprayOff_store (s : State) : (sprayOff s).store = s.store := rfl
@[simp] theorem sprayOff_measure (s : State) : (sprayOff s).measure = s.measure := rfl
@[simp] theorem sprayOff_drive (s : State) : (sprayOff s).drive = { s.drive with spray := .off } := rfl
@[simp] theorem sprayOff_events (s : State) : (sprayOff s).events = s.events := rfl
@[simp] theorem sprayOff_stop (s : State) : (sprayOff s).stop = s.stop := rfl
@[simp] theorem sprayOff_ties (s : State) : (sprayOff s).ties = s.ties := rfl
@[simp] theorem sprayOff_pending (s : State) : (sprayOff s).pending = s.pending := rfl

@[simp] theorem setFlap_powered (f : Flap) (s : State) : (setFlap f s).powered = s.powered := rfl
@[simp] theorem setFlap_ports (f : Flap) (s : State) : (setFlap f s).ports = s.ports := rfl
@[simp] theorem setFlap_watches (f : Flap) (s : State) : (setFlap f s).watches = s.watches := rfl
@[simp] theorem setFlap_slots (f : Flap) (s : State) : (setFlap f s).slots = s.slots := rfl
@[simp] theorem setFlap_supply (f : Flap) (s : State) : (setFlap f s).supply = s.supply := rfl
@[simp] theorem setFlap_filter (f : Flap) (s : State) : (setFlap f s).filter = s.filter := rfl
@[simp] theorem setFlap_arbiter (f : Flap) (s : State) : (setFlap f s).arbiter = s.arbiter := rfl
@[simp] theorem setFlap_carousel (f : Flap) (s : State) : (setFlap f s).carousel = s.carousel := rfl
@[simp] theorem setFlap_crusher (f : Flap) (s : State) : (setFlap f s).crusher = s.crusher := rfl
@[simp] theorem setFlap_store (f : Flap) (s : State) : (setFlap f s).store = s.store := rfl
@[simp] theorem setFlap_measure (f : Flap) (s : State) : (setFlap f s).measure = s.measure := rfl
@[simp] theorem setFlap_drive (f : Flap) (s : State) : (setFlap f s).drive = { s.drive with flap := f } := rfl
@[simp] theorem setFlap_events (f : Flap) (s : State) : (setFlap f s).events = s.events := rfl
@[simp] theorem setFlap_stop (f : Flap) (s : State) : (setFlap f s).stop = s.stop := rfl
@[simp] theorem setFlap_ties (f : Flap) (s : State) : (setFlap f s).ties = s.ties := rfl
@[simp] theorem setFlap_pending (f : Flap) (s : State) : (setFlap f s).pending = s.pending := rfl

@[simp] theorem setBinGate_powered (g : BinGate) (s : State) : (setBinGate g s).powered = s.powered := rfl
@[simp] theorem setBinGate_ports (g : BinGate) (s : State) : (setBinGate g s).ports = s.ports := rfl
@[simp] theorem setBinGate_watches (g : BinGate) (s : State) : (setBinGate g s).watches = s.watches := rfl
@[simp] theorem setBinGate_slots (g : BinGate) (s : State) : (setBinGate g s).slots = s.slots := rfl
@[simp] theorem setBinGate_supply (g : BinGate) (s : State) : (setBinGate g s).supply = s.supply := rfl
@[simp] theorem setBinGate_filter (g : BinGate) (s : State) : (setBinGate g s).filter = s.filter := rfl
@[simp] theorem setBinGate_arbiter (g : BinGate) (s : State) : (setBinGate g s).arbiter = s.arbiter := rfl
@[simp] theorem setBinGate_carousel (g : BinGate) (s : State) : (setBinGate g s).carousel = s.carousel := rfl
@[simp] theorem setBinGate_crusher (g : BinGate) (s : State) : (setBinGate g s).crusher = s.crusher := rfl
@[simp] theorem setBinGate_store (g : BinGate) (s : State) : (setBinGate g s).store = s.store := rfl
@[simp] theorem setBinGate_measure (g : BinGate) (s : State) : (setBinGate g s).measure = s.measure := rfl
@[simp] theorem setBinGate_drive (g : BinGate) (s : State) :
    (setBinGate g s).drive = { s.drive with binGate := g } := rfl
@[simp] theorem setBinGate_events (g : BinGate) (s : State) : (setBinGate g s).events = s.events := rfl
@[simp] theorem setBinGate_stop (g : BinGate) (s : State) : (setBinGate g s).stop = s.stop := rfl
@[simp] theorem setBinGate_ties (g : BinGate) (s : State) : (setBinGate g s).ties = s.ties := rfl
@[simp] theorem setBinGate_pending (g : BinGate) (s : State) : (setBinGate g s).pending = s.pending := rfl

@[simp] theorem setGate_powered (src : Source) (b : Bool) (s : State) :
    (setGate src b s).powered = s.powered := by cases src <;> rfl
@[simp] theorem setGate_ports (src : Source) (b : Bool) (s : State) :
    (setGate src b s).ports = s.ports := by cases src <;> rfl
@[simp] theorem setGate_watches (src : Source) (b : Bool) (s : State) :
    (setGate src b s).watches = s.watches := by cases src <;> rfl
@[simp] theorem setGate_slots (src : Source) (b : Bool) (s : State) :
    (setGate src b s).slots = s.slots := by cases src <;> rfl
@[simp] theorem setGate_supply (src : Source) (b : Bool) (s : State) :
    (setGate src b s).supply = s.supply := by cases src <;> rfl
@[simp] theorem setGate_filter (src : Source) (b : Bool) (s : State) :
    (setGate src b s).filter = s.filter := by cases src <;> rfl
@[simp] theorem setGate_arbiter (src : Source) (b : Bool) (s : State) :
    (setGate src b s).arbiter = s.arbiter := by cases src <;> rfl
@[simp] theorem setGate_carousel (src : Source) (b : Bool) (s : State) :
    (setGate src b s).carousel = s.carousel := by cases src <;> rfl
@[simp] theorem setGate_crusher (src : Source) (b : Bool) (s : State) :
    (setGate src b s).crusher = s.crusher := by cases src <;> rfl
@[simp] theorem setGate_store (src : Source) (b : Bool) (s : State) :
    (setGate src b s).store = s.store := by cases src <;> rfl
@[simp] theorem setGate_measure (src : Source) (b : Bool) (s : State) :
    (setGate src b s).measure = s.measure := by cases src <;> rfl
@[simp] theorem setGate_drive (src : Source) (b : Bool) (s : State) :
    (setGate src b s).drive = match src with | .station st => { s.drive with gates := s.drive.gates.set st b } | .sludge => { s.drive with dumpValve := b } := by cases src <;> rfl
@[simp] theorem setGate_events (src : Source) (b : Bool) (s : State) :
    (setGate src b s).events = s.events := by cases src <;> rfl
@[simp] theorem setGate_stop (src : Source) (b : Bool) (s : State) :
    (setGate src b s).stop = s.stop := by cases src <;> rfl
@[simp] theorem setGate_ties (src : Source) (b : Bool) (s : State) :
    (setGate src b s).ties = s.ties := by cases src <;> rfl
@[simp] theorem setGate_pending (src : Source) (b : Bool) (s : State) :
    (setGate src b s).pending = s.pending := by cases src <;> rfl

@[simp] theorem startChute_powered (s : State) : (startChute s).powered = s.powered := rfl
@[simp] theorem startChute_ports (s : State) : (startChute s).ports = s.ports := rfl
@[simp] theorem startChute_watches (s : State) : (startChute s).watches = s.watches := rfl
@[simp] theorem startChute_slots (s : State) : (startChute s).slots = s.slots := rfl
@[simp] theorem startChute_supply (s : State) : (startChute s).supply = s.supply := rfl
@[simp] theorem startChute_filter (s : State) : (startChute s).filter = s.filter := rfl
@[simp] theorem startChute_arbiter (s : State) : (startChute s).arbiter = s.arbiter := rfl
@[simp] theorem startChute_carousel (s : State) : (startChute s).carousel = s.carousel := rfl
@[simp] theorem startChute_crusher (s : State) : (startChute s).crusher = s.crusher := rfl
@[simp] theorem startChute_store (s : State) : (startChute s).store = s.store := rfl
@[simp] theorem startChute_measure (s : State) : (startChute s).measure = { s.measure with chute := ⟨0, true⟩ } := rfl
@[simp] theorem startChute_drive (s : State) : (startChute s).drive = s.drive := rfl
@[simp] theorem startChute_events (s : State) : (startChute s).events = s.events := rfl
@[simp] theorem startChute_stop (s : State) : (startChute s).stop = s.stop := rfl
@[simp] theorem startChute_ties (s : State) : (startChute s).ties = s.ties := rfl
@[simp] theorem startChute_pending (s : State) : (startChute s).pending = s.pending := rfl

@[simp] theorem stopChute_powered (s : State) : (stopChute s).powered = s.powered := rfl
@[simp] theorem stopChute_ports (s : State) : (stopChute s).ports = s.ports := rfl
@[simp] theorem stopChute_watches (s : State) : (stopChute s).watches = s.watches := rfl
@[simp] theorem stopChute_slots (s : State) : (stopChute s).slots = s.slots := rfl
@[simp] theorem stopChute_supply (s : State) : (stopChute s).supply = s.supply := rfl
@[simp] theorem stopChute_filter (s : State) : (stopChute s).filter = s.filter := rfl
@[simp] theorem stopChute_arbiter (s : State) : (stopChute s).arbiter = s.arbiter := rfl
@[simp] theorem stopChute_carousel (s : State) : (stopChute s).carousel = s.carousel := rfl
@[simp] theorem stopChute_crusher (s : State) : (stopChute s).crusher = s.crusher := rfl
@[simp] theorem stopChute_store (s : State) : (stopChute s).store = s.store := rfl
@[simp] theorem stopChute_measure (s : State) :
    (stopChute s).measure = { s.measure with chute := { s.measure.chute with enabled := false } } := rfl
@[simp] theorem stopChute_drive (s : State) : (stopChute s).drive = s.drive := rfl
@[simp] theorem stopChute_events (s : State) : (stopChute s).events = s.events := rfl
@[simp] theorem stopChute_stop (s : State) : (stopChute s).stop = s.stop := rfl
@[simp] theorem stopChute_ties (s : State) : (stopChute s).ties = s.ties := rfl
@[simp] theorem stopChute_pending (s : State) : (stopChute s).pending = s.pending := rfl

@[simp] theorem stageAll_powered (s : State) : (stageAll s).powered = s.powered := rfl
@[simp] theorem stageAll_ports (s : State) : (stageAll s).ports = s.ports := rfl
@[simp] theorem stageAll_watches (s : State) : (stageAll s).watches = s.watches := rfl
@[simp] theorem stageAll_slots (s : State) : (stageAll s).slots = s.slots := rfl
@[simp] theorem stageAll_supply (s : State) : (stageAll s).supply = s.supply := rfl
@[simp] theorem stageAll_filter (s : State) : (stageAll s).filter = s.filter := rfl
@[simp] theorem stageAll_arbiter (s : State) : (stageAll s).arbiter = s.arbiter := rfl
@[simp] theorem stageAll_carousel (s : State) : (stageAll s).carousel = s.carousel := rfl
@[simp] theorem stageAll_crusher (s : State) : (stageAll s).crusher = s.crusher := rfl
@[simp] theorem stageAll_store (s : State) : (stageAll s).store = s.store := rfl
@[simp] theorem stageAll_measure (s : State) : (stageAll s).measure = s.measure := rfl
@[simp] theorem stageAll_events (s : State) : (stageAll s).events = s.events := rfl
@[simp] theorem stageAll_stop (s : State) : (stageAll s).stop = s.stop := rfl
@[simp] theorem stageAll_ties (s : State) : (stageAll s).ties = s.ties := rfl
@[simp] theorem stageAll_pending (s : State) : (stageAll s).pending = s.pending := rfl

@[simp] theorem setCrusherState_powered (c : CrusherState) (s : State) :
    (setCrusherState c s).powered = s.powered := rfl
@[simp] theorem setCrusherState_ports (c : CrusherState) (s : State) : (setCrusherState c s).ports = s.ports := rfl
@[simp] theorem setCrusherState_watches (c : CrusherState) (s : State) :
    (setCrusherState c s).watches = s.watches := rfl
@[simp] theorem setCrusherState_slots (c : CrusherState) (s : State) : (setCrusherState c s).slots = s.slots := rfl
@[simp] theorem setCrusherState_supply (c : CrusherState) (s : State) : (setCrusherState c s).supply = s.supply := rfl
@[simp] theorem setCrusherState_filter (c : CrusherState) (s : State) : (setCrusherState c s).filter = s.filter := rfl
@[simp] theorem setCrusherState_arbiter (c : CrusherState) (s : State) :
    (setCrusherState c s).arbiter = s.arbiter := rfl
@[simp] theorem setCrusherState_carousel (c : CrusherState) (s : State) :
    (setCrusherState c s).carousel = s.carousel := rfl
@[simp] theorem setCrusherState_crusher (c : CrusherState) (s : State) :
    (setCrusherState c s).crusher = { s.crusher with state := c } := rfl
@[simp] theorem setCrusherState_store (c : CrusherState) (s : State) : (setCrusherState c s).store = s.store := rfl
@[simp] theorem setCrusherState_measure (c : CrusherState) (s : State) :
    (setCrusherState c s).measure = s.measure := rfl
@[simp] theorem setCrusherState_drive (c : CrusherState) (s : State) : (setCrusherState c s).drive = s.drive := rfl
@[simp] theorem setCrusherState_events (c : CrusherState) (s : State) : (setCrusherState c s).events = s.events := rfl
@[simp] theorem setCrusherState_stop (c : CrusherState) (s : State) : (setCrusherState c s).stop = s.stop := rfl
@[simp] theorem setCrusherState_ties (c : CrusherState) (s : State) : (setCrusherState c s).ties = s.ties := rfl
@[simp] theorem setCrusherState_pending (c : CrusherState) (s : State) :
    (setCrusherState c s).pending = s.pending := rfl

@[simp] theorem setSlot_powered (x : Option SlotLot) (s : State) : (setSlot x s).powered = s.powered := rfl
@[simp] theorem setSlot_ports (x : Option SlotLot) (s : State) : (setSlot x s).ports = s.ports := rfl
@[simp] theorem setSlot_watches (x : Option SlotLot) (s : State) : (setSlot x s).watches = s.watches := rfl
@[simp] theorem setSlot_slots (x : Option SlotLot) (s : State) : (setSlot x s).slots = s.slots := rfl
@[simp] theorem setSlot_supply (x : Option SlotLot) (s : State) : (setSlot x s).supply = s.supply := rfl
@[simp] theorem setSlot_filter (x : Option SlotLot) (s : State) : (setSlot x s).filter = s.filter := rfl
@[simp] theorem setSlot_arbiter (x : Option SlotLot) (s : State) : (setSlot x s).arbiter = s.arbiter := rfl
@[simp] theorem setSlot_carousel (x : Option SlotLot) (s : State) : (setSlot x s).carousel = s.carousel := rfl
@[simp] theorem setSlot_crusher (x : Option SlotLot) (s : State) :
    (setSlot x s).crusher = { s.crusher with slot := x } := rfl
@[simp] theorem setSlot_store (x : Option SlotLot) (s : State) : (setSlot x s).store = s.store := rfl
@[simp] theorem setSlot_measure (x : Option SlotLot) (s : State) : (setSlot x s).measure = s.measure := rfl
@[simp] theorem setSlot_drive (x : Option SlotLot) (s : State) : (setSlot x s).drive = s.drive := rfl
@[simp] theorem setSlot_events (x : Option SlotLot) (s : State) : (setSlot x s).events = s.events := rfl
@[simp] theorem setSlot_stop (x : Option SlotLot) (s : State) : (setSlot x s).stop = s.stop := rfl
@[simp] theorem setSlot_ties (x : Option SlotLot) (s : State) : (setSlot x s).ties = s.ties := rfl
@[simp] theorem setSlot_pending (x : Option SlotLot) (s : State) : (setSlot x s).pending = s.pending := rfl

@[simp] theorem endBinWait_powered (s : State) : (endBinWait s).powered = s.powered := rfl
@[simp] theorem endBinWait_ports (s : State) : (endBinWait s).ports = s.ports := rfl
@[simp] theorem endBinWait_watches (s : State) : (endBinWait s).watches = s.watches := rfl
@[simp] theorem endBinWait_slots (s : State) : (endBinWait s).slots = s.slots := rfl
@[simp] theorem endBinWait_supply (s : State) : (endBinWait s).supply = s.supply := rfl
@[simp] theorem endBinWait_filter (s : State) : (endBinWait s).filter = s.filter := rfl
@[simp] theorem endBinWait_arbiter (s : State) : (endBinWait s).arbiter = s.arbiter := rfl
@[simp] theorem endBinWait_carousel (s : State) : (endBinWait s).carousel = s.carousel := rfl
@[simp] theorem endBinWait_crusher (s : State) : (endBinWait s).crusher = { s.crusher with binWait := none } := rfl
@[simp] theorem endBinWait_store (s : State) : (endBinWait s).store = s.store := rfl
@[simp] theorem endBinWait_measure (s : State) : (endBinWait s).measure = s.measure := rfl
@[simp] theorem endBinWait_drive (s : State) : (endBinWait s).drive = s.drive := rfl
@[simp] theorem endBinWait_events (s : State) : (endBinWait s).events = s.events := rfl
@[simp] theorem endBinWait_stop (s : State) : (endBinWait s).stop = s.stop := rfl
@[simp] theorem endBinWait_ties (s : State) : (endBinWait s).ties = s.ties := rfl
@[simp] theorem endBinWait_pending (s : State) : (endBinWait s).pending = s.pending := rfl

@[simp] theorem placeInSlot_powered (l : LotRecord) (s : State) : (placeInSlot l s).powered = s.powered := rfl
@[simp] theorem placeInSlot_ports (l : LotRecord) (s : State) : (placeInSlot l s).ports = s.ports := rfl
@[simp] theorem placeInSlot_watches (l : LotRecord) (s : State) : (placeInSlot l s).watches = s.watches := rfl
@[simp] theorem placeInSlot_slots (l : LotRecord) (s : State) : (placeInSlot l s).slots = s.slots := rfl
@[simp] theorem placeInSlot_supply (l : LotRecord) (s : State) : (placeInSlot l s).supply = s.supply := rfl
@[simp] theorem placeInSlot_filter (l : LotRecord) (s : State) : (placeInSlot l s).filter = s.filter := rfl
@[simp] theorem placeInSlot_arbiter (l : LotRecord) (s : State) : (placeInSlot l s).arbiter = s.arbiter := rfl
@[simp] theorem placeInSlot_carousel (l : LotRecord) (s : State) : (placeInSlot l s).carousel = s.carousel := rfl
@[simp] theorem placeInSlot_store (l : LotRecord) (s : State) : (placeInSlot l s).store = s.store := rfl
@[simp] theorem placeInSlot_measure (l : LotRecord) (s : State) : (placeInSlot l s).measure = s.measure := rfl
@[simp] theorem placeInSlot_drive (l : LotRecord) (s : State) : (placeInSlot l s).drive = s.drive := rfl
@[simp] theorem placeInSlot_events (l : LotRecord) (s : State) : (placeInSlot l s).events = s.events := rfl
@[simp] theorem placeInSlot_stop (l : LotRecord) (s : State) : (placeInSlot l s).stop = s.stop := rfl
@[simp] theorem placeInSlot_ties (l : LotRecord) (s : State) : (placeInSlot l s).ties = s.ties := rfl
@[simp] theorem placeInSlot_pending (l : LotRecord) (s : State) : (placeInSlot l s).pending = s.pending := rfl

@[simp] theorem addFill_powered (f : Family) (m : Nat) (s : State) : (addFill f m s).powered = s.powered := rfl
@[simp] theorem addFill_ports (f : Family) (m : Nat) (s : State) : (addFill f m s).ports = s.ports := rfl
@[simp] theorem addFill_watches (f : Family) (m : Nat) (s : State) : (addFill f m s).watches = s.watches := rfl
@[simp] theorem addFill_slots (f : Family) (m : Nat) (s : State) : (addFill f m s).slots = s.slots := rfl
@[simp] theorem addFill_supply (f : Family) (m : Nat) (s : State) : (addFill f m s).supply = s.supply := rfl
@[simp] theorem addFill_filter (f : Family) (m : Nat) (s : State) : (addFill f m s).filter = s.filter := rfl
@[simp] theorem addFill_arbiter (f : Family) (m : Nat) (s : State) : (addFill f m s).arbiter = s.arbiter := rfl
@[simp] theorem addFill_carousel (f : Family) (m : Nat) (s : State) : (addFill f m s).carousel = s.carousel := rfl
@[simp] theorem addFill_crusher (f : Family) (m : Nat) (s : State) :
    (addFill f m s).crusher = { s.crusher with fills := s.crusher.fills.set f (addMass (s.crusher.fills.get f) m) } := rfl
@[simp] theorem addFill_store (f : Family) (m : Nat) (s : State) : (addFill f m s).store = s.store := rfl
@[simp] theorem addFill_measure (f : Family) (m : Nat) (s : State) : (addFill f m s).measure = s.measure := rfl
@[simp] theorem addFill_drive (f : Family) (m : Nat) (s : State) : (addFill f m s).drive = s.drive := rfl
@[simp] theorem addFill_events (f : Family) (m : Nat) (s : State) : (addFill f m s).events = s.events := rfl
@[simp] theorem addFill_stop (f : Family) (m : Nat) (s : State) : (addFill f m s).stop = s.stop := rfl
@[simp] theorem addFill_ties (f : Family) (m : Nat) (s : State) : (addFill f m s).ties = s.ties := rfl
@[simp] theorem addFill_pending (f : Family) (m : Nat) (s : State) : (addFill f m s).pending = s.pending := rfl

@[simp] theorem setFilterState_powered (f : FilterState) (s : State) : (setFilterState f s).powered = s.powered := rfl
@[simp] theorem setFilterState_ports (f : FilterState) (s : State) : (setFilterState f s).ports = s.ports := rfl
@[simp] theorem setFilterState_watches (f : FilterState) (s : State) : (setFilterState f s).watches = s.watches := rfl
@[simp] theorem setFilterState_slots (f : FilterState) (s : State) : (setFilterState f s).slots = s.slots := rfl
@[simp] theorem setFilterState_supply (f : FilterState) (s : State) : (setFilterState f s).supply = s.supply := rfl
@[simp] theorem setFilterState_filter (f : FilterState) (s : State) :
    (setFilterState f s).filter = { s.filter with state := f } := rfl
@[simp] theorem setFilterState_arbiter (f : FilterState) (s : State) : (setFilterState f s).arbiter = s.arbiter := rfl
@[simp] theorem setFilterState_carousel (f : FilterState) (s : State) :
    (setFilterState f s).carousel = s.carousel := rfl
@[simp] theorem setFilterState_crusher (f : FilterState) (s : State) : (setFilterState f s).crusher = s.crusher := rfl
@[simp] theorem setFilterState_store (f : FilterState) (s : State) : (setFilterState f s).store = s.store := rfl
@[simp] theorem setFilterState_measure (f : FilterState) (s : State) : (setFilterState f s).measure = s.measure := rfl
@[simp] theorem setFilterState_drive (f : FilterState) (s : State) : (setFilterState f s).drive = s.drive := rfl
@[simp] theorem setFilterState_events (f : FilterState) (s : State) : (setFilterState f s).events = s.events := rfl
@[simp] theorem setFilterState_stop (f : FilterState) (s : State) : (setFilterState f s).stop = s.stop := rfl
@[simp] theorem setFilterState_ties (f : FilterState) (s : State) : (setFilterState f s).ties = s.ties := rfl
@[simp] theorem setFilterState_pending (f : FilterState) (s : State) : (setFilterState f s).pending = s.pending := rfl

@[simp] theorem setPendingFlag_powered (b : Bool) (s : State) : (setPendingFlag b s).powered = s.powered := rfl
@[simp] theorem setPendingFlag_ports (b : Bool) (s : State) : (setPendingFlag b s).ports = s.ports := rfl
@[simp] theorem setPendingFlag_watches (b : Bool) (s : State) : (setPendingFlag b s).watches = s.watches := rfl
@[simp] theorem setPendingFlag_slots (b : Bool) (s : State) : (setPendingFlag b s).slots = s.slots := rfl
@[simp] theorem setPendingFlag_supply (b : Bool) (s : State) : (setPendingFlag b s).supply = s.supply := rfl
@[simp] theorem setPendingFlag_filter (b : Bool) (s : State) :
    (setPendingFlag b s).filter = { s.filter with pending := b } := rfl
@[simp] theorem setPendingFlag_arbiter (b : Bool) (s : State) : (setPendingFlag b s).arbiter = s.arbiter := rfl
@[simp] theorem setPendingFlag_carousel (b : Bool) (s : State) : (setPendingFlag b s).carousel = s.carousel := rfl
@[simp] theorem setPendingFlag_crusher (b : Bool) (s : State) : (setPendingFlag b s).crusher = s.crusher := rfl
@[simp] theorem setPendingFlag_store (b : Bool) (s : State) : (setPendingFlag b s).store = s.store := rfl
@[simp] theorem setPendingFlag_measure (b : Bool) (s : State) : (setPendingFlag b s).measure = s.measure := rfl
@[simp] theorem setPendingFlag_drive (b : Bool) (s : State) : (setPendingFlag b s).drive = s.drive := rfl
@[simp] theorem setPendingFlag_events (b : Bool) (s : State) : (setPendingFlag b s).events = s.events := rfl
@[simp] theorem setPendingFlag_stop (b : Bool) (s : State) : (setPendingFlag b s).stop = s.stop := rfl
@[simp] theorem setPendingFlag_ties (b : Bool) (s : State) : (setPendingFlag b s).ties = s.ties := rfl
@[simp] theorem setPendingFlag_pending (b : Bool) (s : State) : (setPendingFlag b s).pending = s.pending := rfl

@[simp] theorem emptyTrough_powered (s : State) : (emptyTrough s).powered = s.powered := rfl
@[simp] theorem emptyTrough_ports (s : State) : (emptyTrough s).ports = s.ports := rfl
@[simp] theorem emptyTrough_watches (s : State) : (emptyTrough s).watches = s.watches := rfl
@[simp] theorem emptyTrough_slots (s : State) : (emptyTrough s).slots = s.slots := rfl
@[simp] theorem emptyTrough_supply (s : State) : (emptyTrough s).supply = s.supply := rfl
@[simp] theorem emptyTrough_filter (s : State) : (emptyTrough s).filter = { s.filter with troughFull := false } := rfl
@[simp] theorem emptyTrough_arbiter (s : State) : (emptyTrough s).arbiter = s.arbiter := rfl
@[simp] theorem emptyTrough_carousel (s : State) : (emptyTrough s).carousel = s.carousel := rfl
@[simp] theorem emptyTrough_crusher (s : State) : (emptyTrough s).crusher = s.crusher := rfl
@[simp] theorem emptyTrough_store (s : State) : (emptyTrough s).store = s.store := rfl
@[simp] theorem emptyTrough_measure (s : State) : (emptyTrough s).measure = s.measure := rfl
@[simp] theorem emptyTrough_drive (s : State) : (emptyTrough s).drive = s.drive := rfl
@[simp] theorem emptyTrough_events (s : State) : (emptyTrough s).events = s.events := rfl
@[simp] theorem emptyTrough_stop (s : State) : (emptyTrough s).stop = s.stop := rfl
@[simp] theorem emptyTrough_ties (s : State) : (emptyTrough s).ties = s.ties := rfl
@[simp] theorem emptyTrough_pending (s : State) : (emptyTrough s).pending = s.pending := rfl

@[simp] theorem copyBackwashDp_powered (s : State) : (copyBackwashDp s).powered = s.powered := rfl
@[simp] theorem copyBackwashDp_ports (s : State) : (copyBackwashDp s).ports = s.ports := rfl
@[simp] theorem copyBackwashDp_watches (s : State) : (copyBackwashDp s).watches = s.watches := rfl
@[simp] theorem copyBackwashDp_slots (s : State) : (copyBackwashDp s).slots = s.slots := rfl
@[simp] theorem copyBackwashDp_supply (s : State) :
    (copyBackwashDp s).supply = { s.supply with backwashDp := if s.supply.dpMark then s.supply.dp else s.line.dpTrigger } := rfl
@[simp] theorem copyBackwashDp_filter (s : State) : (copyBackwashDp s).filter = s.filter := rfl
@[simp] theorem copyBackwashDp_arbiter (s : State) : (copyBackwashDp s).arbiter = s.arbiter := rfl
@[simp] theorem copyBackwashDp_carousel (s : State) : (copyBackwashDp s).carousel = s.carousel := rfl
@[simp] theorem copyBackwashDp_crusher (s : State) : (copyBackwashDp s).crusher = s.crusher := rfl
@[simp] theorem copyBackwashDp_store (s : State) : (copyBackwashDp s).store = s.store := rfl
@[simp] theorem copyBackwashDp_measure (s : State) : (copyBackwashDp s).measure = s.measure := rfl
@[simp] theorem copyBackwashDp_drive (s : State) : (copyBackwashDp s).drive = s.drive := rfl
@[simp] theorem copyBackwashDp_events (s : State) : (copyBackwashDp s).events = s.events := rfl
@[simp] theorem copyBackwashDp_stop (s : State) : (copyBackwashDp s).stop = s.stop := rfl
@[simp] theorem copyBackwashDp_ties (s : State) : (copyBackwashDp s).ties = s.ties := rfl
@[simp] theorem copyBackwashDp_pending (s : State) : (copyBackwashDp s).pending = s.pending := rfl

@[simp] theorem takeGoodDp_powered (n : Nat) (s : State) : (takeGoodDp n s).powered = s.powered := rfl
@[simp] theorem takeGoodDp_ports (n : Nat) (s : State) : (takeGoodDp n s).ports = s.ports := rfl
@[simp] theorem takeGoodDp_watches (n : Nat) (s : State) : (takeGoodDp n s).watches = s.watches := rfl
@[simp] theorem takeGoodDp_slots (n : Nat) (s : State) : (takeGoodDp n s).slots = s.slots := rfl
@[simp] theorem takeGoodDp_supply (n : Nat) (s : State) :
    (takeGoodDp n s).supply = { s.supply with dp := n, dpFaults := 0, dpMark := true } := rfl
@[simp] theorem takeGoodDp_filter (n : Nat) (s : State) : (takeGoodDp n s).filter = s.filter := rfl
@[simp] theorem takeGoodDp_arbiter (n : Nat) (s : State) : (takeGoodDp n s).arbiter = s.arbiter := rfl
@[simp] theorem takeGoodDp_carousel (n : Nat) (s : State) : (takeGoodDp n s).carousel = s.carousel := rfl
@[simp] theorem takeGoodDp_crusher (n : Nat) (s : State) : (takeGoodDp n s).crusher = s.crusher := rfl
@[simp] theorem takeGoodDp_store (n : Nat) (s : State) : (takeGoodDp n s).store = s.store := rfl
@[simp] theorem takeGoodDp_measure (n : Nat) (s : State) : (takeGoodDp n s).measure = s.measure := rfl
@[simp] theorem takeGoodDp_drive (n : Nat) (s : State) : (takeGoodDp n s).drive = s.drive := rfl
@[simp] theorem takeGoodDp_events (n : Nat) (s : State) : (takeGoodDp n s).events = s.events := rfl
@[simp] theorem takeGoodDp_stop (n : Nat) (s : State) : (takeGoodDp n s).stop = s.stop := rfl
@[simp] theorem takeGoodDp_ties (n : Nat) (s : State) : (takeGoodDp n s).ties = s.ties := rfl
@[simp] theorem takeGoodDp_pending (n : Nat) (s : State) : (takeGoodDp n s).pending = s.pending := rfl

@[simp] theorem setPlace_powered (src : Source) (r : Option DischargeRequest) (s : State) :
    (setPlace src r s).powered = s.powered := rfl
@[simp] theorem setPlace_ports (src : Source) (r : Option DischargeRequest) (s : State) :
    (setPlace src r s).ports = s.ports := rfl
@[simp] theorem setPlace_watches (src : Source) (r : Option DischargeRequest) (s : State) :
    (setPlace src r s).watches = s.watches := rfl
@[simp] theorem setPlace_slots (src : Source) (r : Option DischargeRequest) (s : State) :
    (setPlace src r s).slots = s.slots := rfl
@[simp] theorem setPlace_supply (src : Source) (r : Option DischargeRequest) (s : State) :
    (setPlace src r s).supply = s.supply := rfl
@[simp] theorem setPlace_filter (src : Source) (r : Option DischargeRequest) (s : State) :
    (setPlace src r s).filter = s.filter := rfl
@[simp] theorem setPlace_arbiter (src : Source) (r : Option DischargeRequest) (s : State) :
    (setPlace src r s).arbiter = { s.arbiter with requests := s.arbiter.requests.set src r } := rfl
@[simp] theorem setPlace_carousel (src : Source) (r : Option DischargeRequest) (s : State) :
    (setPlace src r s).carousel = s.carousel := rfl
@[simp] theorem setPlace_crusher (src : Source) (r : Option DischargeRequest) (s : State) :
    (setPlace src r s).crusher = s.crusher := rfl
@[simp] theorem setPlace_store (src : Source) (r : Option DischargeRequest) (s : State) :
    (setPlace src r s).store = s.store := rfl
@[simp] theorem setPlace_measure (src : Source) (r : Option DischargeRequest) (s : State) :
    (setPlace src r s).measure = s.measure := rfl
@[simp] theorem setPlace_drive (src : Source) (r : Option DischargeRequest) (s : State) :
    (setPlace src r s).drive = s.drive := rfl
@[simp] theorem setPlace_events (src : Source) (r : Option DischargeRequest) (s : State) :
    (setPlace src r s).events = s.events := rfl
@[simp] theorem setPlace_stop (src : Source) (r : Option DischargeRequest) (s : State) :
    (setPlace src r s).stop = s.stop := rfl
@[simp] theorem setPlace_ties (src : Source) (r : Option DischargeRequest) (s : State) :
    (setPlace src r s).ties = s.ties := rfl
@[simp] theorem setPlace_pending (src : Source) (r : Option DischargeRequest) (s : State) :
    (setPlace src r s).pending = s.pending := rfl

@[simp] theorem setLate_powered (st : Station) (o : Option Outcome) (s : State) :
    (setLate st o s).powered = s.powered := rfl
@[simp] theorem setLate_ports (st : Station) (o : Option Outcome) (s : State) :
    (setLate st o s).ports = s.ports := rfl
@[simp] theorem setLate_watches (st : Station) (o : Option Outcome) (s : State) :
    (setLate st o s).watches = s.watches := rfl
@[simp] theorem setLate_slots (st : Station) (o : Option Outcome) (s : State) :
    (setLate st o s).slots = s.slots := rfl
@[simp] theorem setLate_supply (st : Station) (o : Option Outcome) (s : State) :
    (setLate st o s).supply = s.supply := rfl
@[simp] theorem setLate_filter (st : Station) (o : Option Outcome) (s : State) :
    (setLate st o s).filter = s.filter := rfl
@[simp] theorem setLate_arbiter (st : Station) (o : Option Outcome) (s : State) :
    (setLate st o s).arbiter = { s.arbiter with late := s.arbiter.late.set st o } := rfl
@[simp] theorem setLate_carousel (st : Station) (o : Option Outcome) (s : State) :
    (setLate st o s).carousel = s.carousel := rfl
@[simp] theorem setLate_crusher (st : Station) (o : Option Outcome) (s : State) :
    (setLate st o s).crusher = s.crusher := rfl
@[simp] theorem setLate_store (st : Station) (o : Option Outcome) (s : State) :
    (setLate st o s).store = s.store := rfl
@[simp] theorem setLate_measure (st : Station) (o : Option Outcome) (s : State) :
    (setLate st o s).measure = s.measure := rfl
@[simp] theorem setLate_drive (st : Station) (o : Option Outcome) (s : State) :
    (setLate st o s).drive = s.drive := rfl
@[simp] theorem setLate_events (st : Station) (o : Option Outcome) (s : State) :
    (setLate st o s).events = s.events := rfl
@[simp] theorem setLate_stop (st : Station) (o : Option Outcome) (s : State) : (setLate st o s).stop = s.stop := rfl
@[simp] theorem setLate_ties (st : Station) (o : Option Outcome) (s : State) : (setLate st o s).ties = s.ties := rfl
@[simp] theorem setLate_pending (st : Station) (o : Option Outcome) (s : State) :
    (setLate st o s).pending = s.pending := rfl

@[simp] theorem admitLot_powered (l : LotRecord) (s : State) : (admitLot l s).powered = s.powered := rfl
@[simp] theorem admitLot_ports (l : LotRecord) (s : State) : (admitLot l s).ports = s.ports := rfl
@[simp] theorem admitLot_watches (l : LotRecord) (s : State) : (admitLot l s).watches = s.watches := rfl
@[simp] theorem admitLot_slots (l : LotRecord) (s : State) : (admitLot l s).slots = s.slots := rfl
@[simp] theorem admitLot_supply (l : LotRecord) (s : State) : (admitLot l s).supply = s.supply := rfl
@[simp] theorem admitLot_filter (l : LotRecord) (s : State) : (admitLot l s).filter = s.filter := rfl
@[simp] theorem admitLot_arbiter (l : LotRecord) (s : State) : (admitLot l s).arbiter = s.arbiter := rfl
@[simp] theorem admitLot_carousel (l : LotRecord) (s : State) :
    (admitLot l s).carousel = { s.carousel with queue := s.carousel.queue ++ [l], counter := nextNumber l.number } := rfl
@[simp] theorem admitLot_crusher (l : LotRecord) (s : State) : (admitLot l s).crusher = s.crusher := rfl
@[simp] theorem admitLot_store (l : LotRecord) (s : State) : (admitLot l s).store = s.store := rfl
@[simp] theorem admitLot_measure (l : LotRecord) (s : State) : (admitLot l s).measure = s.measure := rfl
@[simp] theorem admitLot_drive (l : LotRecord) (s : State) : (admitLot l s).drive = s.drive := rfl
@[simp] theorem admitLot_events (l : LotRecord) (s : State) : (admitLot l s).events = s.events := rfl
@[simp] theorem admitLot_stop (l : LotRecord) (s : State) : (admitLot l s).stop = s.stop := rfl
@[simp] theorem admitLot_ties (l : LotRecord) (s : State) : (admitLot l s).ties = s.ties := rfl
@[simp] theorem admitLot_pending (l : LotRecord) (s : State) : (admitLot l s).pending = s.pending := rfl

@[simp] theorem takeHead_powered (s : State) : (takeHead s).powered = s.powered := rfl
@[simp] theorem takeHead_ports (s : State) : (takeHead s).ports = s.ports := rfl
@[simp] theorem takeHead_watches (s : State) : (takeHead s).watches = s.watches := rfl
@[simp] theorem takeHead_slots (s : State) : (takeHead s).slots = s.slots := rfl
@[simp] theorem takeHead_supply (s : State) : (takeHead s).supply = s.supply := rfl
@[simp] theorem takeHead_filter (s : State) : (takeHead s).filter = s.filter := rfl
@[simp] theorem takeHead_arbiter (s : State) : (takeHead s).arbiter = s.arbiter := rfl
@[simp] theorem takeHead_carousel (s : State) :
    (takeHead s).carousel = { s.carousel with queue := s.carousel.queue.tail, requested := false, index := .idle } := rfl
@[simp] theorem takeHead_crusher (s : State) : (takeHead s).crusher = s.crusher := rfl
@[simp] theorem takeHead_store (s : State) : (takeHead s).store = s.store := rfl
@[simp] theorem takeHead_measure (s : State) : (takeHead s).measure = s.measure := rfl
@[simp] theorem takeHead_drive (s : State) : (takeHead s).drive = s.drive := rfl
@[simp] theorem takeHead_events (s : State) : (takeHead s).events = s.events := rfl
@[simp] theorem takeHead_stop (s : State) : (takeHead s).stop = s.stop := rfl
@[simp] theorem takeHead_ties (s : State) : (takeHead s).ties = s.ties := rfl
@[simp] theorem takeHead_pending (s : State) : (takeHead s).pending = s.pending := rfl

@[simp] theorem setMode_powered (m : Mode) (s : State) : (setMode m s).powered = s.powered := rfl
@[simp] theorem setMode_ports (m : Mode) (s : State) : (setMode m s).ports = s.ports := rfl
@[simp] theorem setMode_watches (m : Mode) (s : State) : (setMode m s).watches = s.watches := rfl
@[simp] theorem setMode_slots (m : Mode) (s : State) : (setMode m s).slots = s.slots := rfl
@[simp] theorem setMode_supply (m : Mode) (s : State) : (setMode m s).supply = s.supply := rfl
@[simp] theorem setMode_filter (m : Mode) (s : State) : (setMode m s).filter = s.filter := rfl
@[simp] theorem setMode_arbiter (m : Mode) (s : State) : (setMode m s).arbiter = s.arbiter := rfl
@[simp] theorem setMode_carousel (m : Mode) (s : State) :
    (setMode m s).carousel = { s.carousel with mode := m } := rfl
@[simp] theorem setMode_crusher (m : Mode) (s : State) : (setMode m s).crusher = s.crusher := rfl
@[simp] theorem setMode_store (m : Mode) (s : State) : (setMode m s).store = s.store := rfl
@[simp] theorem setMode_measure (m : Mode) (s : State) : (setMode m s).measure = s.measure := rfl
@[simp] theorem setMode_drive (m : Mode) (s : State) : (setMode m s).drive = s.drive := rfl
@[simp] theorem setMode_events (m : Mode) (s : State) : (setMode m s).events = s.events := rfl
@[simp] theorem setMode_stop (m : Mode) (s : State) : (setMode m s).stop = s.stop := rfl
@[simp] theorem setMode_ties (m : Mode) (s : State) : (setMode m s).ties = s.ties := rfl
@[simp] theorem setMode_pending (m : Mode) (s : State) : (setMode m s).pending = s.pending := rfl

@[simp] theorem startStep_powered (n : Nat) (s : State) : (startStep n s).powered = s.powered := rfl
@[simp] theorem startStep_ports (n : Nat) (s : State) : (startStep n s).ports = s.ports := rfl
@[simp] theorem startStep_watches (n : Nat) (s : State) : (startStep n s).watches = s.watches := rfl
@[simp] theorem startStep_slots (n : Nat) (s : State) : (startStep n s).slots = s.slots := rfl
@[simp] theorem startStep_supply (n : Nat) (s : State) : (startStep n s).supply = s.supply := rfl
@[simp] theorem startStep_filter (n : Nat) (s : State) : (startStep n s).filter = s.filter := rfl
@[simp] theorem startStep_arbiter (n : Nat) (s : State) : (startStep n s).arbiter = s.arbiter := rfl
@[simp] theorem startStep_carousel (n : Nat) (s : State) :
    (startStep n s).carousel = { s.carousel with index := .indexing n (stepTime s) } := rfl
@[simp] theorem startStep_crusher (n : Nat) (s : State) : (startStep n s).crusher = s.crusher := rfl
@[simp] theorem startStep_store (n : Nat) (s : State) : (startStep n s).store = s.store := rfl
@[simp] theorem startStep_measure (n : Nat) (s : State) : (startStep n s).measure = s.measure := rfl
@[simp] theorem startStep_drive (n : Nat) (s : State) : (startStep n s).drive = { s.drive with step := true } := rfl
@[simp] theorem startStep_events (n : Nat) (s : State) : (startStep n s).events = s.events := rfl
@[simp] theorem startStep_stop (n : Nat) (s : State) : (startStep n s).stop = s.stop := rfl
@[simp] theorem startStep_ties (n : Nat) (s : State) : (startStep n s).ties = s.ties := rfl
@[simp] theorem startStep_pending (n : Nat) (s : State) : (startStep n s).pending = s.pending := rfl

@[simp] theorem setSensor_powered (x : IndexSensor) (s : State) : (setSensor x s).powered = s.powered := rfl
@[simp] theorem setSensor_ports (x : IndexSensor) (s : State) : (setSensor x s).ports = s.ports := rfl
@[simp] theorem setSensor_watches (x : IndexSensor) (s : State) : (setSensor x s).watches = s.watches := rfl
@[simp] theorem setSensor_slots (x : IndexSensor) (s : State) : (setSensor x s).slots = s.slots := rfl
@[simp] theorem setSensor_supply (x : IndexSensor) (s : State) : (setSensor x s).supply = s.supply := rfl
@[simp] theorem setSensor_filter (x : IndexSensor) (s : State) : (setSensor x s).filter = s.filter := rfl
@[simp] theorem setSensor_arbiter (x : IndexSensor) (s : State) : (setSensor x s).arbiter = s.arbiter := rfl
@[simp] theorem setSensor_carousel (x : IndexSensor) (s : State) : (setSensor x s).carousel = s.carousel := rfl
@[simp] theorem setSensor_crusher (x : IndexSensor) (s : State) : (setSensor x s).crusher = s.crusher := rfl
@[simp] theorem setSensor_store (x : IndexSensor) (s : State) : (setSensor x s).store = s.store := rfl
@[simp] theorem setSensor_measure (x : IndexSensor) (s : State) :
    (setSensor x s).measure = { s.measure with sensor := x } := rfl
@[simp] theorem setSensor_drive (x : IndexSensor) (s : State) : (setSensor x s).drive = s.drive := rfl
@[simp] theorem setSensor_events (x : IndexSensor) (s : State) : (setSensor x s).events = s.events := rfl
@[simp] theorem setSensor_stop (x : IndexSensor) (s : State) : (setSensor x s).stop = s.stop := rfl
@[simp] theorem setSensor_ties (x : IndexSensor) (s : State) : (setSensor x s).ties = s.ties := rfl
@[simp] theorem setSensor_pending (x : IndexSensor) (s : State) : (setSensor x s).pending = s.pending := rfl

@[simp] theorem setShaft_powered (w : ShaftWindow) (s : State) : (setShaft w s).powered = s.powered := rfl
@[simp] theorem setShaft_ports (w : ShaftWindow) (s : State) : (setShaft w s).ports = s.ports := rfl
@[simp] theorem setShaft_watches (w : ShaftWindow) (s : State) : (setShaft w s).watches = s.watches := rfl
@[simp] theorem setShaft_slots (w : ShaftWindow) (s : State) : (setShaft w s).slots = s.slots := rfl
@[simp] theorem setShaft_supply (w : ShaftWindow) (s : State) : (setShaft w s).supply = s.supply := rfl
@[simp] theorem setShaft_filter (w : ShaftWindow) (s : State) : (setShaft w s).filter = s.filter := rfl
@[simp] theorem setShaft_arbiter (w : ShaftWindow) (s : State) : (setShaft w s).arbiter = s.arbiter := rfl
@[simp] theorem setShaft_carousel (w : ShaftWindow) (s : State) : (setShaft w s).carousel = s.carousel := rfl
@[simp] theorem setShaft_crusher (w : ShaftWindow) (s : State) : (setShaft w s).crusher = s.crusher := rfl
@[simp] theorem setShaft_store (w : ShaftWindow) (s : State) : (setShaft w s).store = s.store := rfl
@[simp] theorem setShaft_measure (w : ShaftWindow) (s : State) :
    (setShaft w s).measure = { s.measure with shaft := w } := rfl
@[simp] theorem setShaft_drive (w : ShaftWindow) (s : State) : (setShaft w s).drive = s.drive := rfl
@[simp] theorem setShaft_events (w : ShaftWindow) (s : State) : (setShaft w s).events = s.events := rfl
@[simp] theorem setShaft_stop (w : ShaftWindow) (s : State) : (setShaft w s).stop = s.stop := rfl
@[simp] theorem setShaft_ties (w : ShaftWindow) (s : State) : (setShaft w s).ties = s.ties := rfl
@[simp] theorem setShaft_pending (w : ShaftWindow) (s : State) : (setShaft w s).pending = s.pending := rfl

@[simp] theorem setMonitor_powered (m : Monitor) (b : Bool) (s : State) :
    (setMonitor m b s).powered = s.powered := rfl
@[simp] theorem setMonitor_ports (m : Monitor) (b : Bool) (s : State) : (setMonitor m b s).ports = s.ports := rfl
@[simp] theorem setMonitor_watches (m : Monitor) (b : Bool) (s : State) :
    (setMonitor m b s).watches = s.watches := rfl
@[simp] theorem setMonitor_slots (m : Monitor) (b : Bool) (s : State) : (setMonitor m b s).slots = s.slots := rfl
@[simp] theorem setMonitor_supply (m : Monitor) (b : Bool) (s : State) : (setMonitor m b s).supply = s.supply := rfl
@[simp] theorem setMonitor_filter (m : Monitor) (b : Bool) (s : State) : (setMonitor m b s).filter = s.filter := rfl
@[simp] theorem setMonitor_arbiter (m : Monitor) (b : Bool) (s : State) :
    (setMonitor m b s).arbiter = s.arbiter := rfl
@[simp] theorem setMonitor_carousel (m : Monitor) (b : Bool) (s : State) :
    (setMonitor m b s).carousel = s.carousel := rfl
@[simp] theorem setMonitor_crusher (m : Monitor) (b : Bool) (s : State) :
    (setMonitor m b s).crusher = s.crusher := rfl
@[simp] theorem setMonitor_store (m : Monitor) (b : Bool) (s : State) : (setMonitor m b s).store = s.store := rfl
@[simp] theorem setMonitor_measure (m : Monitor) (b : Bool) (s : State) :
    (setMonitor m b s).measure = { s.measure with monitor := m, supplyGood := b } := rfl
@[simp] theorem setMonitor_drive (m : Monitor) (b : Bool) (s : State) : (setMonitor m b s).drive = s.drive := rfl
@[simp] theorem setMonitor_events (m : Monitor) (b : Bool) (s : State) : (setMonitor m b s).events = s.events := rfl
@[simp] theorem setMonitor_stop (m : Monitor) (b : Bool) (s : State) : (setMonitor m b s).stop = s.stop := rfl
@[simp] theorem setMonitor_ties (m : Monitor) (b : Bool) (s : State) : (setMonitor m b s).ties = s.ties := rfl
@[simp] theorem setMonitor_pending (m : Monitor) (b : Bool) (s : State) :
    (setMonitor m b s).pending = s.pending := rfl

@[simp] theorem startConversion_powered (c : Analog) (s : State) : (startConversion c s).powered = s.powered := rfl
@[simp] theorem startConversion_ports (c : Analog) (s : State) : (startConversion c s).ports = s.ports := rfl
@[simp] theorem startConversion_watches (c : Analog) (s : State) : (startConversion c s).watches = s.watches := rfl
@[simp] theorem startConversion_slots (c : Analog) (s : State) : (startConversion c s).slots = s.slots := rfl
@[simp] theorem startConversion_supply (c : Analog) (s : State) : (startConversion c s).supply = s.supply := rfl
@[simp] theorem startConversion_filter (c : Analog) (s : State) : (startConversion c s).filter = s.filter := rfl
@[simp] theorem startConversion_arbiter (c : Analog) (s : State) : (startConversion c s).arbiter = s.arbiter := rfl
@[simp] theorem startConversion_carousel (c : Analog) (s : State) : (startConversion c s).carousel = s.carousel := rfl
@[simp] theorem startConversion_crusher (c : Analog) (s : State) : (startConversion c s).crusher = s.crusher := rfl
@[simp] theorem startConversion_store (c : Analog) (s : State) : (startConversion c s).store = s.store := rfl
@[simp] theorem startConversion_measure (c : Analog) (s : State) :
    (startConversion c s).measure = { s.measure with conversion := ⟨c, s.line.calibration c, 0⟩ } := rfl
@[simp] theorem startConversion_drive (c : Analog) (s : State) : (startConversion c s).drive = s.drive := rfl
@[simp] theorem startConversion_events (c : Analog) (s : State) : (startConversion c s).events = s.events := rfl
@[simp] theorem startConversion_stop (c : Analog) (s : State) : (startConversion c s).stop = s.stop := rfl
@[simp] theorem startConversion_ties (c : Analog) (s : State) : (startConversion c s).ties = s.ties := rfl
@[simp] theorem startConversion_pending (c : Analog) (s : State) : (startConversion c s).pending = s.pending := rfl

@[simp] theorem setWatch_powered (st : Station) (w : Watch) (s : State) : (setWatch st w s).powered = s.powered := rfl
@[simp] theorem setWatch_ports (st : Station) (w : Watch) (s : State) : (setWatch st w s).ports = s.ports := rfl
@[simp] theorem setWatch_watches (st : Station) (w : Watch) (s : State) :
    (setWatch st w s).watches = s.watches.set st w := rfl
@[simp] theorem setWatch_slots (st : Station) (w : Watch) (s : State) : (setWatch st w s).slots = s.slots := rfl
@[simp] theorem setWatch_supply (st : Station) (w : Watch) (s : State) : (setWatch st w s).supply = s.supply := rfl
@[simp] theorem setWatch_filter (st : Station) (w : Watch) (s : State) : (setWatch st w s).filter = s.filter := rfl
@[simp] theorem setWatch_arbiter (st : Station) (w : Watch) (s : State) : (setWatch st w s).arbiter = s.arbiter := rfl
@[simp] theorem setWatch_carousel (st : Station) (w : Watch) (s : State) :
    (setWatch st w s).carousel = s.carousel := rfl
@[simp] theorem setWatch_crusher (st : Station) (w : Watch) (s : State) : (setWatch st w s).crusher = s.crusher := rfl
@[simp] theorem setWatch_store (st : Station) (w : Watch) (s : State) : (setWatch st w s).store = s.store := rfl
@[simp] theorem setWatch_measure (st : Station) (w : Watch) (s : State) : (setWatch st w s).measure = s.measure := rfl
@[simp] theorem setWatch_drive (st : Station) (w : Watch) (s : State) : (setWatch st w s).drive = s.drive := rfl
@[simp] theorem setWatch_events (st : Station) (w : Watch) (s : State) : (setWatch st w s).events = s.events := rfl
@[simp] theorem setWatch_stop (st : Station) (w : Watch) (s : State) : (setWatch st w s).stop = s.stop := rfl
@[simp] theorem setWatch_ties (st : Station) (w : Watch) (s : State) : (setWatch st w s).ties = s.ties := rfl
@[simp] theorem setWatch_pending (st : Station) (w : Watch) (s : State) : (setWatch st w s).pending = s.pending := rfl

@[simp] theorem setWorking_powered (p : Profile) (s : State) : (setWorking p s).powered = s.powered := rfl
@[simp] theorem setWorking_ports (p : Profile) (s : State) : (setWorking p s).ports = s.ports := rfl
@[simp] theorem setWorking_watches (p : Profile) (s : State) : (setWorking p s).watches = s.watches := rfl
@[simp] theorem setWorking_slots (p : Profile) (s : State) : (setWorking p s).slots = s.slots := rfl
@[simp] theorem setWorking_supply (p : Profile) (s : State) : (setWorking p s).supply = s.supply := rfl
@[simp] theorem setWorking_filter (p : Profile) (s : State) : (setWorking p s).filter = s.filter := rfl
@[simp] theorem setWorking_arbiter (p : Profile) (s : State) : (setWorking p s).arbiter = s.arbiter := rfl
@[simp] theorem setWorking_carousel (p : Profile) (s : State) : (setWorking p s).carousel = s.carousel := rfl
@[simp] theorem setWorking_crusher (p : Profile) (s : State) : (setWorking p s).crusher = s.crusher := rfl
@[simp] theorem setWorking_store (p : Profile) (s : State) :
    (setWorking p s).store = { s.store with working := p } := rfl
@[simp] theorem setWorking_measure (p : Profile) (s : State) : (setWorking p s).measure = s.measure := rfl
@[simp] theorem setWorking_drive (p : Profile) (s : State) : (setWorking p s).drive = s.drive := rfl
@[simp] theorem setWorking_events (p : Profile) (s : State) : (setWorking p s).events = s.events := rfl
@[simp] theorem setWorking_stop (p : Profile) (s : State) : (setWorking p s).stop = s.stop := rfl
@[simp] theorem setWorking_ties (p : Profile) (s : State) : (setWorking p s).ties = s.ties := rfl
@[simp] theorem setWorking_pending (p : Profile) (s : State) : (setWorking p s).pending = s.pending := rfl

@[simp] theorem startSave_powered (n : UserSet) (s : State) : (startSave n s).powered = s.powered := rfl
@[simp] theorem startSave_ports (n : UserSet) (s : State) : (startSave n s).ports = s.ports := rfl
@[simp] theorem startSave_watches (n : UserSet) (s : State) : (startSave n s).watches = s.watches := rfl
@[simp] theorem startSave_slots (n : UserSet) (s : State) : (startSave n s).slots = s.slots := rfl
@[simp] theorem startSave_supply (n : UserSet) (s : State) : (startSave n s).supply = s.supply := rfl
@[simp] theorem startSave_filter (n : UserSet) (s : State) : (startSave n s).filter = s.filter := rfl
@[simp] theorem startSave_arbiter (n : UserSet) (s : State) : (startSave n s).arbiter = s.arbiter := rfl
@[simp] theorem startSave_carousel (n : UserSet) (s : State) : (startSave n s).carousel = s.carousel := rfl
@[simp] theorem startSave_crusher (n : UserSet) (s : State) : (startSave n s).crusher = s.crusher := rfl
@[simp] theorem startSave_store (n : UserSet) (s : State) :
    (startSave n s).store = { s.store with save := .saving n s.store.working Config.saveTime } := rfl
@[simp] theorem startSave_measure (n : UserSet) (s : State) : (startSave n s).measure = s.measure := rfl
@[simp] theorem startSave_drive (n : UserSet) (s : State) : (startSave n s).drive = s.drive := rfl
@[simp] theorem startSave_events (n : UserSet) (s : State) : (startSave n s).events = s.events := rfl
@[simp] theorem startSave_stop (n : UserSet) (s : State) : (startSave n s).stop = s.stop := rfl
@[simp] theorem startSave_ties (n : UserSet) (s : State) : (startSave n s).ties = s.ties := rfl
@[simp] theorem startSave_pending (n : UserSet) (s : State) : (startSave n s).pending = s.pending := rfl

@[simp] theorem selectFactory_powered (s : State) : (selectFactory s).powered = s.powered := rfl
@[simp] theorem selectFactory_ports (s : State) : (selectFactory s).ports = s.ports := rfl
@[simp] theorem selectFactory_watches (s : State) : (selectFactory s).watches = s.watches := rfl
@[simp] theorem selectFactory_slots (s : State) : (selectFactory s).slots = s.slots := rfl
@[simp] theorem selectFactory_supply (s : State) : (selectFactory s).supply = s.supply := rfl
@[simp] theorem selectFactory_filter (s : State) : (selectFactory s).filter = s.filter := rfl
@[simp] theorem selectFactory_arbiter (s : State) : (selectFactory s).arbiter = s.arbiter := rfl
@[simp] theorem selectFactory_carousel (s : State) : (selectFactory s).carousel = s.carousel := rfl
@[simp] theorem selectFactory_crusher (s : State) : (selectFactory s).crusher = s.crusher := rfl
@[simp] theorem selectFactory_store (s : State) :
    (selectFactory s).store = { s.store with nonVolatile := { s.store.nonVolatile with selector := .set0 } } := rfl
@[simp] theorem selectFactory_measure (s : State) : (selectFactory s).measure = s.measure := rfl
@[simp] theorem selectFactory_drive (s : State) : (selectFactory s).drive = s.drive := rfl
@[simp] theorem selectFactory_events (s : State) : (selectFactory s).events = s.events := rfl
@[simp] theorem selectFactory_stop (s : State) : (selectFactory s).stop = s.stop := rfl
@[simp] theorem selectFactory_ties (s : State) : (selectFactory s).ties = s.ties := rfl
@[simp] theorem selectFactory_pending (s : State) : (selectFactory s).pending = s.pending := rfl

@[simp] theorem setPort_powered (p : Port) (x : LinkPort) (s : State) : (setPort p x s).powered = s.powered := rfl
@[simp] theorem setPort_ports (p : Port) (x : LinkPort) (s : State) : (setPort p x s).ports = s.ports.set p x := rfl
@[simp] theorem setPort_watches (p : Port) (x : LinkPort) (s : State) : (setPort p x s).watches = s.watches := rfl
@[simp] theorem setPort_slots (p : Port) (x : LinkPort) (s : State) : (setPort p x s).slots = s.slots := rfl
@[simp] theorem setPort_supply (p : Port) (x : LinkPort) (s : State) : (setPort p x s).supply = s.supply := rfl
@[simp] theorem setPort_filter (p : Port) (x : LinkPort) (s : State) : (setPort p x s).filter = s.filter := rfl
@[simp] theorem setPort_arbiter (p : Port) (x : LinkPort) (s : State) : (setPort p x s).arbiter = s.arbiter := rfl
@[simp] theorem setPort_carousel (p : Port) (x : LinkPort) (s : State) : (setPort p x s).carousel = s.carousel := rfl
@[simp] theorem setPort_crusher (p : Port) (x : LinkPort) (s : State) : (setPort p x s).crusher = s.crusher := rfl
@[simp] theorem setPort_store (p : Port) (x : LinkPort) (s : State) : (setPort p x s).store = s.store := rfl
@[simp] theorem setPort_measure (p : Port) (x : LinkPort) (s : State) : (setPort p x s).measure = s.measure := rfl
@[simp] theorem setPort_drive (p : Port) (x : LinkPort) (s : State) : (setPort p x s).drive = s.drive := rfl
@[simp] theorem setPort_events (p : Port) (x : LinkPort) (s : State) : (setPort p x s).events = s.events := rfl
@[simp] theorem setPort_stop (p : Port) (x : LinkPort) (s : State) : (setPort p x s).stop = s.stop := rfl
@[simp] theorem setPort_ties (p : Port) (x : LinkPort) (s : State) : (setPort p x s).ties = s.ties := rfl
@[simp] theorem setPort_pending (p : Port) (x : LinkPort) (s : State) : (setPort p x s).pending = s.pending := rfl

@[simp] theorem clearDiscards_powered (s : State) : (clearDiscards s).powered = s.powered := rfl
@[simp] theorem clearDiscards_ports (s : State) :
    (clearDiscards s).ports = s.ports.mapKeys (fun _ p => { p with discards := 0 }) := rfl
@[simp] theorem clearDiscards_watches (s : State) : (clearDiscards s).watches = s.watches := rfl
@[simp] theorem clearDiscards_slots (s : State) : (clearDiscards s).slots = s.slots := rfl
@[simp] theorem clearDiscards_supply (s : State) : (clearDiscards s).supply = s.supply := rfl
@[simp] theorem clearDiscards_filter (s : State) : (clearDiscards s).filter = s.filter := rfl
@[simp] theorem clearDiscards_arbiter (s : State) : (clearDiscards s).arbiter = s.arbiter := rfl
@[simp] theorem clearDiscards_carousel (s : State) : (clearDiscards s).carousel = s.carousel := rfl
@[simp] theorem clearDiscards_crusher (s : State) : (clearDiscards s).crusher = s.crusher := rfl
@[simp] theorem clearDiscards_store (s : State) : (clearDiscards s).store = s.store := rfl
@[simp] theorem clearDiscards_measure (s : State) : (clearDiscards s).measure = s.measure := rfl
@[simp] theorem clearDiscards_drive (s : State) : (clearDiscards s).drive = s.drive := rfl
@[simp] theorem clearDiscards_events (s : State) : (clearDiscards s).events = s.events := rfl
@[simp] theorem clearDiscards_stop (s : State) : (clearDiscards s).stop = s.stop := rfl
@[simp] theorem clearDiscards_ties (s : State) : (clearDiscards s).ties = s.ties := rfl
@[simp] theorem clearDiscards_pending (s : State) : (clearDiscards s).pending = s.pending := rfl

@[simp] theorem closeValves_powered (s : State) : (closeValves s).powered = s.powered := rfl
@[simp] theorem closeValves_ports (s : State) : (closeValves s).ports = s.ports := rfl
@[simp] theorem closeValves_watches (s : State) : (closeValves s).watches = s.watches := rfl
@[simp] theorem closeValves_slots (s : State) : (closeValves s).slots = s.slots := rfl
@[simp] theorem closeValves_supply (s : State) : (closeValves s).supply = s.supply := rfl
@[simp] theorem closeValves_filter (s : State) : (closeValves s).filter = s.filter := rfl
@[simp] theorem closeValves_arbiter (s : State) : (closeValves s).arbiter = s.arbiter := rfl
@[simp] theorem closeValves_carousel (s : State) : (closeValves s).carousel = s.carousel := rfl
@[simp] theorem closeValves_crusher (s : State) : (closeValves s).crusher = s.crusher := rfl
@[simp] theorem closeValves_store (s : State) : (closeValves s).store = s.store := rfl
@[simp] theorem closeValves_measure (s : State) : (closeValves s).measure = s.measure := rfl
@[simp] theorem closeValves_drive (s : State) :
    (closeValves s).drive = { s.drive with channels := .same ⟨0, none, false⟩ } := rfl
@[simp] theorem closeValves_events (s : State) : (closeValves s).events = s.events := rfl
@[simp] theorem closeValves_stop (s : State) : (closeValves s).stop = s.stop := rfl
@[simp] theorem closeValves_ties (s : State) : (closeValves s).ties = s.ties := rfl
@[simp] theorem closeValves_pending (s : State) : (closeValves s).pending = s.pending := rfl

@[simp] theorem restartStations_powered (s : State) : (restartStations s).powered = s.powered := rfl
@[simp] theorem restartStations_ports (s : State) : (restartStations s).ports = s.ports := rfl
@[simp] theorem restartStations_watches (s : State) : (restartStations s).watches = .same watchPowerOn := rfl
@[simp] theorem restartStations_slots (s : State) : (restartStations s).slots = .same none := rfl
@[simp] theorem restartStations_supply (s : State) : (restartStations s).supply = s.supply := rfl
@[simp] theorem restartStations_filter (s : State) : (restartStations s).filter = s.filter := rfl
@[simp] theorem restartStations_arbiter (s : State) : (restartStations s).arbiter = s.arbiter := rfl
@[simp] theorem restartStations_carousel (s : State) : (restartStations s).carousel = s.carousel := rfl
@[simp] theorem restartStations_crusher (s : State) : (restartStations s).crusher = s.crusher := rfl
@[simp] theorem restartStations_store (s : State) : (restartStations s).store = s.store := rfl
@[simp] theorem restartStations_measure (s : State) : (restartStations s).measure = s.measure := rfl
@[simp] theorem restartStations_drive (s : State) : (restartStations s).drive = s.drive := rfl
@[simp] theorem restartStations_events (s : State) : (restartStations s).events = s.events := rfl
@[simp] theorem restartStations_stop (s : State) : (restartStations s).stop = s.stop := rfl
@[simp] theorem restartStations_ties (s : State) : (restartStations s).ties = s.ties := rfl
@[simp] theorem restartStations_pending (s : State) : (restartStations s).pending = s.pending := rfl

end Sys2Proof.Machine
end

