-- ==== Sys2Proof/Laws/Frames.lean ====
section
/-! SUPPORT. What each shared operation leaves alone: one lemma per operation, tagged for simp. The parts of the state that
an operation may write are those its lemma does not name. -/

namespace Sys2Proof.Machine

@[simp] theorem flagGrants_frame (b : PerSlot (Option Entry)) (s : State) :
    (flagGrants b s).powered = s.powered ∧ (flagGrants b s).ports = s.ports ∧
      (flagGrants b s).watches = s.watches ∧ (flagGrants b s).slots = s.slots ∧
      (flagGrants b s).supply = s.supply ∧ (flagGrants b s).filter = s.filter ∧
      (flagGrants b s).arbiter = s.arbiter ∧ (flagGrants b s).carousel = s.carousel ∧
      (flagGrants b s).crusher = s.crusher ∧ (flagGrants b s).store = s.store ∧
      (flagGrants b s).measure = s.measure ∧ (flagGrants b s).drive = s.drive ∧ (flagGrants b s).stop = s.stop ∧
      (flagGrants b s).ties = s.ties ∧ (flagGrants b s).pending = s.pending := by
  unfold flagGrants
  have h : ∀ (l : List Station) (s0 : State), (l.foldl (fun s st => if grantsDiffer b s.slots st then
      postStation st .grantChanged s else s) s0) = { s0 with events := (l.foldl (fun s st => if grantsDiffer b s.slots st then
      postStation st .grantChanged s else s) s0).events } := by
    intro l
    induction l with
    | nil => intro s0; rfl
    | cons st l ih =>
      intro s0
      rw [List.foldl_cons, ih]
      split <;> rfl
  rw [h]
  simp

@[simp] theorem allotmentPass_frame (b : PerSlot (Option Entry)) (s : State) :
    (allotmentPass b s).powered = s.powered ∧ (allotmentPass b s).ports = s.ports ∧
      (allotmentPass b s).watches = s.watches ∧ (allotmentPass b s).supply = s.supply ∧
      (allotmentPass b s).filter = s.filter ∧ (allotmentPass b s).arbiter = s.arbiter ∧
      (allotmentPass b s).carousel = s.carousel ∧ (allotmentPass b s).crusher = s.crusher ∧
      (allotmentPass b s).store = s.store ∧ (allotmentPass b s).measure = s.measure ∧
      (allotmentPass b s).stop = s.stop ∧ (allotmentPass b s).ties = s.ties ∧
      (allotmentPass b s).pending = s.pending := by
  simp [allotmentPass]

@[simp] theorem tableEvent_frame (f : PerSlot (Option Entry) → PerSlot (Option Entry)) (s : State) :
    (tableEvent f s).powered = s.powered ∧ (tableEvent f s).ports = s.ports ∧
      (tableEvent f s).watches = s.watches ∧ (tableEvent f s).supply = s.supply ∧
      (tableEvent f s).filter = s.filter ∧ (tableEvent f s).arbiter = s.arbiter ∧
      (tableEvent f s).carousel = s.carousel ∧ (tableEvent f s).crusher = s.crusher ∧
      (tableEvent f s).store = s.store ∧ (tableEvent f s).measure = s.measure ∧ (tableEvent f s).stop = s.stop ∧
      (tableEvent f s).ties = s.ties ∧ (tableEvent f s).pending = s.pending := by
  simp [tableEvent]

@[simp] theorem suspendStation_frame (st : Station) (s : State) :
    (suspendStation st s).powered = s.powered ∧ (suspendStation st s).ports = s.ports ∧
      (suspendStation st s).watches = s.watches ∧ (suspendStation st s).supply = s.supply ∧
      (suspendStation st s).filter = s.filter ∧ (suspendStation st s).arbiter = s.arbiter ∧
      (suspendStation st s).carousel = s.carousel ∧ (suspendStation st s).crusher = s.crusher ∧
      (suspendStation st s).store = s.store ∧ (suspendStation st s).measure = s.measure ∧
      (suspendStation st s).stop = s.stop ∧ (suspendStation st s).ties = s.ties ∧
      (suspendStation st s).pending = s.pending := by
  simp [suspendStation]

@[simp] theorem returnStation_frame (st : Station) (s : State) :
    (returnStation st s).powered = s.powered ∧ (returnStation st s).ports = s.ports ∧
      (returnStation st s).watches = s.watches ∧ (returnStation st s).supply = s.supply ∧
      (returnStation st s).filter = s.filter ∧ (returnStation st s).arbiter = s.arbiter ∧
      (returnStation st s).carousel = s.carousel ∧ (returnStation st s).crusher = s.crusher ∧
      (returnStation st s).store = s.store ∧ (returnStation st s).measure = s.measure ∧
      (returnStation st s).stop = s.stop ∧ (returnStation st s).ties = s.ties ∧
      (returnStation st s).pending = s.pending := by
  simp [returnStation]

@[simp] theorem removeStation_frame (st : Station) (s : State) :
    (removeStation st s).powered = s.powered ∧ (removeStation st s).ports = s.ports ∧
      (removeStation st s).watches = s.watches ∧ (removeStation st s).supply = s.supply ∧
      (removeStation st s).filter = s.filter ∧ (removeStation st s).arbiter = s.arbiter ∧
      (removeStation st s).carousel = s.carousel ∧ (removeStation st s).crusher = s.crusher ∧
      (removeStation st s).store = s.store ∧ (removeStation st s).measure = s.measure ∧
      (removeStation st s).stop = s.stop ∧ (removeStation st s).ties = s.ties ∧
      (removeStation st s).pending = s.pending := by
  simp [removeStation]

@[simp] theorem publish_frame (n : Nat) (s : State) :
    (publish n s).powered = s.powered ∧ (publish n s).ports = s.ports ∧ (publish n s).watches = s.watches ∧
      (publish n s).filter = s.filter ∧ (publish n s).arbiter = s.arbiter ∧ (publish n s).carousel = s.carousel ∧
      (publish n s).crusher = s.crusher ∧ (publish n s).store = s.store ∧ (publish n s).measure = s.measure ∧
      (publish n s).stop = s.stop ∧ (publish n s).ties = s.ties ∧ (publish n s).pending = s.pending := by
  simp [publish]

@[simp] theorem recompute_frame (s : State) :
    (recompute s).powered = s.powered ∧ (recompute s).ports = s.ports ∧ (recompute s).watches = s.watches ∧
      (recompute s).filter = s.filter ∧ (recompute s).arbiter = s.arbiter ∧ (recompute s).carousel = s.carousel ∧
      (recompute s).crusher = s.crusher ∧ (recompute s).store = s.store ∧ (recompute s).measure = s.measure ∧
      (recompute s).stop = s.stop ∧ (recompute s).ties = s.ties ∧ (recompute s).pending = s.pending := by
  simp only [recompute]; (repeat' split) <;> simp

@[simp] theorem publishForced_frame (s : State) :
    (publishForced s).powered = s.powered ∧ (publishForced s).ports = s.ports ∧
      (publishForced s).watches = s.watches ∧ (publishForced s).filter = s.filter ∧
      (publishForced s).arbiter = s.arbiter ∧ (publishForced s).carousel = s.carousel ∧
      (publishForced s).crusher = s.crusher ∧ (publishForced s).store = s.store ∧
      (publishForced s).measure = s.measure ∧ (publishForced s).stop = s.stop ∧ (publishForced s).ties = s.ties ∧
      (publishForced s).pending = s.pending := by
  unfold publishForced; split <;> simp

@[simp] theorem setBand_frame (b : Band) (s : State) :
    (setBand b s).powered = s.powered ∧ (setBand b s).ports = s.ports ∧ (setBand b s).watches = s.watches ∧
      (setBand b s).slots = s.slots ∧ (setBand b s).filter = s.filter ∧ (setBand b s).arbiter = s.arbiter ∧
      (setBand b s).carousel = s.carousel ∧ (setBand b s).crusher = s.crusher ∧ (setBand b s).store = s.store ∧
      (setBand b s).measure = s.measure ∧ (setBand b s).drive = s.drive ∧ (setBand b s).stop = s.stop ∧
      (setBand b s).ties = s.ties ∧ (setBand b s).pending = s.pending := by
  simp only [setBand]; split <;> simp

@[simp] theorem reevaluateBand_frame (s : State) :
    (reevaluateBand s).powered = s.powered ∧ (reevaluateBand s).ports = s.ports ∧
      (reevaluateBand s).watches = s.watches ∧ (reevaluateBand s).slots = s.slots ∧
      (reevaluateBand s).filter = s.filter ∧ (reevaluateBand s).arbiter = s.arbiter ∧
      (reevaluateBand s).carousel = s.carousel ∧ (reevaluateBand s).crusher = s.crusher ∧
      (reevaluateBand s).store = s.store ∧ (reevaluateBand s).measure = s.measure ∧
      (reevaluateBand s).drive = s.drive ∧ (reevaluateBand s).stop = s.stop ∧ (reevaluateBand s).ties = s.ties ∧
      (reevaluateBand s).pending = s.pending := by
  unfold reevaluateBand; (repeat' split) <;> simp

@[simp] theorem postFaultStart_frame (n : Nat) (s : State) :
    (postFaultStart n s).powered = s.powered ∧ (postFaultStart n s).ports = s.ports ∧
      (postFaultStart n s).watches = s.watches ∧ (postFaultStart n s).slots = s.slots ∧
      (postFaultStart n s).supply = s.supply ∧ (postFaultStart n s).filter = s.filter ∧
      (postFaultStart n s).arbiter = s.arbiter ∧ (postFaultStart n s).carousel = s.carousel ∧
      (postFaultStart n s).crusher = s.crusher ∧ (postFaultStart n s).store = s.store ∧
      (postFaultStart n s).measure = s.measure ∧ (postFaultStart n s).drive = s.drive ∧
      (postFaultStart n s).stop = s.stop ∧ (postFaultStart n s).ties = s.ties ∧
      (postFaultStart n s).pending = s.pending := by
  unfold postFaultStart; split <;> simp

@[simp] theorem takeFaultedDp_frame (s : State) :
    (takeFaultedDp s).powered = s.powered ∧ (takeFaultedDp s).ports = s.ports ∧
      (takeFaultedDp s).watches = s.watches ∧ (takeFaultedDp s).slots = s.slots ∧
      (takeFaultedDp s).filter = s.filter ∧ (takeFaultedDp s).arbiter = s.arbiter ∧
      (takeFaultedDp s).carousel = s.carousel ∧ (takeFaultedDp s).crusher = s.crusher ∧
      (takeFaultedDp s).store = s.store ∧ (takeFaultedDp s).measure = s.measure ∧
      (takeFaultedDp s).drive = s.drive ∧ (takeFaultedDp s).stop = s.stop ∧ (takeFaultedDp s).ties = s.ties ∧
      (takeFaultedDp s).pending = s.pending := by
  simp [takeFaultedDp]

@[simp] theorem takeGoodLevel_frame (n : Nat) (s : State) :
    (takeGoodLevel n s).powered = s.powered ∧ (takeGoodLevel n s).ports = s.ports ∧
      (takeGoodLevel n s).watches = s.watches ∧ (takeGoodLevel n s).slots = s.slots ∧
      (takeGoodLevel n s).filter = s.filter ∧ (takeGoodLevel n s).arbiter = s.arbiter ∧
      (takeGoodLevel n s).carousel = s.carousel ∧ (takeGoodLevel n s).crusher = s.crusher ∧
      (takeGoodLevel n s).store = s.store ∧ (takeGoodLevel n s).measure = s.measure ∧
      (takeGoodLevel n s).drive = s.drive ∧ (takeGoodLevel n s).stop = s.stop ∧ (takeGoodLevel n s).ties = s.ties ∧
      (takeGoodLevel n s).pending = s.pending := by
  simp [takeGoodLevel]

@[simp] theorem takeFaultedLevel_frame (s : State) :
    (takeFaultedLevel s).powered = s.powered ∧ (takeFaultedLevel s).ports = s.ports ∧
      (takeFaultedLevel s).watches = s.watches ∧ (takeFaultedLevel s).slots = s.slots ∧
      (takeFaultedLevel s).filter = s.filter ∧ (takeFaultedLevel s).arbiter = s.arbiter ∧
      (takeFaultedLevel s).carousel = s.carousel ∧ (takeFaultedLevel s).crusher = s.crusher ∧
      (takeFaultedLevel s).store = s.store ∧ (takeFaultedLevel s).measure = s.measure ∧
      (takeFaultedLevel s).drive = s.drive ∧ (takeFaultedLevel s).stop = s.stop ∧
      (takeFaultedLevel s).ties = s.ties ∧ (takeFaultedLevel s).pending = s.pending := by
  simp [takeFaultedLevel]

@[simp] theorem tryIndexStart_frame (s : State) :
    (tryIndexStart s).powered = s.powered ∧ (tryIndexStart s).ports = s.ports ∧
      (tryIndexStart s).watches = s.watches ∧ (tryIndexStart s).slots = s.slots ∧
      (tryIndexStart s).supply = s.supply ∧ (tryIndexStart s).filter = s.filter ∧
      (tryIndexStart s).arbiter = s.arbiter ∧ (tryIndexStart s).crusher = s.crusher ∧
      (tryIndexStart s).store = s.store ∧ (tryIndexStart s).measure = s.measure ∧
      (tryIndexStart s).events = s.events ∧ (tryIndexStart s).stop = s.stop ∧ (tryIndexStart s).ties = s.ties ∧
      (tryIndexStart s).pending = s.pending := by
  unfold tryIndexStart; (repeat' split) <;> simp

@[simp] theorem takeIndexRequest_frame (s : State) :
    (takeIndexRequest s).powered = s.powered ∧ (takeIndexRequest s).ports = s.ports ∧
      (takeIndexRequest s).watches = s.watches ∧ (takeIndexRequest s).slots = s.slots ∧
      (takeIndexRequest s).supply = s.supply ∧ (takeIndexRequest s).filter = s.filter ∧
      (takeIndexRequest s).arbiter = s.arbiter ∧ (takeIndexRequest s).crusher = s.crusher ∧
      (takeIndexRequest s).store = s.store ∧ (takeIndexRequest s).measure = s.measure ∧
      (takeIndexRequest s).events = s.events ∧ (takeIndexRequest s).stop = s.stop ∧
      (takeIndexRequest s).ties = s.ties ∧ (takeIndexRequest s).pending = s.pending := by
  unfold takeIndexRequest; (repeat' split) <;> simp

@[simp] theorem enterRunUp_frame (s : State) :
    (enterRunUp s).powered = s.powered ∧ (enterRunUp s).ports = s.ports ∧ (enterRunUp s).watches = s.watches ∧
      (enterRunUp s).slots = s.slots ∧ (enterRunUp s).supply = s.supply ∧ (enterRunUp s).filter = s.filter ∧
      (enterRunUp s).arbiter = s.arbiter ∧ (enterRunUp s).carousel = s.carousel ∧ (enterRunUp s).store = s.store ∧
      (enterRunUp s).events = s.events ∧ (enterRunUp s).stop = s.stop ∧ (enterRunUp s).ties = s.ties ∧
      (enterRunUp s).pending = s.pending := by
  simp [enterRunUp]

@[simp] theorem enterIdleRun_frame (s : State) :
    (enterIdleRun s).powered = s.powered ∧ (enterIdleRun s).ports = s.ports ∧
      (enterIdleRun s).watches = s.watches ∧ (enterIdleRun s).slots = s.slots ∧
      (enterIdleRun s).supply = s.supply ∧ (enterIdleRun s).filter = s.filter ∧
      (enterIdleRun s).arbiter = s.arbiter ∧ (enterIdleRun s).carousel = s.carousel ∧
      (enterIdleRun s).store = s.store ∧ (enterIdleRun s).events = s.events ∧ (enterIdleRun s).stop = s.stop ∧
      (enterIdleRun s).ties = s.ties ∧ (enterIdleRun s).pending = s.pending := by
  simp [enterIdleRun]

@[simp] theorem enterRunDown_frame (s : State) :
    (enterRunDown s).powered = s.powered ∧ (enterRunDown s).ports = s.ports ∧
      (enterRunDown s).watches = s.watches ∧ (enterRunDown s).slots = s.slots ∧
      (enterRunDown s).supply = s.supply ∧ (enterRunDown s).filter = s.filter ∧
      (enterRunDown s).arbiter = s.arbiter ∧ (enterRunDown s).carousel = s.carousel ∧
      (enterRunDown s).store = s.store ∧ (enterRunDown s).events = s.events ∧ (enterRunDown s).stop = s.stop ∧
      (enterRunDown s).ties = s.ties ∧ (enterRunDown s).pending = s.pending := by
  simp [enterRunDown]

@[simp] theorem enterStopped_frame (s : State) :
    (enterStopped s).powered = s.powered ∧ (enterStopped s).ports = s.ports ∧
      (enterStopped s).watches = s.watches ∧ (enterStopped s).slots = s.slots ∧
      (enterStopped s).supply = s.supply ∧ (enterStopped s).filter = s.filter ∧
      (enterStopped s).arbiter = s.arbiter ∧ (enterStopped s).carousel = s.carousel ∧
      (enterStopped s).store = s.store ∧ (enterStopped s).events = s.events ∧ (enterStopped s).stop = s.stop ∧
      (enterStopped s).ties = s.ties ∧ (enterStopped s).pending = s.pending := by
  simp [enterStopped]

@[simp] theorem enterCrushing_frame (s : State) :
    (enterCrushing s).powered = s.powered ∧ (enterCrushing s).ports = s.ports ∧
      (enterCrushing s).watches = s.watches ∧ (enterCrushing s).slots = s.slots ∧
      (enterCrushing s).supply = s.supply ∧ (enterCrushing s).filter = s.filter ∧
      (enterCrushing s).arbiter = s.arbiter ∧ (enterCrushing s).carousel = s.carousel ∧
      (enterCrushing s).store = s.store ∧ (enterCrushing s).events = s.events ∧ (enterCrushing s).stop = s.stop ∧
      (enterCrushing s).ties = s.ties ∧ (enterCrushing s).pending = s.pending := by
  simp [enterCrushing]

@[simp] theorem enterReversing_frame (s : State) :
    (enterReversing s).powered = s.powered ∧ (enterReversing s).ports = s.ports ∧
      (enterReversing s).watches = s.watches ∧ (enterReversing s).slots = s.slots ∧
      (enterReversing s).supply = s.supply ∧ (enterReversing s).filter = s.filter ∧
      (enterReversing s).arbiter = s.arbiter ∧ (enterReversing s).carousel = s.carousel ∧
      (enterReversing s).store = s.store ∧ (enterReversing s).events = s.events ∧
      (enterReversing s).stop = s.stop ∧ (enterReversing s).ties = s.ties ∧ (enterReversing s).pending = s.pending := by
  simp [enterReversing]

@[simp] theorem enterBlocked_frame (s : State) :
    (enterBlocked s).powered = s.powered ∧ (enterBlocked s).ports = s.ports ∧
      (enterBlocked s).watches = s.watches ∧ (enterBlocked s).slots = s.slots ∧
      (enterBlocked s).supply = s.supply ∧ (enterBlocked s).filter = s.filter ∧
      (enterBlocked s).arbiter = s.arbiter ∧ (enterBlocked s).carousel = s.carousel ∧
      (enterBlocked s).store = s.store ∧ (enterBlocked s).events = s.events ∧ (enterBlocked s).stop = s.stop ∧
      (enterBlocked s).ties = s.ties ∧ (enterBlocked s).pending = s.pending := by
  simp [enterBlocked]

@[simp] theorem enterPassThrough_frame (s : State) :
    (enterPassThrough s).powered = s.powered ∧ (enterPassThrough s).ports = s.ports ∧
      (enterPassThrough s).watches = s.watches ∧ (enterPassThrough s).slots = s.slots ∧
      (enterPassThrough s).supply = s.supply ∧ (enterPassThrough s).filter = s.filter ∧
      (enterPassThrough s).arbiter = s.arbiter ∧ (enterPassThrough s).carousel = s.carousel ∧
      (enterPassThrough s).store = s.store ∧ (enterPassThrough s).events = s.events ∧
      (enterPassThrough s).stop = s.stop ∧ (enterPassThrough s).ties = s.ties ∧
      (enterPassThrough s).pending = s.pending := by
  simp [enterPassThrough]

@[simp] theorem enterPurge_frame (n : Nat) (f : ChipFamily) (s : State) :
    (enterPurge n f s).powered = s.powered ∧ (enterPurge n f s).ports = s.ports ∧
      (enterPurge n f s).watches = s.watches ∧ (enterPurge n f s).slots = s.slots ∧
      (enterPurge n f s).supply = s.supply ∧ (enterPurge n f s).filter = s.filter ∧
      (enterPurge n f s).arbiter = s.arbiter ∧ (enterPurge n f s).carousel = s.carousel ∧
      (enterPurge n f s).store = s.store ∧ (enterPurge n f s).events = s.events ∧
      (enterPurge n f s).stop = s.stop ∧ (enterPurge n f s).ties = s.ties ∧ (enterPurge n f s).pending = s.pending := by
  simp [enterPurge]

@[simp] theorem finishPurge_frame (f : ChipFamily) (s : State) :
    (finishPurge f s).powered = s.powered ∧ (finishPurge f s).ports = s.ports ∧
      (finishPurge f s).watches = s.watches ∧ (finishPurge f s).slots = s.slots ∧
      (finishPurge f s).supply = s.supply ∧ (finishPurge f s).filter = s.filter ∧
      (finishPurge f s).arbiter = s.arbiter ∧ (finishPurge f s).carousel = s.carousel ∧
      (finishPurge f s).store = s.store ∧ (finishPurge f s).events = s.events ∧ (finishPurge f s).stop = s.stop ∧
      (finishPurge f s).ties = s.ties ∧ (finishPurge f s).pending = s.pending := by
  simp [finishPurge]

@[simp] theorem waitForBin_frame (f : Family) (s : State) :
    (waitForBin f s).powered = s.powered ∧ (waitForBin f s).ports = s.ports ∧
      (waitForBin f s).watches = s.watches ∧ (waitForBin f s).slots = s.slots ∧
      (waitForBin f s).supply = s.supply ∧ (waitForBin f s).filter = s.filter ∧
      (waitForBin f s).arbiter = s.arbiter ∧ (waitForBin f s).carousel = s.carousel ∧
      (waitForBin f s).store = s.store ∧ (waitForBin f s).measure = s.measure ∧ (waitForBin f s).drive = s.drive ∧
      (waitForBin f s).stop = s.stop ∧ (waitForBin f s).ties = s.ties ∧ (waitForBin f s).pending = s.pending := by
  unfold waitForBin; split <;> simp

@[simp] theorem askForIndex_frame (l : LotRecord) (s : State) :
    (askForIndex l s).powered = s.powered ∧ (askForIndex l s).ports = s.ports ∧
      (askForIndex l s).watches = s.watches ∧ (askForIndex l s).slots = s.slots ∧
      (askForIndex l s).supply = s.supply ∧ (askForIndex l s).filter = s.filter ∧
      (askForIndex l s).arbiter = s.arbiter ∧ (askForIndex l s).store = s.store ∧
      (askForIndex l s).measure = s.measure ∧ (askForIndex l s).events = s.events ∧
      (askForIndex l s).stop = s.stop ∧ (askForIndex l s).ties = s.ties ∧ (askForIndex l s).pending = s.pending := by
  simp [askForIndex]

@[simp] theorem askForChips_frame (l : LotRecord) (c : ChipCopies) (s : State) :
    (askForChips l c s).powered = s.powered ∧ (askForChips l c s).ports = s.ports ∧
      (askForChips l c s).watches = s.watches ∧ (askForChips l c s).slots = s.slots ∧
      (askForChips l c s).supply = s.supply ∧ (askForChips l c s).filter = s.filter ∧
      (askForChips l c s).arbiter = s.arbiter ∧ (askForChips l c s).store = s.store ∧
      (askForChips l c s).measure = s.measure ∧ (askForChips l c s).events = s.events ∧
      (askForChips l c s).stop = s.stop ∧ (askForChips l c s).ties = s.ties ∧
      (askForChips l c s).pending = s.pending := by
  simp [askForChips]

@[simp] theorem feedChips_frame (l : LotRecord) (c : ChipCopies) (s : State) :
    (feedChips l c s).powered = s.powered ∧ (feedChips l c s).ports = s.ports ∧
      (feedChips l c s).watches = s.watches ∧ (feedChips l c s).slots = s.slots ∧
      (feedChips l c s).supply = s.supply ∧ (feedChips l c s).filter = s.filter ∧
      (feedChips l c s).arbiter = s.arbiter ∧ (feedChips l c s).store = s.store ∧
      (feedChips l c s).events = s.events ∧ (feedChips l c s).stop = s.stop ∧ (feedChips l c s).ties = s.ties ∧
      (feedChips l c s).pending = s.pending := by
  unfold feedChips; (repeat' split) <;> simp

@[simp] theorem feedSludge_frame (l : LotRecord) (s : State) :
    (feedSludge l s).powered = s.powered ∧ (feedSludge l s).ports = s.ports ∧
      (feedSludge l s).watches = s.watches ∧ (feedSludge l s).slots = s.slots ∧
      (feedSludge l s).supply = s.supply ∧ (feedSludge l s).filter = s.filter ∧
      (feedSludge l s).arbiter = s.arbiter ∧ (feedSludge l s).store = s.store ∧
      (feedSludge l s).events = s.events ∧ (feedSludge l s).stop = s.stop ∧ (feedSludge l s).ties = s.ties ∧
      (feedSludge l s).pending = s.pending := by
  unfold feedSludge; (repeat' split) <;> simp

@[simp] theorem feedEvaluation_frame (s : State) :
    (feedEvaluation s).powered = s.powered ∧ (feedEvaluation s).ports = s.ports ∧
      (feedEvaluation s).watches = s.watches ∧ (feedEvaluation s).slots = s.slots ∧
      (feedEvaluation s).supply = s.supply ∧ (feedEvaluation s).filter = s.filter ∧
      (feedEvaluation s).arbiter = s.arbiter ∧ (feedEvaluation s).store = s.store ∧
      (feedEvaluation s).stop = s.stop ∧ (feedEvaluation s).ties = s.ties ∧ (feedEvaluation s).pending = s.pending := by
  unfold feedEvaluation; (repeat' split) <;> simp

@[simp] theorem actOnArrival_frame (l : LotRecord) (s : State) :
    (actOnArrival l s).powered = s.powered ∧ (actOnArrival l s).ports = s.ports ∧
      (actOnArrival l s).watches = s.watches ∧ (actOnArrival l s).slots = s.slots ∧
      (actOnArrival l s).supply = s.supply ∧ (actOnArrival l s).filter = s.filter ∧
      (actOnArrival l s).arbiter = s.arbiter ∧ (actOnArrival l s).carousel = s.carousel ∧
      (actOnArrival l s).store = s.store ∧ (actOnArrival l s).events = s.events ∧
      (actOnArrival l s).stop = s.stop ∧ (actOnArrival l s).ties = s.ties ∧ (actOnArrival l s).pending = s.pending := by
  unfold actOnArrival; (repeat' split) <;> simp

@[simp] theorem lotArrives_frame (l : LotRecord) (s : State) :
    (lotArrives l s).powered = s.powered ∧ (lotArrives l s).ports = s.ports ∧
      (lotArrives l s).watches = s.watches ∧ (lotArrives l s).slots = s.slots ∧
      (lotArrives l s).supply = s.supply ∧ (lotArrives l s).filter = s.filter ∧
      (lotArrives l s).arbiter = s.arbiter ∧ (lotArrives l s).carousel = s.carousel ∧
      (lotArrives l s).store = s.store ∧ (lotArrives l s).events = s.events ∧ (lotArrives l s).stop = s.stop ∧
      (lotArrives l s).ties = s.ties ∧ (lotArrives l s).pending = s.pending := by
  simp [lotArrives]

@[simp] theorem reportLot_frame (l : LotRecord) (o : LastOutcome) (k : StationKind) (s : State) :
    (reportLot l o k s).powered = s.powered ∧ (reportLot l o k s).ports = s.ports ∧
      (reportLot l o k s).watches = s.watches ∧ (reportLot l o k s).slots = s.slots ∧
      (reportLot l o k s).supply = s.supply ∧ (reportLot l o k s).filter = s.filter ∧
      (reportLot l o k s).arbiter = s.arbiter ∧ (reportLot l o k s).carousel = s.carousel ∧
      (reportLot l o k s).store = s.store ∧ (reportLot l o k s).measure = s.measure ∧
      (reportLot l o k s).drive = s.drive ∧ (reportLot l o k s).stop = s.stop ∧ (reportLot l o k s).ties = s.ties ∧
      (reportLot l o k s).pending = s.pending := by
  unfold reportLot; split <;> simp

@[simp] theorem endOfFeed_frame (x : SlotLot) (s : State) :
    (endOfFeed x s).powered = s.powered ∧ (endOfFeed x s).ports = s.ports ∧ (endOfFeed x s).watches = s.watches ∧
      (endOfFeed x s).slots = s.slots ∧ (endOfFeed x s).supply = s.supply ∧ (endOfFeed x s).filter = s.filter ∧
      (endOfFeed x s).arbiter = s.arbiter ∧ (endOfFeed x s).store = s.store ∧ (endOfFeed x s).stop = s.stop ∧
      (endOfFeed x s).ties = s.ties ∧ (endOfFeed x s).pending = s.pending := by
  simp [endOfFeed]

@[simp] theorem endOfTransit_frame (x : SlotLot) (s : State) :
    (endOfTransit x s).powered = s.powered ∧ (endOfTransit x s).ports = s.ports ∧
      (endOfTransit x s).watches = s.watches ∧ (endOfTransit x s).slots = s.slots ∧
      (endOfTransit x s).supply = s.supply ∧ (endOfTransit x s).filter = s.filter ∧
      (endOfTransit x s).arbiter = s.arbiter ∧ (endOfTransit x s).store = s.store ∧
      (endOfTransit x s).stop = s.stop ∧ (endOfTransit x s).ties = s.ties ∧ (endOfTransit x s).pending = s.pending := by
  simp [endOfTransit]

@[simp] theorem jam_frame (x : SlotLot) (s : State) :
    (jam x s).powered = s.powered ∧ (jam x s).ports = s.ports ∧ (jam x s).watches = s.watches ∧
      (jam x s).slots = s.slots ∧ (jam x s).supply = s.supply ∧ (jam x s).filter = s.filter ∧
      (jam x s).arbiter = s.arbiter ∧ (jam x s).carousel = s.carousel ∧ (jam x s).store = s.store ∧
      (jam x s).stop = s.stop ∧ (jam x s).ties = s.ties ∧ (jam x s).pending = s.pending := by
  simp only [jam]; split <;> simp

@[simp] theorem testWindow_frame (r : Nat) (x : SlotLot) (c : ChipCopies) (s : State) :
    (testWindow r x c s).powered = s.powered ∧ (testWindow r x c s).ports = s.ports ∧
      (testWindow r x c s).watches = s.watches ∧ (testWindow r x c s).slots = s.slots ∧
      (testWindow r x c s).supply = s.supply ∧ (testWindow r x c s).filter = s.filter ∧
      (testWindow r x c s).arbiter = s.arbiter ∧ (testWindow r x c s).carousel = s.carousel ∧
      (testWindow r x c s).store = s.store ∧ (testWindow r x c s).stop = s.stop ∧
      (testWindow r x c s).ties = s.ties ∧ (testWindow r x c s).pending = s.pending := by
  unfold testWindow; (repeat' split) <;> simp

@[simp] theorem windowDone_frame (r : Nat) (s : State) :
    (windowDone r s).powered = s.powered ∧ (windowDone r s).ports = s.ports ∧
      (windowDone r s).watches = s.watches ∧ (windowDone r s).slots = s.slots ∧
      (windowDone r s).supply = s.supply ∧ (windowDone r s).filter = s.filter ∧
      (windowDone r s).arbiter = s.arbiter ∧ (windowDone r s).carousel = s.carousel ∧
      (windowDone r s).store = s.store ∧ (windowDone r s).stop = s.stop ∧ (windowDone r s).ties = s.ties ∧
      (windowDone r s).pending = s.pending := by
  unfold windowDone; (repeat' split) <;> simp

@[simp] theorem retryLimitWritten_frame (s : State) :
    (retryLimitWritten s).powered = s.powered ∧ (retryLimitWritten s).ports = s.ports ∧
      (retryLimitWritten s).watches = s.watches ∧ (retryLimitWritten s).slots = s.slots ∧
      (retryLimitWritten s).supply = s.supply ∧ (retryLimitWritten s).filter = s.filter ∧
      (retryLimitWritten s).arbiter = s.arbiter ∧ (retryLimitWritten s).carousel = s.carousel ∧
      (retryLimitWritten s).store = s.store ∧ (retryLimitWritten s).measure = s.measure ∧
      (retryLimitWritten s).drive = s.drive ∧ (retryLimitWritten s).events = s.events ∧
      (retryLimitWritten s).stop = s.stop ∧ (retryLimitWritten s).ties = s.ties ∧
      (retryLimitWritten s).pending = s.pending := by
  unfold retryLimitWritten; (repeat' split) <;> simp

@[simp] theorem crusherHalt_frame (s : State) :
    (crusherHalt s).powered = s.powered ∧ (crusherHalt s).ports = s.ports ∧ (crusherHalt s).watches = s.watches ∧
      (crusherHalt s).slots = s.slots ∧ (crusherHalt s).supply = s.supply ∧ (crusherHalt s).filter = s.filter ∧
      (crusherHalt s).arbiter = s.arbiter ∧ (crusherHalt s).carousel = s.carousel ∧
      (crusherHalt s).store = s.store ∧ (crusherHalt s).events = s.events ∧ (crusherHalt s).stop = s.stop ∧
      (crusherHalt s).ties = s.ties ∧ (crusherHalt s).pending = s.pending := by
  unfold crusherHalt; split <;> simp

@[simp] theorem crusherStopEntry_frame (s : State) :
    (crusherStopEntry s).powered = s.powered ∧ (crusherStopEntry s).ports = s.ports ∧
      (crusherStopEntry s).watches = s.watches ∧ (crusherStopEntry s).slots = s.slots ∧
      (crusherStopEntry s).supply = s.supply ∧ (crusherStopEntry s).filter = s.filter ∧
      (crusherStopEntry s).arbiter = s.arbiter ∧ (crusherStopEntry s).carousel = s.carousel ∧
      (crusherStopEntry s).store = s.store ∧ (crusherStopEntry s).events = s.events ∧
      (crusherStopEntry s).stop = s.stop ∧ (crusherStopEntry s).ties = s.ties ∧
      (crusherStopEntry s).pending = s.pending := by
  unfold crusherStopEntry; split <;> simp

@[simp] theorem crusherGoOn_frame (s : State) :
    (crusherGoOn s).powered = s.powered ∧ (crusherGoOn s).ports = s.ports ∧ (crusherGoOn s).watches = s.watches ∧
      (crusherGoOn s).slots = s.slots ∧ (crusherGoOn s).supply = s.supply ∧ (crusherGoOn s).filter = s.filter ∧
      (crusherGoOn s).arbiter = s.arbiter ∧ (crusherGoOn s).store = s.store ∧ (crusherGoOn s).stop = s.stop ∧
      (crusherGoOn s).ties = s.ties ∧ (crusherGoOn s).pending = s.pending := by
  unfold crusherGoOn; (repeat' split) <;> simp

@[simp] theorem crusherRestart_frame (s : State) :
    (crusherRestart s).powered = s.powered ∧ (crusherRestart s).ports = s.ports ∧
      (crusherRestart s).watches = s.watches ∧ (crusherRestart s).slots = s.slots ∧
      (crusherRestart s).supply = s.supply ∧ (crusherRestart s).filter = s.filter ∧
      (crusherRestart s).arbiter = s.arbiter ∧ (crusherRestart s).carousel = s.carousel ∧
      (crusherRestart s).store = s.store ∧ (crusherRestart s).events = s.events ∧
      (crusherRestart s).stop = s.stop ∧ (crusherRestart s).ties = s.ties ∧ (crusherRestart s).pending = s.pending := by
  simp [crusherRestart]

@[simp] theorem startBackwash_frame (s : State) :
    (startBackwash s).powered = s.powered ∧ (startBackwash s).ports = s.ports ∧
      (startBackwash s).watches = s.watches ∧ (startBackwash s).arbiter = s.arbiter ∧
      (startBackwash s).carousel = s.carousel ∧ (startBackwash s).crusher = s.crusher ∧
      (startBackwash s).store = s.store ∧ (startBackwash s).measure = s.measure ∧ (startBackwash s).stop = s.stop ∧
      (startBackwash s).ties = s.ties ∧ (startBackwash s).pending = s.pending := by
  simp [startBackwash]

@[simp] theorem tryPendingBackwash_frame (s : State) :
    (tryPendingBackwash s).powered = s.powered ∧ (tryPendingBackwash s).ports = s.ports ∧
      (tryPendingBackwash s).watches = s.watches ∧ (tryPendingBackwash s).arbiter = s.arbiter ∧
      (tryPendingBackwash s).carousel = s.carousel ∧ (tryPendingBackwash s).crusher = s.crusher ∧
      (tryPendingBackwash s).store = s.store ∧ (tryPendingBackwash s).measure = s.measure ∧
      (tryPendingBackwash s).stop = s.stop ∧ (tryPendingBackwash s).ties = s.ties ∧
      (tryPendingBackwash s).pending = s.pending := by
  unfold tryPendingBackwash; split <;> simp

@[simp] theorem deferBackwash_frame (s : State) :
    (deferBackwash s).powered = s.powered ∧ (deferBackwash s).ports = s.ports ∧
      (deferBackwash s).watches = s.watches ∧ (deferBackwash s).slots = s.slots ∧
      (deferBackwash s).supply = s.supply ∧ (deferBackwash s).arbiter = s.arbiter ∧
      (deferBackwash s).carousel = s.carousel ∧ (deferBackwash s).crusher = s.crusher ∧
      (deferBackwash s).store = s.store ∧ (deferBackwash s).measure = s.measure ∧
      (deferBackwash s).drive = s.drive ∧ (deferBackwash s).stop = s.stop ∧ (deferBackwash s).ties = s.ties ∧
      (deferBackwash s).pending = s.pending := by
  unfold deferBackwash; split <;> simp

@[simp] theorem testTrigger_frame (s : State) :
    (testTrigger s).powered = s.powered ∧ (testTrigger s).ports = s.ports ∧ (testTrigger s).watches = s.watches ∧
      (testTrigger s).arbiter = s.arbiter ∧ (testTrigger s).carousel = s.carousel ∧
      (testTrigger s).crusher = s.crusher ∧ (testTrigger s).store = s.store ∧ (testTrigger s).measure = s.measure ∧
      (testTrigger s).stop = s.stop ∧ (testTrigger s).ties = s.ties ∧ (testTrigger s).pending = s.pending := by
  unfold testTrigger; (repeat' split) <;> simp

@[simp] theorem startFleeceIndex_frame (s : State) :
    (startFleeceIndex s).powered = s.powered ∧ (startFleeceIndex s).ports = s.ports ∧
      (startFleeceIndex s).watches = s.watches ∧ (startFleeceIndex s).slots = s.slots ∧
      (startFleeceIndex s).supply = s.supply ∧ (startFleeceIndex s).arbiter = s.arbiter ∧
      (startFleeceIndex s).carousel = s.carousel ∧ (startFleeceIndex s).crusher = s.crusher ∧
      (startFleeceIndex s).store = s.store ∧ (startFleeceIndex s).measure = s.measure ∧
      (startFleeceIndex s).events = s.events ∧ (startFleeceIndex s).stop = s.stop ∧
      (startFleeceIndex s).ties = s.ties ∧ (startFleeceIndex s).pending = s.pending := by
  simp [startFleeceIndex]

@[simp] theorem endFleeceIndex_frame (s : State) :
    (endFleeceIndex s).powered = s.powered ∧ (endFleeceIndex s).ports = s.ports ∧
      (endFleeceIndex s).watches = s.watches ∧ (endFleeceIndex s).arbiter = s.arbiter ∧
      (endFleeceIndex s).carousel = s.carousel ∧ (endFleeceIndex s).crusher = s.crusher ∧
      (endFleeceIndex s).store = s.store ∧ (endFleeceIndex s).measure = s.measure ∧
      (endFleeceIndex s).stop = s.stop ∧ (endFleeceIndex s).ties = s.ties ∧ (endFleeceIndex s).pending = s.pending := by
  simp [endFleeceIndex]

@[simp] theorem postFleeceLow_frame (a b : Option Nat) (s : State) :
    (postFleeceLow a b s).powered = s.powered ∧ (postFleeceLow a b s).ports = s.ports ∧
      (postFleeceLow a b s).watches = s.watches ∧ (postFleeceLow a b s).slots = s.slots ∧
      (postFleeceLow a b s).supply = s.supply ∧ (postFleeceLow a b s).filter = s.filter ∧
      (postFleeceLow a b s).arbiter = s.arbiter ∧ (postFleeceLow a b s).carousel = s.carousel ∧
      (postFleeceLow a b s).crusher = s.crusher ∧ (postFleeceLow a b s).store = s.store ∧
      (postFleeceLow a b s).measure = s.measure ∧ (postFleeceLow a b s).drive = s.drive ∧
      (postFleeceLow a b s).stop = s.stop ∧ (postFleeceLow a b s).ties = s.ties ∧
      (postFleeceLow a b s).pending = s.pending := by
  unfold postFleeceLow; (repeat' split) <;> simp

@[simp] theorem meterPulse_frame (l m : Nat) (s : State) :
    (meterPulse l m s).powered = s.powered ∧ (meterPulse l m s).ports = s.ports ∧
      (meterPulse l m s).watches = s.watches ∧ (meterPulse l m s).arbiter = s.arbiter ∧
      (meterPulse l m s).carousel = s.carousel ∧ (meterPulse l m s).crusher = s.crusher ∧
      (meterPulse l m s).store = s.store ∧ (meterPulse l m s).measure = s.measure ∧
      (meterPulse l m s).stop = s.stop ∧ (meterPulse l m s).ties = s.ties ∧ (meterPulse l m s).pending = s.pending := by
  simp only [meterPulse]; (repeat' split) <;> simp

@[simp] theorem settleDecision_frame (s : State) :
    (settleDecision s).powered = s.powered ∧ (settleDecision s).ports = s.ports ∧
      (settleDecision s).watches = s.watches ∧ (settleDecision s).arbiter = s.arbiter ∧
      (settleDecision s).carousel = s.carousel ∧ (settleDecision s).crusher = s.crusher ∧
      (settleDecision s).store = s.store ∧ (settleDecision s).measure = s.measure ∧
      (settleDecision s).stop = s.stop ∧ (settleDecision s).ties = s.ties ∧ (settleDecision s).pending = s.pending := by
  unfold settleDecision; (repeat' split) <;> simp

@[simp] theorem filterDpSample_frame (s : State) :
    (filterDpSample s).powered = s.powered ∧ (filterDpSample s).ports = s.ports ∧
      (filterDpSample s).watches = s.watches ∧ (filterDpSample s).arbiter = s.arbiter ∧
      (filterDpSample s).carousel = s.carousel ∧ (filterDpSample s).crusher = s.crusher ∧
      (filterDpSample s).store = s.store ∧ (filterDpSample s).measure = s.measure ∧
      (filterDpSample s).stop = s.stop ∧ (filterDpSample s).ties = s.ties ∧ (filterDpSample s).pending = s.pending := by
  unfold filterDpSample; split <;> simp

@[simp] theorem filterStopEntry_frame (s : State) :
    (filterStopEntry s).powered = s.powered ∧ (filterStopEntry s).ports = s.ports ∧
      (filterStopEntry s).watches = s.watches ∧ (filterStopEntry s).arbiter = s.arbiter ∧
      (filterStopEntry s).carousel = s.carousel ∧ (filterStopEntry s).crusher = s.crusher ∧
      (filterStopEntry s).store = s.store ∧ (filterStopEntry s).measure = s.measure ∧
      (filterStopEntry s).stop = s.stop ∧ (filterStopEntry s).ties = s.ties ∧
      (filterStopEntry s).pending = s.pending := by
  unfold filterStopEntry; split <;> simp

@[simp] theorem filterRestart_frame (s : State) :
    (filterRestart s).powered = s.powered ∧ (filterRestart s).ports = s.ports ∧
      (filterRestart s).watches = s.watches ∧ (filterRestart s).slots = s.slots ∧
      (filterRestart s).supply = s.supply ∧ (filterRestart s).arbiter = s.arbiter ∧
      (filterRestart s).carousel = s.carousel ∧ (filterRestart s).crusher = s.crusher ∧
      (filterRestart s).store = s.store ∧ (filterRestart s).measure = s.measure ∧
      (filterRestart s).events = s.events ∧ (filterRestart s).stop = s.stop ∧ (filterRestart s).ties = s.ties ∧
      (filterRestart s).pending = s.pending := by
  unfold filterRestart; split <;> simp

@[simp] theorem offerTo_frame (st : Station) (r : DischargeRequest) (k : Nat) (s : State) :
    (offerTo st r k s).powered = s.powered ∧ (offerTo st r k s).ports = s.ports ∧
      (offerTo st r k s).watches = s.watches ∧ (offerTo st r k s).slots = s.slots ∧
      (offerTo st r k s).supply = s.supply ∧ (offerTo st r k s).filter = s.filter ∧
      (offerTo st r k s).carousel = s.carousel ∧ (offerTo st r k s).crusher = s.crusher ∧
      (offerTo st r k s).store = s.store ∧ (offerTo st r k s).measure = s.measure ∧
      (offerTo st r k s).drive = s.drive ∧ (offerTo st r k s).stop = s.stop ∧ (offerTo st r k s).ties = s.ties ∧
      (offerTo st r k s).pending = s.pending := by
  simp [offerTo]

@[simp] theorem openGate_frame (src : Source) (r : DischargeRequest) (k : Nat) (d : Option Nat) (s : State) :
    (openGate src r k d s).powered = s.powered ∧ (openGate src r k d s).ports = s.ports ∧
      (openGate src r k d s).watches = s.watches ∧ (openGate src r k d s).slots = s.slots ∧
      (openGate src r k d s).supply = s.supply ∧ (openGate src r k d s).filter = s.filter ∧
      (openGate src r k d s).carousel = s.carousel ∧ (openGate src r k d s).crusher = s.crusher ∧
      (openGate src r k d s).store = s.store ∧ (openGate src r k d s).events = s.events ∧
      (openGate src r k d s).stop = s.stop ∧ (openGate src r k d s).ties = s.ties ∧
      (openGate src r k d s).pending = s.pending := by
  simp [openGate]

@[simp] theorem choose_frame (src : Source) (r : DischargeRequest) (k : Nat) (s : State) :
    (choose src r k s).powered = s.powered ∧ (choose src r k s).ports = s.ports ∧
      (choose src r k s).watches = s.watches ∧ (choose src r k s).slots = s.slots ∧
      (choose src r k s).supply = s.supply ∧ (choose src r k s).filter = s.filter ∧
      (choose src r k s).carousel = s.carousel ∧ (choose src r k s).crusher = s.crusher ∧
      (choose src r k s).store = s.store ∧ (choose src r k s).stop = s.stop ∧ (choose src r k s).ties = s.ties ∧
      (choose src r k s).pending = s.pending := by
  unfold choose; split <;> simp

@[simp] theorem arbitrate_frame (s : State) :
    (arbitrate s).powered = s.powered ∧ (arbitrate s).ports = s.ports ∧ (arbitrate s).watches = s.watches ∧
      (arbitrate s).slots = s.slots ∧ (arbitrate s).supply = s.supply ∧ (arbitrate s).filter = s.filter ∧
      (arbitrate s).carousel = s.carousel ∧ (arbitrate s).crusher = s.crusher ∧ (arbitrate s).store = s.store ∧
      (arbitrate s).stop = s.stop ∧ (arbitrate s).ties = s.ties ∧ (arbitrate s).pending = s.pending := by
  simp only [arbitrate]; (repeat' split) <;> simp

@[simp] theorem chuteFreed_frame (s : State) :
    (chuteFreed s).powered = s.powered ∧ (chuteFreed s).ports = s.ports ∧ (chuteFreed s).watches = s.watches ∧
      (chuteFreed s).slots = s.slots ∧ (chuteFreed s).supply = s.supply ∧ (chuteFreed s).filter = s.filter ∧
      (chuteFreed s).crusher = s.crusher ∧ (chuteFreed s).store = s.store ∧ (chuteFreed s).stop = s.stop ∧
      (chuteFreed s).ties = s.ties ∧ (chuteFreed s).pending = s.pending := by
  simp [chuteFreed]

@[simp] theorem withdrawOffer_frame (src : Source) (r : DischargeRequest) (s : State) :
    (withdrawOffer src r s).powered = s.powered ∧ (withdrawOffer src r s).ports = s.ports ∧
      (withdrawOffer src r s).watches = s.watches ∧ (withdrawOffer src r s).slots = s.slots ∧
      (withdrawOffer src r s).supply = s.supply ∧ (withdrawOffer src r s).filter = s.filter ∧
      (withdrawOffer src r s).carousel = s.carousel ∧ (withdrawOffer src r s).crusher = s.crusher ∧
      (withdrawOffer src r s).store = s.store ∧ (withdrawOffer src r s).measure = s.measure ∧
      (withdrawOffer src r s).drive = s.drive ∧ (withdrawOffer src r s).stop = s.stop ∧
      (withdrawOffer src r s).ties = s.ties ∧ (withdrawOffer src r s).pending = s.pending := by
  simp only [withdrawOffer]; split <;> simp

@[simp] theorem afterRequest_frame (src : Source) (u : Nat) (s : State) :
    (afterRequest src u s).powered = s.powered ∧ (afterRequest src u s).ports = s.ports ∧
      (afterRequest src u s).watches = s.watches ∧ (afterRequest src u s).slots = s.slots ∧
      (afterRequest src u s).supply = s.supply ∧ (afterRequest src u s).filter = s.filter ∧
      (afterRequest src u s).crusher = s.crusher ∧ (afterRequest src u s).store = s.store ∧
      (afterRequest src u s).stop = s.stop ∧ (afterRequest src u s).ties = s.ties ∧
      (afterRequest src u s).pending = s.pending := by
  unfold afterRequest; (repeat' split) <;> simp

@[simp] theorem storeSludge_frame (s : State) :
    (storeSludge s).powered = s.powered ∧ (storeSludge s).ports = s.ports ∧ (storeSludge s).watches = s.watches ∧
      (storeSludge s).slots = s.slots ∧ (storeSludge s).supply = s.supply ∧ (storeSludge s).filter = s.filter ∧
      (storeSludge s).carousel = s.carousel ∧ (storeSludge s).crusher = s.crusher ∧
      (storeSludge s).store = s.store ∧ (storeSludge s).measure = s.measure ∧ (storeSludge s).drive = s.drive ∧
      (storeSludge s).events = s.events ∧ (storeSludge s).stop = s.stop ∧ (storeSludge s).ties = s.ties ∧
      (storeSludge s).pending = s.pending := by
  simp [storeSludge]

@[simp] theorem closeDischarge_frame (src : Source) (s : State) :
    (closeDischarge src s).powered = s.powered ∧ (closeDischarge src s).ports = s.ports ∧
      (closeDischarge src s).watches = s.watches ∧ (closeDischarge src s).slots = s.slots ∧
      (closeDischarge src s).supply = s.supply ∧ (closeDischarge src s).carousel = s.carousel ∧
      (closeDischarge src s).crusher = s.crusher ∧ (closeDischarge src s).store = s.store ∧
      (closeDischarge src s).events = s.events ∧ (closeDischarge src s).stop = s.stop ∧
      (closeDischarge src s).ties = s.ties ∧ (closeDischarge src s).pending = s.pending := by
  simp only [closeDischarge]; split <;> simp

@[simp] theorem headAppears_frame (b : Bool) (s : State) :
    (headAppears b s).powered = s.powered ∧ (headAppears b s).ports = s.ports ∧
      (headAppears b s).watches = s.watches ∧ (headAppears b s).slots = s.slots ∧
      (headAppears b s).supply = s.supply ∧ (headAppears b s).filter = s.filter ∧
      (headAppears b s).arbiter = s.arbiter ∧ (headAppears b s).store = s.store ∧ (headAppears b s).stop = s.stop ∧
      (headAppears b s).ties = s.ties ∧ (headAppears b s).pending = s.pending := by
  unfold headAppears; split <;> simp

@[simp] theorem troughEmptied_frame (src : Source) (s : State) :
    (troughEmptied src s).powered = s.powered ∧ (troughEmptied src s).ports = s.ports ∧
      (troughEmptied src s).watches = s.watches ∧ (troughEmptied src s).arbiter = s.arbiter ∧
      (troughEmptied src s).carousel = s.carousel ∧ (troughEmptied src s).crusher = s.crusher ∧
      (troughEmptied src s).store = s.store ∧ (troughEmptied src s).measure = s.measure ∧
      (troughEmptied src s).stop = s.stop ∧ (troughEmptied src s).ties = s.ties ∧
      (troughEmptied src s).pending = s.pending := by
  unfold troughEmptied; split <;> simp

@[simp] theorem afterFinalise_frame (src : Source) (b : Bool) (s : State) :
    (afterFinalise src b s).powered = s.powered ∧ (afterFinalise src b s).ports = s.ports ∧
      (afterFinalise src b s).watches = s.watches ∧ (afterFinalise src b s).store = s.store ∧
      (afterFinalise src b s).stop = s.stop ∧ (afterFinalise src b s).ties = s.ties ∧
      (afterFinalise src b s).pending = s.pending := by
  simp [afterFinalise]

@[simp] theorem keepLate_frame (src : Source) (o : Outcome) (s : State) :
    (keepLate src o s).powered = s.powered ∧ (keepLate src o s).ports = s.ports ∧
      (keepLate src o s).watches = s.watches ∧ (keepLate src o s).slots = s.slots ∧
      (keepLate src o s).supply = s.supply ∧ (keepLate src o s).filter = s.filter ∧
      (keepLate src o s).carousel = s.carousel ∧ (keepLate src o s).crusher = s.crusher ∧
      (keepLate src o s).store = s.store ∧ (keepLate src o s).measure = s.measure ∧
      (keepLate src o s).drive = s.drive ∧ (keepLate src o s).events = s.events ∧
      (keepLate src o s).stop = s.stop ∧ (keepLate src o s).ties = s.ties ∧ (keepLate src o s).pending = s.pending := by
  unfold keepLate; split <;> simp

@[simp] theorem finalise_frame (src : Source) (r : DischargeRequest) (k : Nat) (c : EndCause) (s : State) :
    (finalise src r k c s).1.powered = s.powered ∧ (finalise src r k c s).1.ports = s.ports ∧
      (finalise src r k c s).1.watches = s.watches ∧ (finalise src r k c s).1.slots = s.slots ∧
      (finalise src r k c s).1.supply = s.supply ∧ (finalise src r k c s).1.crusher = s.crusher ∧
      (finalise src r k c s).1.store = s.store ∧ (finalise src r k c s).1.events = s.events ∧
      (finalise src r k c s).1.stop = s.stop ∧ (finalise src r k c s).1.ties = s.ties ∧
      (finalise src r k c s).1.pending = s.pending := by
  simp only [finalise]; split <;> simp

@[simp] theorem finaliseEvent_frame (src : Source) (r : DischargeRequest) (k : Nat) (c : EndCause) (s : State) :
    (finaliseEvent src r k c s).1.powered = s.powered ∧ (finaliseEvent src r k c s).1.ports = s.ports ∧
      (finaliseEvent src r k c s).1.watches = s.watches ∧ (finaliseEvent src r k c s).1.store = s.store ∧
      (finaliseEvent src r k c s).1.stop = s.stop ∧ (finaliseEvent src r k c s).1.ties = s.ties ∧
      (finaliseEvent src r k c s).1.pending = s.pending := by
  simp [finaliseEvent]

@[simp] theorem finaliseLate_frame (src : Source) (r : DischargeRequest) (k : Nat) (c : EndCause) (s : State) :
    (finaliseLate src r k c s).powered = s.powered ∧ (finaliseLate src r k c s).ports = s.ports ∧
      (finaliseLate src r k c s).watches = s.watches ∧ (finaliseLate src r k c s).store = s.store ∧
      (finaliseLate src r k c s).stop = s.stop ∧ (finaliseLate src r k c s).ties = s.ties ∧
      (finaliseLate src r k c s).pending = s.pending := by
  simp [finaliseLate]

@[simp] theorem arbiterLapse_frame (st : Station) (s : State) :
    (arbiterLapse st s).powered = s.powered ∧ (arbiterLapse st s).ports = s.ports ∧
      (arbiterLapse st s).watches = s.watches ∧ (arbiterLapse st s).store = s.store ∧
      (arbiterLapse st s).stop = s.stop ∧ (arbiterLapse st s).ties = s.ties ∧
      (arbiterLapse st s).pending = s.pending := by
  unfold arbiterLapse; (repeat' split) <;> simp

@[simp] theorem arbiterStopEntry_frame (s : State) :
    (arbiterStopEntry s).powered = s.powered ∧ (arbiterStopEntry s).ports = s.ports ∧
      (arbiterStopEntry s).watches = s.watches ∧ (arbiterStopEntry s).store = s.store ∧
      (arbiterStopEntry s).stop = s.stop ∧ (arbiterStopEntry s).ties = s.ties ∧
      (arbiterStopEntry s).pending = s.pending := by
  unfold arbiterStopEntry; (repeat' split) <;> simp

@[simp] theorem arbiterRestartEnd_frame (s : State) :
    (arbiterRestartEnd s).powered = s.powered ∧ (arbiterRestartEnd s).ports = s.ports ∧
      (arbiterRestartEnd s).watches = s.watches ∧ (arbiterRestartEnd s).slots = s.slots ∧
      (arbiterRestartEnd s).supply = s.supply ∧ (arbiterRestartEnd s).crusher = s.crusher ∧
      (arbiterRestartEnd s).store = s.store ∧ (arbiterRestartEnd s).events = s.events ∧
      (arbiterRestartEnd s).stop = s.stop ∧ (arbiterRestartEnd s).ties = s.ties ∧
      (arbiterRestartEnd s).pending = s.pending := by
  unfold arbiterRestartEnd; (repeat' split) <;> simp

@[simp] theorem arbiterRestart_frame (s : State) :
    (arbiterRestart s).powered = s.powered ∧ (arbiterRestart s).ports = s.ports ∧
      (arbiterRestart s).watches = s.watches ∧ (arbiterRestart s).slots = s.slots ∧
      (arbiterRestart s).supply = s.supply ∧ (arbiterRestart s).crusher = s.crusher ∧
      (arbiterRestart s).store = s.store ∧ (arbiterRestart s).events = s.events ∧
      (arbiterRestart s).stop = s.stop ∧ (arbiterRestart s).ties = s.ties ∧ (arbiterRestart s).pending = s.pending := by
  simp [arbiterRestart]

@[simp] theorem completeIndex_frame (s : State) :
    (completeIndex s).powered = s.powered ∧ (completeIndex s).ports = s.ports ∧
      (completeIndex s).watches = s.watches ∧ (completeIndex s).slots = s.slots ∧
      (completeIndex s).supply = s.supply ∧ (completeIndex s).filter = s.filter ∧
      (completeIndex s).store = s.store ∧ (completeIndex s).stop = s.stop ∧ (completeIndex s).ties = s.ties ∧
      (completeIndex s).pending = s.pending := by
  unfold completeIndex; split <;> simp

@[simp] theorem endFlush_frame (s : State) :
    (endFlush s).powered = s.powered ∧ (endFlush s).ports = s.ports ∧ (endFlush s).watches = s.watches ∧
      (endFlush s).slots = s.slots ∧ (endFlush s).supply = s.supply ∧ (endFlush s).filter = s.filter ∧
      (endFlush s).store = s.store ∧ (endFlush s).stop = s.stop ∧ (endFlush s).ties = s.ties ∧
      (endFlush s).pending = s.pending := by
  simp [endFlush]

@[simp] theorem lastStepMade_frame (s : State) :
    (lastStepMade s).powered = s.powered ∧ (lastStepMade s).ports = s.ports ∧
      (lastStepMade s).watches = s.watches ∧ (lastStepMade s).slots = s.slots ∧
      (lastStepMade s).supply = s.supply ∧ (lastStepMade s).filter = s.filter ∧ (lastStepMade s).store = s.store ∧
      (lastStepMade s).stop = s.stop ∧ (lastStepMade s).ties = s.ties ∧ (lastStepMade s).pending = s.pending := by
  unfold lastStepMade; split <;> simp

@[simp] theorem indexEdge_frame (s : State) :
    (indexEdge s).powered = s.powered ∧ (indexEdge s).ports = s.ports ∧ (indexEdge s).watches = s.watches ∧
      (indexEdge s).slots = s.slots ∧ (indexEdge s).supply = s.supply ∧ (indexEdge s).filter = s.filter ∧
      (indexEdge s).store = s.store ∧ (indexEdge s).stop = s.stop ∧ (indexEdge s).ties = s.ties ∧
      (indexEdge s).pending = s.pending := by
  unfold indexEdge; (repeat' split) <;> simp

@[simp] theorem stepFails_frame (s : State) :
    (stepFails s).powered = s.powered ∧ (stepFails s).ports = s.ports ∧ (stepFails s).watches = s.watches ∧
      (stepFails s).slots = s.slots ∧ (stepFails s).supply = s.supply ∧ (stepFails s).filter = s.filter ∧
      (stepFails s).arbiter = s.arbiter ∧ (stepFails s).crusher = s.crusher ∧ (stepFails s).store = s.store ∧
      (stepFails s).measure = s.measure ∧ (stepFails s).stop = s.stop ∧ (stepFails s).ties = s.ties ∧
      (stepFails s).pending = s.pending := by
  unfold stepFails; split <;> simp

@[simp] theorem withdrawRequest_frame (s : State) :
    (withdrawRequest s).powered = s.powered ∧ (withdrawRequest s).ports = s.ports ∧
      (withdrawRequest s).watches = s.watches ∧ (withdrawRequest s).slots = s.slots ∧
      (withdrawRequest s).supply = s.supply ∧ (withdrawRequest s).filter = s.filter ∧
      (withdrawRequest s).arbiter = s.arbiter ∧ (withdrawRequest s).store = s.store ∧
      (withdrawRequest s).measure = s.measure ∧ (withdrawRequest s).drive = s.drive ∧
      (withdrawRequest s).events = s.events ∧ (withdrawRequest s).stop = s.stop ∧
      (withdrawRequest s).ties = s.ties ∧ (withdrawRequest s).pending = s.pending := by
  unfold withdrawRequest; split <;> simp

@[simp] theorem withdrawEvent_frame (s : State) :
    (withdrawEvent s).powered = s.powered ∧ (withdrawEvent s).ports = s.ports ∧
      (withdrawEvent s).watches = s.watches ∧ (withdrawEvent s).slots = s.slots ∧
      (withdrawEvent s).supply = s.supply ∧ (withdrawEvent s).filter = s.filter ∧
      (withdrawEvent s).store = s.store ∧ (withdrawEvent s).stop = s.stop ∧ (withdrawEvent s).ties = s.ties ∧
      (withdrawEvent s).pending = s.pending := by
  unfold withdrawEvent; split <;> simp

@[simp] theorem capacitiesWritten_frame (l : List Family) (s : State) :
    (capacitiesWritten l s).powered = s.powered ∧ (capacitiesWritten l s).ports = s.ports ∧
      (capacitiesWritten l s).watches = s.watches ∧ (capacitiesWritten l s).slots = s.slots ∧
      (capacitiesWritten l s).supply = s.supply ∧ (capacitiesWritten l s).filter = s.filter ∧
      (capacitiesWritten l s).store = s.store ∧ (capacitiesWritten l s).stop = s.stop ∧
      (capacitiesWritten l s).ties = s.ties ∧ (capacitiesWritten l s).pending = s.pending := by
  simp only [capacitiesWritten]; (repeat' split) <;> simp

@[simp] theorem carouselStopEntry_frame (s : State) :
    (carouselStopEntry s).powered = s.powered ∧ (carouselStopEntry s).ports = s.ports ∧
      (carouselStopEntry s).watches = s.watches ∧ (carouselStopEntry s).slots = s.slots ∧
      (carouselStopEntry s).supply = s.supply ∧ (carouselStopEntry s).filter = s.filter ∧
      (carouselStopEntry s).arbiter = s.arbiter ∧ (carouselStopEntry s).crusher = s.crusher ∧
      (carouselStopEntry s).store = s.store ∧ (carouselStopEntry s).measure = s.measure ∧
      (carouselStopEntry s).events = s.events ∧ (carouselStopEntry s).stop = s.stop ∧
      (carouselStopEntry s).ties = s.ties ∧ (carouselStopEntry s).pending = s.pending := by
  unfold carouselStopEntry; split <;> simp

@[simp] theorem carouselStopExit_frame (s : State) :
    (carouselStopExit s).powered = s.powered ∧ (carouselStopExit s).ports = s.ports ∧
      (carouselStopExit s).watches = s.watches ∧ (carouselStopExit s).slots = s.slots ∧
      (carouselStopExit s).supply = s.supply ∧ (carouselStopExit s).filter = s.filter ∧
      (carouselStopExit s).store = s.store ∧ (carouselStopExit s).stop = s.stop ∧
      (carouselStopExit s).ties = s.ties ∧ (carouselStopExit s).pending = s.pending := by
  unfold carouselStopExit; (repeat' split) <;> simp

@[simp] theorem carouselRestart_frame (s : State) :
    (carouselRestart s).powered = s.powered ∧ (carouselRestart s).ports = s.ports ∧
      (carouselRestart s).watches = s.watches ∧ (carouselRestart s).slots = s.slots ∧
      (carouselRestart s).supply = s.supply ∧ (carouselRestart s).filter = s.filter ∧
      (carouselRestart s).arbiter = s.arbiter ∧ (carouselRestart s).store = s.store ∧
      (carouselRestart s).measure = s.measure ∧ (carouselRestart s).drive = s.drive ∧
      (carouselRestart s).events = s.events ∧ (carouselRestart s).stop = s.stop ∧
      (carouselRestart s).ties = s.ties ∧ (carouselRestart s).pending = s.pending := by
  simp [carouselRestart]

@[simp] theorem enterSafeStop_frame (s : State) :
    (enterSafeStop s).powered = s.powered ∧ (enterSafeStop s).ports = s.ports ∧
      (enterSafeStop s).watches = s.watches ∧ (enterSafeStop s).store = s.store ∧ (enterSafeStop s).stop = s.stop ∧
      (enterSafeStop s).ties = s.ties ∧ (enterSafeStop s).pending = s.pending := by
  simp [enterSafeStop]

@[simp] theorem exitSafeStop_frame (s : State) :
    (exitSafeStop s).powered = s.powered ∧ (exitSafeStop s).ports = s.ports ∧
      (exitSafeStop s).watches = s.watches ∧ (exitSafeStop s).store = s.store ∧ (exitSafeStop s).stop = s.stop ∧
      (exitSafeStop s).ties = s.ties ∧ (exitSafeStop s).pending = s.pending := by
  simp [exitSafeStop, filterStopExit]

@[simp] theorem addCause_frame (k : StopCause) (s : State) :
    (addCause k s).powered = s.powered ∧ (addCause k s).ports = s.ports ∧ (addCause k s).watches = s.watches ∧
      (addCause k s).store = s.store ∧ (addCause k s).ties = s.ties ∧ (addCause k s).pending = s.pending := by
  simp only [addCause]; (repeat' split) <;> simp

@[simp] theorem removeCause_frame (k : StopCause) (s : State) :
    (removeCause k s).powered = s.powered ∧ (removeCause k s).ports = s.ports ∧
      (removeCause k s).watches = s.watches ∧ (removeCause k s).store = s.store ∧ (removeCause k s).ties = s.ties ∧
      (removeCause k s).pending = s.pending := by
  simp only [removeCause]; (repeat' split) <;> simp

@[simp] theorem acceptKeepAlive_frame (st : Station) (ph : Phase) (s : State) :
    (acceptKeepAlive st ph s).powered = s.powered ∧ (acceptKeepAlive st ph s).ports = s.ports ∧
      (acceptKeepAlive st ph s).supply = s.supply ∧ (acceptKeepAlive st ph s).filter = s.filter ∧
      (acceptKeepAlive st ph s).arbiter = s.arbiter ∧ (acceptKeepAlive st ph s).carousel = s.carousel ∧
      (acceptKeepAlive st ph s).crusher = s.crusher ∧ (acceptKeepAlive st ph s).store = s.store ∧
      (acceptKeepAlive st ph s).measure = s.measure ∧ (acceptKeepAlive st ph s).stop = s.stop ∧
      (acceptKeepAlive st ph s).ties = s.ties ∧ (acceptKeepAlive st ph s).pending = s.pending := by
  simp only [acceptKeepAlive]; split <;> simp

@[simp] theorem lapse_frame (st : Station) (s : State) :
    (lapse st s).powered = s.powered ∧ (lapse st s).ports = s.ports ∧ (lapse st s).store = s.store ∧
      (lapse st s).stop = s.stop ∧ (lapse st s).ties = s.ties ∧ (lapse st s).pending = s.pending := by
  simp [lapse]

@[simp] theorem loss_frame (st : Station) (s : State) :
    (loss st s).powered = s.powered ∧ (loss st s).ports = s.ports ∧ (loss st s).supply = s.supply ∧
      (loss st s).filter = s.filter ∧ (loss st s).carousel = s.carousel ∧ (loss st s).crusher = s.crusher ∧
      (loss st s).store = s.store ∧ (loss st s).measure = s.measure ∧ (loss st s).stop = s.stop ∧
      (loss st s).ties = s.ties ∧ (loss st s).pending = s.pending := by
  simp [loss]

@[simp] theorem periodExpires_frame (st : Station) (s : State) :
    (periodExpires st s).powered = s.powered ∧ (periodExpires st s).ports = s.ports ∧
      (periodExpires st s).store = s.store ∧ (periodExpires st s).stop = s.stop ∧
      (periodExpires st s).ties = s.ties ∧ (periodExpires st s).pending = s.pending := by
  unfold periodExpires; (repeat' split) <;> simp

@[simp] theorem applyWatch_frame (st : Station) (s : State) :
    (applyWatch st s).powered = s.powered ∧ (applyWatch st s).ports = s.ports ∧
      (applyWatch st s).supply = s.supply ∧ (applyWatch st s).filter = s.filter ∧
      (applyWatch st s).arbiter = s.arbiter ∧ (applyWatch st s).carousel = s.carousel ∧
      (applyWatch st s).crusher = s.crusher ∧ (applyWatch st s).store = s.store ∧
      (applyWatch st s).measure = s.measure ∧ (applyWatch st s).stop = s.stop ∧ (applyWatch st s).ties = s.ties ∧
      (applyWatch st s).pending = s.pending := by
  simp only [applyWatch]; split <;> simp

@[simp] theorem repostSludge_frame (s : State) :
    (repostSludge s).powered = s.powered ∧ (repostSludge s).ports = s.ports ∧
      (repostSludge s).watches = s.watches ∧ (repostSludge s).slots = s.slots ∧
      (repostSludge s).supply = s.supply ∧ (repostSludge s).filter = s.filter ∧
      (repostSludge s).carousel = s.carousel ∧ (repostSludge s).crusher = s.crusher ∧
      (repostSludge s).store = s.store ∧ (repostSludge s).measure = s.measure ∧ (repostSludge s).drive = s.drive ∧
      (repostSludge s).events = s.events ∧ (repostSludge s).stop = s.stop ∧ (repostSludge s).ties = s.ties ∧
      (repostSludge s).pending = s.pending := by
  unfold repostSludge; split <;> simp

@[simp] theorem crusherAfterRestart_frame (s : State) :
    (crusherAfterRestart s).powered = s.powered ∧ (crusherAfterRestart s).ports = s.ports ∧
      (crusherAfterRestart s).watches = s.watches ∧ (crusherAfterRestart s).slots = s.slots ∧
      (crusherAfterRestart s).supply = s.supply ∧ (crusherAfterRestart s).filter = s.filter ∧
      (crusherAfterRestart s).arbiter = s.arbiter ∧ (crusherAfterRestart s).store = s.store ∧
      (crusherAfterRestart s).stop = s.stop ∧ (crusherAfterRestart s).ties = s.ties ∧
      (crusherAfterRestart s).pending = s.pending := by
  unfold crusherAfterRestart; split <;> simp

@[simp] theorem restartPendingStart_frame (before s : State) :
    (restartPendingStart before s).powered = s.powered ∧ (restartPendingStart before s).ports = s.ports ∧
      (restartPendingStart before s).watches = s.watches ∧ (restartPendingStart before s).arbiter = s.arbiter ∧
      (restartPendingStart before s).carousel = s.carousel ∧ (restartPendingStart before s).crusher = s.crusher ∧
      (restartPendingStart before s).store = s.store ∧ (restartPendingStart before s).measure = s.measure ∧
      (restartPendingStart before s).stop = s.stop ∧ (restartPendingStart before s).ties = s.ties ∧
      (restartPendingStart before s).pending = s.pending := by
  unfold restartPendingStart; split <;> simp

@[simp] theorem restartEnd_frame (s : State) :
    (restartEnd s).powered = s.powered ∧ (restartEnd s).store = s.store ∧ (restartEnd s).stop = s.stop ∧
      (restartEnd s).ties = s.ties ∧ (restartEnd s).pending = s.pending := by
  simp [restartEnd]

@[simp] theorem restartGoOn_frame (s : State) :
    (restartGoOn s).powered = s.powered ∧ (restartGoOn s).ports = s.ports ∧ (restartGoOn s).watches = s.watches ∧
      (restartGoOn s).filter = s.filter ∧ (restartGoOn s).store = s.store ∧ (restartGoOn s).stop = s.stop ∧
      (restartGoOn s).ties = s.ties ∧ (restartGoOn s).pending = s.pending := by
  simp [restartGoOn]

@[simp] theorem lineRestart_frame (s : State) :
    (lineRestart s).powered = s.powered ∧ (lineRestart s).store = s.store ∧ (lineRestart s).stop = s.stop ∧
      (lineRestart s).ties = s.ties ∧ (lineRestart s).pending = s.pending := by
  simp [lineRestart]

@[simp] theorem levelWritten_frame (k : HallKind) (s : State) :
    (levelWritten k s).powered = s.powered ∧ (levelWritten k s).ports = s.ports ∧
      (levelWritten k s).watches = s.watches ∧ (levelWritten k s).slots = s.slots ∧
      (levelWritten k s).supply = s.supply ∧ (levelWritten k s).filter = s.filter ∧
      (levelWritten k s).arbiter = s.arbiter ∧ (levelWritten k s).carousel = s.carousel ∧
      (levelWritten k s).crusher = s.crusher ∧ (levelWritten k s).store = s.store ∧
      (levelWritten k s).measure = s.measure ∧ (levelWritten k s).drive = s.drive ∧
      (levelWritten k s).stop = s.stop ∧ (levelWritten k s).ties = s.ties ∧ (levelWritten k s).pending = s.pending := by
  unfold levelWritten; split <;> simp

@[simp] theorem handOverLine_frame (i : LineItem) (s : State) :
    (handOverLine i s).powered = s.powered ∧ (handOverLine i s).ports = s.ports ∧
      (handOverLine i s).watches = s.watches ∧ (handOverLine i s).store = s.store ∧
      (handOverLine i s).stop = s.stop ∧ (handOverLine i s).ties = s.ties ∧ (handOverLine i s).pending = s.pending := by
  cases i <;> simp [handOverLine]

@[simp] theorem handOver_frame (i : Item) (s : State) :
    (handOver i s).powered = s.powered ∧ (handOver i s).ports = s.ports ∧ (handOver i s).store = s.store ∧
      (handOver i s).stop = s.stop ∧ (handOver i s).ties = s.ties ∧ (handOver i s).pending = s.pending := by
  unfold handOver; (repeat' split) <;> simp

@[simp] theorem storeItem_frame (i : Item) (v : Int) (s : State) :
    (storeItem i v s).powered = s.powered ∧ (storeItem i v s).ports = s.ports ∧ (storeItem i v s).stop = s.stop ∧
      (storeItem i v s).ties = s.ties ∧ (storeItem i v s).pending = s.pending := by
  simp [storeItem]

@[simp] theorem loadSupply_frame (l : LineParams) (s : State) :
    (loadSupply l s).powered = s.powered ∧ (loadSupply l s).ports = s.ports ∧
      (loadSupply l s).watches = s.watches ∧ (loadSupply l s).filter = s.filter ∧
      (loadSupply l s).arbiter = s.arbiter ∧ (loadSupply l s).carousel = s.carousel ∧
      (loadSupply l s).crusher = s.crusher ∧ (loadSupply l s).store = s.store ∧
      (loadSupply l s).measure = s.measure ∧ (loadSupply l s).stop = s.stop ∧ (loadSupply l s).ties = s.ties ∧
      (loadSupply l s).pending = s.pending := by
  unfold loadSupply; split <;> simp

@[simp] theorem loadArbiter_frame (l : LineParams) (s : State) :
    (loadArbiter l s).powered = s.powered ∧ (loadArbiter l s).ports = s.ports ∧
      (loadArbiter l s).watches = s.watches ∧ (loadArbiter l s).slots = s.slots ∧
      (loadArbiter l s).supply = s.supply ∧ (loadArbiter l s).filter = s.filter ∧
      (loadArbiter l s).carousel = s.carousel ∧ (loadArbiter l s).crusher = s.crusher ∧
      (loadArbiter l s).store = s.store ∧ (loadArbiter l s).stop = s.stop ∧ (loadArbiter l s).ties = s.ties ∧
      (loadArbiter l s).pending = s.pending := by
  unfold loadArbiter; split <;> simp

@[simp] theorem loadCrusher_frame (s : State) :
    (loadCrusher s).powered = s.powered ∧ (loadCrusher s).ports = s.ports ∧ (loadCrusher s).watches = s.watches ∧
      (loadCrusher s).slots = s.slots ∧ (loadCrusher s).supply = s.supply ∧ (loadCrusher s).filter = s.filter ∧
      (loadCrusher s).store = s.store ∧ (loadCrusher s).stop = s.stop ∧ (loadCrusher s).ties = s.ties ∧
      (loadCrusher s).pending = s.pending := by
  simp [loadCrusher]

@[simp] theorem loadWatches_frame (s : State) :
    (loadWatches s).powered = s.powered ∧ (loadWatches s).ports = s.ports ∧ (loadWatches s).supply = s.supply ∧
      (loadWatches s).filter = s.filter ∧ (loadWatches s).arbiter = s.arbiter ∧
      (loadWatches s).carousel = s.carousel ∧ (loadWatches s).crusher = s.crusher ∧
      (loadWatches s).store = s.store ∧ (loadWatches s).measure = s.measure ∧ (loadWatches s).stop = s.stop ∧
      (loadWatches s).ties = s.ties ∧ (loadWatches s).pending = s.pending := by
  simp [loadWatches, allStations]

@[simp] theorem loadLevels_frame (s : State) :
    (loadLevels s).powered = s.powered ∧ (loadLevels s).ports = s.ports ∧ (loadLevels s).watches = s.watches ∧
      (loadLevels s).slots = s.slots ∧ (loadLevels s).supply = s.supply ∧ (loadLevels s).filter = s.filter ∧
      (loadLevels s).arbiter = s.arbiter ∧ (loadLevels s).carousel = s.carousel ∧
      (loadLevels s).crusher = s.crusher ∧ (loadLevels s).store = s.store ∧ (loadLevels s).measure = s.measure ∧
      (loadLevels s).drive = s.drive ∧ (loadLevels s).stop = s.stop ∧ (loadLevels s).ties = s.ties ∧
      (loadLevels s).pending = s.pending := by
  simp [loadLevels, allHallKinds]

@[simp] theorem loadProfile_frame (p : Profile) (s : State) :
    (loadProfile p s).powered = s.powered ∧ (loadProfile p s).ports = s.ports ∧ (loadProfile p s).stop = s.stop ∧
      (loadProfile p s).ties = s.ties ∧ (loadProfile p s).pending = s.pending := by
  simp [loadProfile]

@[simp] theorem saveDone_frame (s : State) :
    (saveDone s).powered = s.powered ∧ (saveDone s).ports = s.ports ∧ (saveDone s).watches = s.watches ∧
      (saveDone s).slots = s.slots ∧ (saveDone s).supply = s.supply ∧ (saveDone s).filter = s.filter ∧
      (saveDone s).arbiter = s.arbiter ∧ (saveDone s).carousel = s.carousel ∧ (saveDone s).crusher = s.crusher ∧
      (saveDone s).measure = s.measure ∧ (saveDone s).drive = s.drive ∧ (saveDone s).stop = s.stop ∧
      (saveDone s).ties = s.ties ∧ (saveDone s).pending = s.pending := by
  unfold saveDone; split <;> simp

@[simp] theorem startReply_frame (p : Port) (r : Reply) (s : State) :
    (startReply p r s).powered = s.powered ∧ (startReply p r s).watches = s.watches ∧
      (startReply p r s).slots = s.slots ∧ (startReply p r s).supply = s.supply ∧
      (startReply p r s).filter = s.filter ∧ (startReply p r s).arbiter = s.arbiter ∧
      (startReply p r s).carousel = s.carousel ∧ (startReply p r s).crusher = s.crusher ∧
      (startReply p r s).store = s.store ∧ (startReply p r s).measure = s.measure ∧
      (startReply p r s).drive = s.drive ∧ (startReply p r s).events = s.events ∧
      (startReply p r s).stop = s.stop ∧ (startReply p r s).ties = s.ties ∧ (startReply p r s).pending = s.pending := by
  simp [startReply]

@[simp] theorem endReply_frame (p : Port) (s : State) :
    (endReply p s).powered = s.powered ∧ (endReply p s).watches = s.watches ∧ (endReply p s).slots = s.slots ∧
      (endReply p s).supply = s.supply ∧ (endReply p s).filter = s.filter ∧ (endReply p s).arbiter = s.arbiter ∧
      (endReply p s).carousel = s.carousel ∧ (endReply p s).crusher = s.crusher ∧ (endReply p s).store = s.store ∧
      (endReply p s).measure = s.measure ∧ (endReply p s).drive = s.drive ∧ (endReply p s).events = s.events ∧
      (endReply p s).stop = s.stop ∧ (endReply p s).ties = s.ties ∧ (endReply p s).pending = s.pending := by
  simp only [endReply]; split <;> simp

@[simp] theorem discardFrame_frame (p : Port) (s : State) :
    (discardFrame p s).powered = s.powered ∧ (discardFrame p s).watches = s.watches ∧
      (discardFrame p s).slots = s.slots ∧ (discardFrame p s).supply = s.supply ∧
      (discardFrame p s).filter = s.filter ∧ (discardFrame p s).arbiter = s.arbiter ∧
      (discardFrame p s).carousel = s.carousel ∧ (discardFrame p s).crusher = s.crusher ∧
      (discardFrame p s).store = s.store ∧ (discardFrame p s).measure = s.measure ∧
      (discardFrame p s).drive = s.drive ∧ (discardFrame p s).events = s.events ∧
      (discardFrame p s).stop = s.stop ∧ (discardFrame p s).ties = s.ties ∧ (discardFrame p s).pending = s.pending := by
  simp [discardFrame]

@[simp] theorem acceptFrame_frame (p : Port) (r : LinkRequest) (s : State) :
    (acceptFrame p r s).powered = s.powered ∧ (acceptFrame p r s).watches = s.watches ∧
      (acceptFrame p r s).slots = s.slots ∧ (acceptFrame p r s).supply = s.supply ∧
      (acceptFrame p r s).filter = s.filter ∧ (acceptFrame p r s).arbiter = s.arbiter ∧
      (acceptFrame p r s).carousel = s.carousel ∧ (acceptFrame p r s).crusher = s.crusher ∧
      (acceptFrame p r s).store = s.store ∧ (acceptFrame p r s).measure = s.measure ∧
      (acceptFrame p r s).drive = s.drive ∧ (acceptFrame p r s).events = s.events ∧
      (acceptFrame p r s).stop = s.stop ∧ (acceptFrame p r s).ties = s.ties ∧
      (acceptFrame p r s).pending = s.pending := by
  simp only [acceptFrame]; split <;> simp

@[simp] theorem frameArrives_frame (p : Port) (l : List Byte) (s : State) :
    (frameArrives p l s).powered = s.powered ∧ (frameArrives p l s).watches = s.watches ∧
      (frameArrives p l s).slots = s.slots ∧ (frameArrives p l s).supply = s.supply ∧
      (frameArrives p l s).filter = s.filter ∧ (frameArrives p l s).arbiter = s.arbiter ∧
      (frameArrives p l s).carousel = s.carousel ∧ (frameArrives p l s).crusher = s.crusher ∧
      (frameArrives p l s).store = s.store ∧ (frameArrives p l s).measure = s.measure ∧
      (frameArrives p l s).drive = s.drive ∧ (frameArrives p l s).events = s.events ∧
      (frameArrives p l s).stop = s.stop ∧ (frameArrives p l s).ties = s.ties ∧
      (frameArrives p l s).pending = s.pending := by
  unfold frameArrives; split <;> simp

@[simp] theorem takeByte_frame (p : Port) (b : Byte) (s : State) :
    (takeByte p b s).powered = s.powered ∧ (takeByte p b s).watches = s.watches ∧
      (takeByte p b s).slots = s.slots ∧ (takeByte p b s).supply = s.supply ∧ (takeByte p b s).filter = s.filter ∧
      (takeByte p b s).arbiter = s.arbiter ∧ (takeByte p b s).carousel = s.carousel ∧
      (takeByte p b s).crusher = s.crusher ∧ (takeByte p b s).store = s.store ∧
      (takeByte p b s).measure = s.measure ∧ (takeByte p b s).drive = s.drive ∧
      (takeByte p b s).events = s.events ∧ (takeByte p b s).stop = s.stop ∧ (takeByte p b s).ties = s.ties ∧
      (takeByte p b s).pending = s.pending := by
  simp only [takeByte]; (repeat' split) <;> simp

@[simp] theorem byteArrives_frame (p : Port) (b : Byte) (s : State) :
    (byteArrives p b s).powered = s.powered ∧ (byteArrives p b s).watches = s.watches ∧
      (byteArrives p b s).slots = s.slots ∧ (byteArrives p b s).supply = s.supply ∧
      (byteArrives p b s).filter = s.filter ∧ (byteArrives p b s).arbiter = s.arbiter ∧
      (byteArrives p b s).carousel = s.carousel ∧ (byteArrives p b s).crusher = s.crusher ∧
      (byteArrives p b s).store = s.store ∧ (byteArrives p b s).measure = s.measure ∧
      (byteArrives p b s).drive = s.drive ∧ (byteArrives p b s).events = s.events ∧
      (byteArrives p b s).stop = s.stop ∧ (byteArrives p b s).ties = s.ties ∧
      (byteArrives p b s).pending = s.pending := by
  unfold byteArrives; split <;> simp

@[simp] theorem gapRunsOut_frame (p : Port) (s : State) :
    (gapRunsOut p s).powered = s.powered ∧ (gapRunsOut p s).watches = s.watches ∧
      (gapRunsOut p s).slots = s.slots ∧ (gapRunsOut p s).supply = s.supply ∧ (gapRunsOut p s).filter = s.filter ∧
      (gapRunsOut p s).arbiter = s.arbiter ∧ (gapRunsOut p s).carousel = s.carousel ∧
      (gapRunsOut p s).crusher = s.crusher ∧ (gapRunsOut p s).store = s.store ∧
      (gapRunsOut p s).measure = s.measure ∧ (gapRunsOut p s).drive = s.drive ∧
      (gapRunsOut p s).events = s.events ∧ (gapRunsOut p s).stop = s.stop ∧ (gapRunsOut p s).ties = s.ties ∧
      (gapRunsOut p s).pending = s.pending := by
  unfold gapRunsOut; split <;> simp

@[simp] theorem loadFleece_frame (n : Nat) (s : State) :
    (loadFleece n s).powered = s.powered ∧ (loadFleece n s).ports = s.ports ∧
      (loadFleece n s).watches = s.watches ∧ (loadFleece n s).arbiter = s.arbiter ∧
      (loadFleece n s).carousel = s.carousel ∧ (loadFleece n s).crusher = s.crusher ∧
      (loadFleece n s).store = s.store ∧ (loadFleece n s).measure = s.measure ∧ (loadFleece n s).stop = s.stop ∧
      (loadFleece n s).ties = s.ties ∧ (loadFleece n s).pending = s.pending := by
  simp only [loadFleece]; (repeat' split) <;> simp

@[simp] theorem dpCompletes_frame (r : BitVec 12) (c : Int) (s : State) :
    (dpCompletes r c s).powered = s.powered ∧ (dpCompletes r c s).ports = s.ports ∧
      (dpCompletes r c s).watches = s.watches ∧ (dpCompletes r c s).arbiter = s.arbiter ∧
      (dpCompletes r c s).carousel = s.carousel ∧ (dpCompletes r c s).crusher = s.crusher ∧
      (dpCompletes r c s).store = s.store ∧ (dpCompletes r c s).measure = s.measure ∧
      (dpCompletes r c s).stop = s.stop ∧ (dpCompletes r c s).ties = s.ties ∧
      (dpCompletes r c s).pending = s.pending := by
  unfold dpCompletes; split <;> simp

@[simp] theorem levelCompletes_frame (r : BitVec 12) (c : Int) (s : State) :
    (levelCompletes r c s).powered = s.powered ∧ (levelCompletes r c s).ports = s.ports ∧
      (levelCompletes r c s).watches = s.watches ∧ (levelCompletes r c s).filter = s.filter ∧
      (levelCompletes r c s).arbiter = s.arbiter ∧ (levelCompletes r c s).carousel = s.carousel ∧
      (levelCompletes r c s).crusher = s.crusher ∧ (levelCompletes r c s).store = s.store ∧
      (levelCompletes r c s).measure = s.measure ∧ (levelCompletes r c s).stop = s.stop ∧
      (levelCompletes r c s).ties = s.ties ∧ (levelCompletes r c s).pending = s.pending := by
  unfold levelCompletes; split <;> simp

@[simp] theorem supplyAt_frame (v : Nat) (s : State) :
    (supplyAt v s).powered = s.powered ∧ (supplyAt v s).ports = s.ports ∧ (supplyAt v s).watches = s.watches ∧
      (supplyAt v s).slots = s.slots ∧ (supplyAt v s).supply = s.supply ∧ (supplyAt v s).filter = s.filter ∧
      (supplyAt v s).arbiter = s.arbiter ∧ (supplyAt v s).carousel = s.carousel ∧
      (supplyAt v s).crusher = s.crusher ∧ (supplyAt v s).store = s.store ∧ (supplyAt v s).drive = s.drive ∧
      (supplyAt v s).events = s.events ∧ (supplyAt v s).stop = s.stop ∧ (supplyAt v s).ties = s.ties ∧
      (supplyAt v s).pending = s.pending := by
  unfold supplyAt; split <;> simp

end Sys2Proof.Machine
end

