-- ==== Sys2Proof/Laws/Maps.lean ====
section
/-! SUPPORT. Reading a finite map after a write, and after a map over its values. -/

namespace Sys2Proof.Machine

theorem PerStation.get_set {α : Type} (m : PerStation α) (k j : Station) (a : α) :
    (m.set k a).get j = if j = k then a else m.get j := by cases k <;> cases j <;> rfl

@[simp] theorem PerStation.get_set_same {α : Type} (m : PerStation α) (k : Station) (a : α) :
    (m.set k a).get k = a := by cases k <;> rfl

theorem PerStation.get_set_ne {α : Type} (m : PerStation α) {k j : Station} (h : j ≠ k) (a : α) :
    (m.set k a).get j = m.get j := by rw [PerStation.get_set, if_neg h]

@[simp] theorem PerStation.get_same {α : Type} (a : α) (k : Station) : (PerStation.same a).get k = a := by
  cases k <;> rfl

@[simp] theorem PerStation.get_mapKeys {α β : Type} (f : Station → α → β) (m : PerStation α) (k : Station) :
    (m.mapKeys f).get k = f k (m.get k) := by cases k <;> rfl

theorem PerStation.ext_get {α : Type} {m n : PerStation α} (h : ∀ k, m.get k = n.get k) : m = n := by
  cases m; cases n
  have h1 := h .s1; have h2 := h .s2; have h3 := h .s3; have h4 := h .s4; have h5 := h .s5; have h6 := h .s6
  simp only [PerStation.get] at h1 h2 h3 h4 h5 h6
  subst h1 h2 h3 h4 h5 h6
  rfl

@[simp] theorem PerStation.set_set {α : Type} (m : PerStation α) (k : Station) (a b : α) :
    (m.set k a).set k b = m.set k b := by cases k <;> rfl

@[simp] theorem PerStation.set_get {α : Type} (m : PerStation α) (k : Station) : m.set k (m.get k) = m := by
  cases k <;> rfl

theorem PerHallKind.get_set {α : Type} (m : PerHallKind α) (k j : HallKind) (a : α) :
    (m.set k a).get j = if j = k then a else m.get j := by cases k <;> cases j <;> rfl

@[simp] theorem PerHallKind.get_set_same {α : Type} (m : PerHallKind α) (k : HallKind) (a : α) :
    (m.set k a).get k = a := by cases k <;> rfl

@[simp] theorem PerHallKind.get_same {α : Type} (a : α) (k : HallKind) : (PerHallKind.same a).get k = a := by
  cases k <;> rfl

theorem PerStationKind.get_set {α : Type} (m : PerStationKind α) (k j : StationKind) (a : α) :
    (m.set k a).get j = if j = k then a else m.get j := by cases k <;> cases j <;> rfl

@[simp] theorem PerStationKind.get_set_same {α : Type} (m : PerStationKind α) (k : StationKind) (a : α) :
    (m.set k a).get k = a := by cases k <;> rfl

@[simp] theorem PerStationKind.get_same {α : Type} (a : α) (k : StationKind) : (PerStationKind.same a).get k = a := by
  cases k <;> rfl

theorem PerMaterial.get_set {α : Type} (m : PerMaterial α) (k j : Material) (a : α) :
    (m.set k a).get j = if j = k then a else m.get j := by cases k <;> cases j <;> rfl

@[simp] theorem PerMaterial.get_set_same {α : Type} (m : PerMaterial α) (k : Material) (a : α) :
    (m.set k a).get k = a := by cases k <;> rfl

theorem PerPort.get_set {α : Type} (m : PerPort α) (p q : Port) (a : α) :
    (m.set p a).get q = if q = p then a else m.get q := by
  cases p <;> cases q <;> simp [PerPort.get, PerPort.set, PerStation.get_set]

@[simp] theorem PerPort.get_set_same {α : Type} (m : PerPort α) (p : Port) (a : α) : (m.set p a).get p = a := by
  rw [PerPort.get_set, if_pos rfl]

theorem PerPort.get_set_ne {α : Type} (m : PerPort α) {p q : Port} (h : q ≠ p) (a : α) :
    (m.set p a).get q = m.get q := by rw [PerPort.get_set, if_neg h]

@[simp] theorem PerPort.get_same {α : Type} (a : α) (p : Port) : (PerPort.same a).get p = a := by
  cases p <;> simp [PerPort.get, PerPort.same]

@[simp] theorem PerPort.get_mapKeys {α β : Type} (f : Port → α → β) (m : PerPort α) (p : Port) :
    (m.mapKeys f).get p = f p (m.get p) := by cases p <;> simp [PerPort.get, PerPort.mapKeys]

@[simp] theorem PerPort.set_set {α : Type} (m : PerPort α) (p : Port) (a b : α) :
    (m.set p a).set p b = m.set p b := by cases p <;> simp [PerPort.set]

@[simp] theorem PerPort.set_get {α : Type} (m : PerPort α) (p : Port) : m.set p (m.get p) = m := by
  cases p <;> simp [PerPort.set, PerPort.get]

theorem PerSource.get_set {α : Type} (m : PerSource α) (k j : Source) (a : α) :
    (m.set k a).get j = if j = k then a else m.get j := by
  cases k <;> cases j <;> simp [PerSource.get, PerSource.set, PerStation.get_set]

@[simp] theorem PerSource.get_set_same {α : Type} (m : PerSource α) (k : Source) (a : α) :
    (m.set k a).get k = a := by rw [PerSource.get_set, if_pos rfl]

theorem PerSource.get_set_ne {α : Type} (m : PerSource α) {k j : Source} (h : j ≠ k) (a : α) :
    (m.set k a).get j = m.get j := by rw [PerSource.get_set, if_neg h]

@[simp] theorem PerSource.get_same {α : Type} (a : α) (k : Source) : (PerSource.same a).get k = a := by
  cases k <;> simp [PerSource.get, PerSource.same]

@[simp] theorem PerSource.get_mapKeys {α β : Type} (f : Source → α → β) (m : PerSource α) (k : Source) :
    (m.mapKeys f).get k = f k (m.get k) := by cases k <;> simp [PerSource.get, PerSource.mapKeys]

theorem PerSlot.get_set {α : Type} (m : PerSlot α) (k j : Slot) (a : α) :
    (m.set k a).get j = if j = k then a else m.get j := by
  rcases k with ⟨s, c⟩ | _ | _
  · cases c <;> (rcases j with ⟨s', c'⟩ | _ | _) <;>
      first
        | (cases c' <;> simp [PerSlot.get, PerSlot.set, PerStation.get_set])
        | simp [PerSlot.get, PerSlot.set]
  all_goals (rcases j with ⟨s', c'⟩ | _ | _) <;> first | (cases c' <;> rfl) | rfl

@[simp] theorem PerSlot.get_set_same {α : Type} (m : PerSlot α) (k : Slot) (a : α) : (m.set k a).get k = a := by
  rw [PerSlot.get_set, if_pos rfl]

theorem PerSlot.get_set_ne {α : Type} (m : PerSlot α) {k j : Slot} (h : j ≠ k) (a : α) :
    (m.set k a).get j = m.get j := by rw [PerSlot.get_set, if_neg h]

@[simp] theorem PerSlot.get_same {α : Type} (a : α) (k : Slot) : (PerSlot.same a).get k = a := by
  rcases k with ⟨s, c⟩ | _ | _
  · cases c <;> simp [PerSlot.get, PerSlot.same]
  all_goals rfl

@[simp] theorem PerSlot.get_mapKeys {α β : Type} (f : Slot → α → β) (m : PerSlot α) (k : Slot) :
    (m.mapKeys f).get k = f k (m.get k) := by
  rcases k with ⟨s, c⟩ | _ | _
  · cases c <;> simp [PerSlot.get, PerSlot.mapKeys]
  all_goals rfl

theorem mem_allStations (st : Station) : st ∈ allStations := by cases st <;> decide
theorem mem_allPorts (p : Port) : p ∈ allPorts := by
  rcases p with st | _
  · cases st <;> decide
  · decide
theorem mem_allSources (k : Source) : k ∈ allSources := by
  rcases k with st | _
  · cases st <;> decide
  · decide
theorem mem_allSlots (k : Slot) : k ∈ allSlots := by
  rcases k with ⟨st, c⟩ | _ | _
  · cases st <;> cases c <;> decide
  all_goals decide
theorem mem_allHallKinds (k : HallKind) : k ∈ allHallKinds := by cases k <;> decide
theorem mem_allStationKinds (k : StationKind) : k ∈ allStationKinds := by cases k <;> decide

end Sys2Proof.Machine
end

