-- ==== Sys2Proof/Laws/Links.lean ====
section
/-! SUPPORT. What a request does at its port, said once: taken up, refused before its owning rule, or carried out by it, with
its reply. -/

namespace Sys2Proof.Machine

/-- With the logic supply holding, a command is its function. -/
theorem running_powered (f : State → State) (s : State) (h : s.powered = true) : running f s = .next (f s) := by
  simp [running, h]

/-- Without it nothing happens. -/
theorem running_unpowered (f : State → State) (s : State) (h : s.powered = false) : running f s = .next s := by
  simp [running, h]

theorem kindOfCode_kindCode (k : Kind) : kindOfCode (kindCode k) = some k := by cases k <;> decide

/-- Serving a request: the reply of the rule's answer, and the rule's state but for the ports. -/
theorem serve_replied (p : Port) (r : LinkRequest) (rx : RxState) (f : State → Answer) (s : State)
    (hp : (f s).state.ports = s.ports)
    (hrx : rx = if (s.ports.get p).held = none then .hunting else (s.ports.get p).rx) :
    RepliedCode p r.tag r.kind (f s).result (f s).payload s (serve p r rx f s) ∧
      ButPorts (f s).state (serve p r rx f s) := by
  refine ⟨⟨?_, ?_, ?_, ?_, ?_, ?_⟩, ?_⟩
  · simp [serve, startReply, setPort]
    constructor <;> rfl
  · simp [serve, startReply]
  · simpa [serve, startReply] using hrx
  · simp [serve, startReply, hp]
  · simp [serve, startReply, hp]
  · intro q hq
    simp [serve, startReply, PerPort.get_set_ne _ hq, hp]
  · rfl

/-- A port that takes a request serves it. -/
theorem takeRequest_takes (p : Port) (r : LinkRequest) (f : State → Answer) (s : State) (h : Takes p r s) :
    ∃ rx, takeRequest p r f s = serve p r rx f s ∧
      rx = if (s.ports.get p).held = none then .hunting else (s.ports.get p).rx := by
  obtain ⟨_, h | ⟨h1, h2⟩⟩ := h
  · exact ⟨(s.ports.get p).rx, by simp [takeRequest, h], by simp [h]⟩
  · exact ⟨.hunting, by simp [takeRequest, h1, h2, receiverTakes], by simp [h1]⟩

/-- A request that its port takes: the reply of what the tests and the rule answer. -/
theorem requestOf_takes (p : Port) (k : Kind) (tag : Byte) (payload : List Byte) (rule : State → Answer) (s : State)
    (h : Takes p ⟨tag, kindCode k, payload⟩ s)
    (hp : (checked p k payload rule s).state.ports = s.ports) :
    Answered p tag k (checked p k payload rule s).result (checked p k payload rule s).payload s
      (checked p k payload rule s).state (requestOf p k tag payload rule s) := by
  obtain ⟨rx, h1, h2⟩ := takeRequest_takes p ⟨tag, kindCode k, payload⟩ (checked p k payload rule) s h
  unfold requestOf
  rw [h1]
  exact serve_replied p ⟨tag, kindCode k, payload⟩ rx (checked p k payload rule) s hp h2

/-- A request that passes the tests of kind, length and station watch is its owning rule. -/
theorem checked_admits (p : Port) (k : Kind) (tag : Byte) (payload : List Byte) (rule : State → Answer) (s : State)
    (h : Admits p k tag payload s) : checked p k payload rule s = rule s := by
  obtain ⟨_, h1, h2, h3⟩ := h
  simp [checked, h1, h2, h3]

/-- A request that its port admits: the reply of its owning rule, and the rule's state but for the ports. -/
theorem requestOf_admits (p : Port) (k : Kind) (tag : Byte) (payload : List Byte) (rule : State → Answer) (s : State)
    (h : Admits p k tag payload s) (hp : (rule s).state.ports = s.ports) :
    Answered p tag k (rule s).result (rule s).payload s (rule s).state (requestOf p k tag payload rule s) := by
  have hc := checked_admits p k tag payload rule s h
  have := requestOf_takes p k tag payload rule s h.1 (by rw [hc]; exact hp)
  rwa [hc] at this

/-- The same with the rule's answer given. -/
theorem answered {p : Port} {k : Kind} {tag : Byte} {payload : List Byte} {rule : State → Answer} {s u : State}
    {result : Result} {out : List Byte} (h : Admits p k tag payload s) (hr : rule s = ⟨u, result, out⟩)
    (hp : u.ports = s.ports) : Answered p tag k result out s u (requestOf p k tag payload rule s) := by
  have h1 := requestOf_admits p k tag payload rule s h (by rw [hr]; exact hp)
  rwa [hr] at h1

/-- The same for an answer without a payload. -/
theorem answered_bare {p : Port} {k : Kind} {tag : Byte} {payload : List Byte} {rule : State → Answer} {s u : State}
    {result : Result} (h : Admits p k tag payload s) (hr : rule s = bare result u) (hp : u.ports = s.ports) :
    Answered p tag k result [] s u (requestOf p k tag payload rule s) := answered h hr hp

/-- A station port whose kinds LAPSED and LOST stations may send, and every kind of the hall port, admits what it takes. -/
theorem admits_of_takes (p : Port) (k : Kind) (tag : Byte) (payload : List Byte) (s : State)
    (h : Takes p ⟨tag, kindCode k, payload⟩ s) (hk : k.takenOn p = true) (hl : payload.length = (kindRow k).length)
    (hn : k.takenUnlive = true ∨ p = .hall) : Admits p k tag payload s := by
  refine ⟨h, hk, hl, ?_⟩
  rcases hn with hn | rfl
  · cases p <;> simp [notLive, hn]
  · rfl

/-- The port after it is replaced. -/
theorem setPort_eq (p : Port) (x : LinkPort) (s : State) : setPort p x s = { s with ports := s.ports.set p x } := rfl

end Sys2Proof.Machine
end

