-- ==== Sys2Proof/Laws/Allotment.lean ====
section
/-! SUPPORT. What an allotment pass leaves behind, said once (R14, R20, R154). -/

namespace Sys2Proof.Machine

/-- R20: the posting of GRANT_CHANGED station by station. -/
theorem flagGrants_stationSet (b : PerSlot (Option Entry)) (s : State) (st : Station) (k : StationKind) :
    ((flagGrants b s).stationSet st).get k =
      ((s.stationSet st).get k || (decide (k = .grantChanged) && grantsDiffer b s.slots st)) := by
  have post : ∀ (a : Station) (u : State), ((postStation a .grantChanged u).stationSet st).get k =
      ((u.stationSet st).get k || (decide (k = .grantChanged) && decide (st = a))) := by
    intro a u
    by_cases h : st = a
    · subst h; by_cases hk : k = .grantChanged <;>
        simp [postStation, State.stationSet, PerStationKind.get_set, hk]
    · simp [postStation, State.stationSet, PerStation.get_set_ne _ h, h]
  have fold : ∀ (l : List Station) (u : State), l.Nodup →
      (((l.foldl (fun s st => if grantsDiffer b s.slots st then postStation st .grantChanged s else s) u).stationSet
        st).get k = ((u.stationSet st).get k || (decide (k = .grantChanged) && grantsDiffer b u.slots st &&
          decide (st ∈ l)))) := by
    intro l
    induction l with
    | nil => intro u _; simp
    | cons a l ih =>
      intro u hn
      have hn' := (List.nodup_cons.mp hn)
      rw [List.foldl_cons, ih _ hn'.2]
      by_cases hg : grantsDiffer b u.slots a = true
      · simp only [hg, if_true, post, postStation_slots]
        by_cases h : st = a
        · subst h; simp [hn'.1, hg]
        · simp [h]
      · simp only [hg]
        by_cases h : st = a
        · subst h; simp [hn'.1, hg]
        · simp [h]
  rw [flagGrants, fold allStations s (by decide)]
  simp [mem_allStations]

theorem flagGrants_hall (b : PerSlot (Option Entry)) (s : State) : (flagGrants b s).events.hall = s.events.hall := by
  have fold : ∀ (l : List Station) (u : State),
      (l.foldl (fun s st => if grantsDiffer b s.slots st then postStation st .grantChanged s else s) u).events.hall =
        u.events.hall := by
    intro l
    induction l with
    | nil => intro u; rfl
    | cons a l ih => intro u; rw [List.foldl_cons, ih]; split <;> rfl
  exact fold _ _

/-- R14, R20, R154: what a pass leaves: the passed table, the staged channels, and GRANT_CHANGED where grants differ. -/
theorem allotmentPass_passed (before : PerSlot (Option Entry)) (s : State) :
    Passed before (passTable s.supply.published s.slots) s (allotmentPass before s) := by
  refine ⟨by simp [allotmentPass, stageAll], fun sl => by simp [allotmentPass, stageAll], ?_, fun st k => ?_, ?_⟩
  · simp [allotmentPass, stageAll]
  · rw [allotmentPass, flagGrants_stationSet]; rfl
  · rw [allotmentPass, flagGrants_hall]; rfl

/-- A pass writes the table, the channels and the event sets alone. -/
theorem allotmentPass_eq (before : PerSlot (Option Entry)) (s : State) :
    allotmentPass before s = { s with
      slots := (allotmentPass before s).slots, drive := (allotmentPass before s).drive,
      events := (allotmentPass before s).events } := by
  have h := allotmentPass_frame before s
  cases hs : allotmentPass before s
  simp only [hs] at h
  obtain ⟨h1, h2, h3, h4, h5, h6, h7, h8, h9, h10, h11, h12, h13⟩ := h
  simp_all

/-- The same for an event of the allotment unit. -/
theorem tableEvent_passed (f : PerSlot (Option Entry) → PerSlot (Option Entry)) (s : State) :
    Passed s.slots (passTable s.supply.published (f s.slots)) s (tableEvent f s) := by
  have h := allotmentPass_passed s.slots { s with slots := f s.slots }
  exact ⟨h.1, h.2.1, h.2.2.1, h.2.2.2.1, h.2.2.2.2⟩

theorem tableEvent_eq (f : PerSlot (Option Entry) → PerSlot (Option Entry)) (s : State) :
    tableEvent f s = { s with
      slots := (tableEvent f s).slots, drive := (tableEvent f s).drive, events := (tableEvent f s).events } := by
  unfold tableEvent
  rw [allotmentPass_eq]

/-- What a pass leaves does not depend on the link ports. -/
theorem Passed.butPorts {before table : PerSlot (Option Entry)} {s u t : State} (h : Passed before table s u)
    (ht : ButPorts u t) : Passed before table s t := by
  unfold ButPorts at ht
  rw [ht]
  exact h

end Sys2Proof.Machine
end

