-- ==== Sys2Proof/Laws/Control.lean ====
section
/-! SUPPORT. Conditions and choices of the arbiter, the crusher sequencer, the supply unit and the event sets, said once. -/

namespace Sys2Proof.Machine

theorem sec_eq (n : Nat) : sec n = 1000 * n := by unfold sec; omega

theorem wholeSeconds_sec (n : Nat) : wholeSeconds (1000 * n) = n := by unfold wholeSeconds ceilDiv; omega

/-- No current discharge: no source's request is OFFERED or OPEN. -/
theorem current_none_iff (s : State) : s.current = none ↔ ∀ src, ¬ s.isCurrent src := by
  unfold State.current
  rw [List.findSome?_eq_none_iff]
  constructor
  · intro h src
    have := h src (mem_allSources src)
    unfold State.isCurrent State.isCurrentSource
    unfold currentAt at this
    simp only [State.request]
    split at this <;> simp_all
  · intro h src _
    have := h src
    unfold State.isCurrent State.isCurrentSource State.request at this
    unfold currentAt
    split <;> simp_all

/-- R65: the conditions of arbitration. -/
theorem mayArbitrate_iff (s : State) : s.mayArbitrate = true ↔ ((∀ src,
    ¬ s.isCurrent src) ∧ s.carousel.survey = .surveyed ∧ s.carousel.index = .idle ∧
      s.carousel.requested = false ∧ s.inSafeStop = false) := by
  simp [State.mayArbitrate, ← current_none_iff, and_assoc]

/-- R66: the candidate of highest urgency, and among equals of the lowest source, is the top one. -/
theorem topCandidate_spec (s : State) (src : Source) (r : DischargeRequest) (h1 : s.request src = some r) (h2 : r.state = .pending)
   (h : ∀ o q, s.request o = some q → q.state = .pending → o ≠ src →
        q.urgency < r.urgency ∨ (q.urgency = r.urgency ∧ sourceNumber src < sourceNumber o)) : s.topCandidate = some (src, r) := by
  have key : ∀ l : List Source, l.Pairwise (fun a b => sourceNumber a < sourceNumber b) → 
     (∀ x, l.foldr (topOf s) none = some x → x.1 ∈ l ∧ s.request x.1 = some x.2 ∧ x.2.state = .pending) ∧ (src ∈ l →
         l.foldr (topOf s) none = some (src, r)) := by
    intro l
    induction l with
    | nil => simp
    | cons a l ih =>
      intro hp
      obtain ⟨hp1, hp2⟩ := List.pairwise_cons.mp hp
      obtain ⟨ih1, ih2⟩ := ih hp2
      constructor
      · intro x hx
        rw [List.foldr_cons] at hx
        unfold topOf at hx
        split at hx
        · have := ih1 x hx; exact ⟨by simp [this.1], this.2⟩
        · rename_i r' hr'
          split at hx
          · split at hx
            · cases hx; simp [*]
            · rename_i b hb
              split at hx
              · cases hx; simp [*]
              · cases hx; have := ih1 _ hb; exact ⟨by simp [this.1], this.2⟩
          · have := ih1 x hx; exact ⟨by simp [this.1], this.2⟩
      · intro hm
        rw [List.foldr_cons]
        by_cases hsa : src = a
        · subst hsa
          cases hb : l.foldr (topOf s) none with
          | none => simp [topOf, h1, h2]
          | some b =>
            obtain ⟨m1, m2, m3⟩ := ih1 b hb
            have hlt := hp1 _ m1
            have := h b.1 b.2 m2 m3 (by intro e; rw [e] at hlt; omega)
            have : b.2.urgency ≤ r.urgency := by omega
            simp [topOf, h1, h2, this]
        · have hm' : src ∈ l := by simpa [hsa] using hm
          rw [ih2 hm']
          unfold topOf
          split
          · rfl
          · rename_i r' hr'
            split
            · rename_i hpend
              have := h a r' hr' hpend (Ne.symm hsa)
              have hlt := hp1 _ hm'
              have : ¬ r.urgency ≤ r'.urgency := by omega
              simp [this]
            · rfl
  exact (key allSources (by decide)).2 (mem_allSources src)

/-- R88, R105: the mode holds the head lot back only in HOLD with release count 0. -/
theorem letsThrough_iff (m : Mode) : m.letsThrough = true ↔ m ≠ .hold 0 := by
  cases m <;> simp [Mode.letsThrough]; omega

/-- R105: the conditions of the feed evaluation. -/
theorem mayFeed_iff (s : State) : (s.mayFeed && s.crusher.state.isFree) = true ↔ (s.crusher.slot = none ∧
    s.crusher.awaited = none ∧ s.carousel.survey = .surveyed ∧
      (∀ n, s.carousel.index ≠ .faulted n) ∧ s.carousel.mode ≠ .hold 0 ∧ s.inSafeStop = false ∧
      (s.crusher.state = .stopped ∨ ∃ n, s.crusher.state = .idleRun n)) := by
  have h1 : s.crusher.state.isFree = true ↔ (s.crusher.state = .stopped ∨ ∃ n, s.crusher.state = .idleRun n) := by
    cases s.crusher.state <;> simp [CrusherState.isFree]
  have h2 : (match s.carousel.index with | .faulted _ => false | _ => true) = true ↔ ∀ n, s.carousel.index ≠ .faulted n := by
    cases s.carousel.index <;> simp
  simp only [State.mayFeed, Bool.and_eq_true, h1, letsThrough_iff]
  simp [and_assoc]
  intros; exact h2

/-- R171: among kinds in order of their numbers, the kind of highest level, and of those equal the lowest number. -/
theorem highestLevel_spec (lv : PerHallKind Nat) (l : List HallKind) (k : HallKind) (hk : k ∈ l) (hs : l.Pairwise
    (fun a b => hallKindNumber a < hallKindNumber b))
  (h : ∀ j ∈ l, lv.get j < lv.get k ∨ (lv.get j = lv.get k ∧ hallKindNumber k ≤ hallKindNumber j)) : highestLevel lv l = some k := by
  induction l with
  | nil => cases hk
  | cons a l ih =>
    have hs' := List.pairwise_cons.mp hs
    unfold highestLevel
    by_cases hka : k = a
    · subst hka
      cases hm : highestLevel lv l with
      | none => rfl
      | some m =>
        have : m ∈ l := by
          clear ih hk hs hs' h
          induction l generalizing m with
          | nil => cases hm
          | cons b l ih =>
            unfold highestLevel at hm
            split at hm
            · cases hm; simp
            · rename_i m' hm'
              split at hm
              · cases hm; simp
              · cases hm; simp [ih m hm']
        have h2 := h m (by simp [this])
        have h3 : lv.get m ≤ lv.get k := by omega
        simp [h3]
    · have hk' : k ∈ l := by simpa [hka] using hk
      rw [ih hk' hs'.2 (fun j hj => h j (by simp [hj]))]
      have h1 := h a (by simp)
      have h2 := hs'.1 k hk'
      have : ¬ lv.get k ≤ lv.get a := by omega
      simp [this]

/-- R179: the command that takes a held request takes it by the rule of its kind, or refuses a kind that is absent. -/
theorem exec_heldCommand (p : Port) (r : LinkRequest) (s : State) (h : s.powered = true) :
    ∃ f, exec (heldCommand p r) s = .next (takeRequest p r f s) ∧
      (∀ k, kindOfCode r.kind = some k → ∃ rule, f = checked p k r.payload rule) ∧ (kindOfCode r.kind = none → f = bare .refusedKind) := by
  unfold heldCommand
  rcases r with ⟨tag, kind, payload⟩
  have hk : ∀ k, kindOfCode kind = some k → kind = kindCode k := by
    intro k hk
    have := List.find?_some hk
    simpa using (by simpa using this : kindCode k = kind).symm
  split <;> rename_i hk2
  · exact ⟨_, by simp [exec, execAbsentKindRequest, running, h, absentKind, hk2], by simp [hk2], fun _ => rfl⟩
  all_goals
    have hk3 := hk _ hk2
    simp only at hk2
    subst hk3
    refine ⟨_, by simp only [exec, execStatus, execRange, execKeepA, execKeepB, execCoolantAsk, execCoolantEnd,
        execDischargeAsk, execDischargeGo, execDischargeDone, execDischargeCancel, execTableRead, execLotRead,
        execProfileRead, execProfileWrite, execProfileLoad, execProfileSave, execBackwashNow, execIndexNow,
        execFleeceLoaded, execHold, execRelease, execResume, execRingCleared, execRingFlush, execSetPocketLimit,
        execCarouselRetry, execCrusherClear, execBinEmptied, execStationWatch, execEventLevel, execLineStop,
        execLineResume, execLineRestart, running, h, if_true, requestOf]; rfl, ?_, ?_⟩
    · intro k h'; rw [kindOfCode_kindCode] at h'; cases h'; exact ⟨_, rfl⟩
    · intro h'; rw [kindOfCode_kindCode] at h'; cases h'

/-- R36, R38: what a recomputation can do. -/
theorem recompute_cases (s : State) :
    (recompute s = s ∧ (figureBand s = none ∨ ∃ b, figureBand s = some b ∧ s.supply.published ≤ newFigure s b)) ∨
      ∃ b, figureBand s = some b ∧ recompute s = publish (newFigure s b) s := by
  unfold recompute
  cases h : figureBand s with
  | none => exact .inl ⟨rfl, .inl rfl⟩
  | some b =>
    by_cases hc : (decide (newFigure s b < s.supply.published) || decide (s.supply.published + s.line.supplyStep ≤ newFigure s b)) = true
    · exact .inr ⟨b, rfl, by simp only [if_pos hc]⟩
    · refine .inl ⟨by simp only [if_neg hc], .inr ⟨b, rfl, ?_⟩⟩
      simp at hc; omega

end Sys2Proof.Machine
end

