-- ==== Sys2Proof/WellFormed.lean ====
section
/-! DEFINITION. The commands that can arrive: payloads of at most 32 bytes, frames whose parts have the lengths of Table 11-1,
codes that Table 11-4 does not have, and voltages on the side of their passage. -/

namespace Sys2Proof.Instr

open Sys2Proof.Machine

/-- R177: a payload of a request frame has at most 32 bytes. -/
def payloadFits (payload : List Byte) : Bool := decide (payload.length ≤ Config.maxPayload)

/-- Table 11-1: a frame that a port has assembled whole: its start byte, its length byte at most 32, and the bytes that its
length byte calls for. -/
def wholeFrame (frame : List Byte) : Bool :=
  decide (frame.head? = some startByte) && !lengthTooGreat frame && frameComplete frame

/-- The commands that can arrive. -/
def wf : Instr → Bool
  | .status _ _ payload => payloadFits payload
  | .range _ _ payload => payloadFits payload
  | .keepA _ _ payload => payloadFits payload
  | .keepB _ _ payload => payloadFits payload
  | .coolantAsk _ _ payload => payloadFits payload
  | .coolantEnd _ _ payload => payloadFits payload
  | .dischargeAsk _ _ payload => payloadFits payload
  | .dischargeGo _ _ payload => payloadFits payload
  | .dischargeDone _ _ payload => payloadFits payload
  | .dischargeCancel _ _ payload => payloadFits payload
  | .tableRead _ _ payload => payloadFits payload
  | .lotRead _ _ payload => payloadFits payload
  | .profileRead _ _ payload => payloadFits payload
  | .profileWrite _ _ payload => payloadFits payload
  | .profileLoad _ _ payload => payloadFits payload
  | .profileSave _ _ payload => payloadFits payload
  | .backwashNow _ _ payload => payloadFits payload
  | .indexNow _ _ payload => payloadFits payload
  | .fleeceLoaded _ _ payload => payloadFits payload
  | .hold _ _ payload => payloadFits payload
  | .release _ _ payload => payloadFits payload
  | .resume _ _ payload => payloadFits payload
  | .ringCleared _ _ payload => payloadFits payload
  | .ringFlush _ _ payload => payloadFits payload
  | .setPocketLimit _ _ payload => payloadFits payload
  | .carouselRetry _ _ payload => payloadFits payload
  | .crusherClear _ _ payload => payloadFits payload
  | .binEmptied _ _ payload => payloadFits payload
  | .stationWatch _ _ payload => payloadFits payload
  | .eventLevel _ _ payload => payloadFits payload
  | .lineStop _ _ payload => payloadFits payload
  | .lineResume _ _ payload => payloadFits payload
  | .lineRestart _ _ payload => payloadFits payload
  | .frameDiscarded _ frame => wholeFrame frame
  | .frameGapTimeout _ => true
  | .owedBusyFrame _ _ _ payload => payloadFits payload
  | .conversionCompletion _ => true
  | .arbitration => true
  | .offerWindowExpiry => true
  | .gateWindowExpiry => true
  | .dumpTimerExpiry => true
  | .indexStart => true
  | .indexSensorMade => true
  | .indexSensorClear => true
  | .indexEdge => true
  | .stepTimerExpiry => true
  | .feedEvaluation => true
  | .runUpExpiry => true
  | .purgeExpiry => true
  | .idleExpiry => true
  | .runDownExpiry => true
  | .reverseExpiry => true
  | .endOfFeed => true
  | .endOfTransit => true
  | .shaftPulse => true
  | .shaftWindowEnd => true
  | .chutePulse => true
  | .fleeceMeterPulse => true
  | .fleeceStallExpiry => true
  | .backwashTimerExpiry => true
  | .settleTimerExpiry => true
  | .gapTimerExpiry => true
  | .pendingBackwashStart => true
  | .sprayToggleExpiry => true
  | .periodEnd => true
  | .saveTimerExpiry => true
  | .keepalivePeriodExpiry _ => true
  | .fieldSupplyFall deciVolts => decide (deciVolts < Config.supplyLowBelow)
  | .fieldSupplyReturn deciVolts => decide (Config.supplyGoodFrom ≤ deciVolts)
  | .dipTimerExpiry => true
  | .recoveryTimerExpiry => true
  | .powerOn _ _ => true
  | .logicSupplyLoss => true
  | .receivedByte _ _ => true
  | .absentKindRequest _ _ code payload => (kindOfCode code).isNone && payloadFits payload
  | .replyTransmissionEnd _ => true
  | .appliedDutyElapsed _ => true

end Sys2Proof.Instr
end

