-- ==== Sys2Proof/Tests/Slice0.lean ====
section
/-! SUPPORT. Tests on fixed values: the commands that cannot arrive, the manual's worked examples, and for every statement with
hypotheses a state and operands that meet them. -/

namespace Sys2Proof.Tests

open Sys2Proof.Machine

/-! ## Small states -/

/-- The state a command leaves. -/
def left (o : Host.Outcome State Fault Refusal) : State :=
  match o with
  | .next t => t
  | _ => State.reset

/-- The result and payload of the reply that a port sends. -/
def answer (p : Port) (o : Host.Outcome State Fault Refusal) : Option (Result × List Byte) :=
  ((left o).ports.get p).tx.map (fun t => (t.reply.result, t.reply.payload))

/-- A payload. -/
def pay (l : List Nat) : List Byte := l.map byteOf

/-- A surveyed line with every station LIVE after a KEEP_A, both channels sampled and a figure of 383. -/
def line : State :=
  { State.reset with
    watches := .same ⟨.live, some .a, some 100⟩
    supply := ⟨383, 0, true, 3000, 0, true, some .normal, 0, 383⟩
    carousel := { State.reset.carousel with survey := .surveyed } }

/-- A port of station 1. -/
def p1 : Port := .station .s1

/-- The line with another working copy. -/
def lineWith (l : LineParams) : State :=
  { line with store := { line.store with working := { factoryProfile with line := l } } }

/-- A lot of material 3 with set 0 copies, or of sludge. -/
def lotOf (number mass span : Nat) (sludge : Bool) : LotRecord :=
  ⟨number, if sludge then .sludge else .station .s1,
    if sludge then .sludge else .chips .m3 ⟨.hard, .stringy, 40, 180, 50, 30⟩, mass, mass, span,
    ⟨false, false, false⟩, .queued⟩

/-- The line with a crusher state and a lot in the slot. -/
def crushing (c : CrusherState) (l : Option SlotLot) : State :=
  { line with crusher := { line.crusher with state := c, slot := l, family := some .hard } }

/-- The line with station 1's request, of material 3 and urgency 5, in a state. -/
def asked (x : DischargeState) : State :=
  { line with
    arbiter := { line.arbiter with requests := line.arbiter.requests.set (.station .s1) (some ⟨.chips .m3, 96, 5, x⟩) } }

/-- The line with source 7's request in a state, its trough FULL. -/
def askedSludge (x : DischargeState) : State :=
  { line with
    filter := { line.filter with troughFull := true }
    arbiter := { line.arbiter with requests := line.arbiter.requests.set .sludge (some ⟨.sludge, 60, 6, x⟩) } }

/-- The line with the filter in a state. -/
def filtered (f : FilterState) : State := { line with filter := { line.filter with state := f, fleece := some 512 } }

/-- The line in safe stop by the hall. -/
def stopped : State := { line with stop := ⟨false, true, some .hall⟩ }

/-- The line with the carousel in an index state and a lot at the head. -/
def indexing (i : IndexState) : State :=
  { line with carousel := { line.carousel with queue := [lotOf 420 96 3 false], index := i, requested := true } }

/-! ## Commands that cannot arrive -/

theorem test_wf_payload : (Instr.status .hall 0 (List.replicate 32 0)).wf = true ∧
    (Instr.status .hall 0 (List.replicate 33 0)).wf = false := by decide
theorem test_wf_frame_start : (Instr.frameDiscarded p1 [0xC6, 1, 0, 1, 0, 0, 0]).wf = false := by decide
theorem test_wf_frame_length : (Instr.frameDiscarded p1 [0xC5, 1, 0, 1, 33, 0, 0]).wf = false := by decide
theorem test_wf_frame_parts : (Instr.frameDiscarded p1 [0xC5, 1, 0, 1, 1, 0, 0]).wf = false ∧
    (Instr.frameDiscarded p1 [0xC5, 1, 0, 1, 0, 0, 0]).wf = true := by decide
theorem test_wf_fall : (Instr.fieldSupplyFall 190).wf = false ∧ (Instr.fieldSupplyFall 189).wf = true := by decide
theorem test_wf_return : (Instr.fieldSupplyReturn 199).wf = false ∧ (Instr.fieldSupplyReturn 200).wf = true := by decide
theorem test_wf_absent_kind : (Instr.absentKindRequest p1 0 1 []).wf = false ∧
    (Instr.absentKindRequest p1 0 5 []).wf = true := by decide

/-! ## Links: R178's own value, and a frame written out from Table 11-1 -/

theorem test_check_word :
    checkWord (pay [0x31, 0x32, 0x33, 0x34, 0x35, 0x36, 0x37, 0x38, 0x39]) = 0x29B1#16 := by decide +kernel

/-- Chapter 11: a reply without payload is 9 bytes of 10 bits at 57,600 bit/s, 1.56 ms, and BUSY carries no payload. -/
theorem test_busy_reply : (left (exec (.replyTransmissionEnd .hall)
    { line with ports := line.ports.set .hall ⟨.hunting, none, some ⟨7, 0x41⟩, 0, some ⟨⟨15, 1, 1, .done, false,
        true, false, []⟩, 0⟩⟩ })).ports.get
      .hall = ⟨.hunting, none, none, 0, some ⟨⟨15, 7, 0x41, .busy, false, true, false, []⟩, 2⟩⟩ := by decide

theorem test_start_byte : ((left (exec (.receivedByte p1 0xC5) line)).ports.get p1).rx = .assembling [0xC5] 5 := by decide

/-! ## Coolant: the example of section 1.3.1 and the worked passes of section 1.7 -/

/-- The line with station 4's limits as in section 1.3.1. -/
def station4 : State :=
  { line with
    store := { line.store with
      working := { factoryProfile with stations := factoryProfile.stations.set .s4 ⟨180, 0, 3, true⟩ } } }

theorem test_clamp_no_spindle : answer (.station .s4) (exec (.coolantAsk (.station .s4) 0 (pay [0, 40, 0, 5])) station4) =
    some (.refusedRange, []) := by decide
theorem test_clamp_wash : answer (.station .s4) (exec (.coolantAsk (.station .s4) 0 (pay [2, 40, 0, 5])) station4) =
    some (.refusedKind, []) := by decide
theorem test_clamp_flood : answer (.station .s4) (exec (.coolantAsk (.station .s4) 0 (pay [1, 240, 250, 9])) station4) =
    some (.clamped, pay [8, 1, 180, 180, 7, 180]) := by decide

/-- An entry as the tables of section 1.7 give it. -/
def entry (askedFlow : Nat) (floor : Option Nat) (urgency : Nat) (st : EntryState) (granted : Nat) : Option Entry :=
  some ⟨askedFlow, floor, urgency, st, granted⟩

/-- The table of section 1.7.1 before its pass. -/
def table503 : PerSlot (Option Entry) :=
  (((((PerSlot.same none).set (.station .s1 .flood) (entry 200 (some 80) 5 .trimmed 80)
    |>.set (.station .s2 .spindle) (entry 50 none 6 .granted 50))
    |>.set (.station .s3 .flood) (entry 150 (some 60) 5 .trimmed 60))
    |>.set (.station .s4 .spindle) (entry 40 none 5 .granted 40))
    |>.set (.station .s5 .flood) (entry 180 (some 100) 3 .trimmed 100))
    |>.set .wash1 (entry 100 (some 0) 1 .trimmed 0)

/-- The grants of a table in slot order. -/
def grants (t : PerSlot (Option Entry)) : List Nat := allSlots.map (fun sl => grantOf (t.get sl))

theorem test_pass_503 : grants (passTable 503 table503) = [0, 134, 50, 0, 0, 100, 40, 0, 0, 135, 0, 0, 44, 0] := by decide
theorem test_pass_239 : grants (passTable 239 table503) = [0, 86, 50, 0, 0, 63, 40, 0, 0, 0, 0, 0, 0, 0] := by decide
theorem test_pass_newcomer : grants (passTable 239 ((passTable 239 table503).set (.station .s6 .spindle)
    (entry 30 none 6 .waiting 0))) = [0, 91, 50, 0, 0, 68, 0, 0, 0, 0, 30, 0, 0, 0] := by decide

theorem test_coolant_end : (left (exec (.coolantEnd p1 0 (pay [1]))
    { line with slots := table503 })).slots.get (.station .s1 .flood) = none := by decide

/-! ## Measurement and supply: sections 8.1.1, 2.8.1 and 2.4.1 -/

/-- The line with a conversion of a channel and calibration. -/
def converting (c : Analog) (cal : Int) : State :=
  { line with measure := { line.measure with conversion := ⟨c, cal, 100⟩ } }

theorem test_conversion_dp : (left (exec (.conversionCompletion 1800) (converting .dp (-2)))).supply.dp = 437 := by decide
theorem test_conversion_rail : (left (exec (.conversionCompletion 0) (converting .level 7))).supply.levelFaults = 1 := by decide
theorem test_conversion_level : (left (exec (.conversionCompletion 1) (converting .level 7))).supply.level = 42 ∧
    (left (exec (.conversionCompletion 1) (converting .level 7))).measure.conversion.channel = .dp := by decide
/-- Section 2.8.1: the DP of 437 gives 383, and the level of 4201 L lifts the figure to 503. -/
theorem test_publication : (left (exec (.conversionCompletion 2868)
    (left (exec (.conversionCompletion 1800) (converting .dp (-2)))))).supply.published = 503 := by decide
theorem test_bands : bandFrom factoryLine 3990 .normal = .normal ∧ bandFrom factoryLine 4201 .normal = .high ∧
    bandFrom factoryLine 3990 .high = .normal ∧ bandFrom factoryLine 950 .normal = .critical ∧
    bandFrom factoryLine 1150 .critical = .critical ∧ bandFrom factoryLine 2650 .critical = .low ∧
    bandFrom factoryLine 2700 .low = .normal := by decide

/-! ## Valves: Table 09-3 and R155 -/

theorem test_target_duties : [targetDuty 134 250, targetDuty 86 250, targetDuty 50 60, targetDuty 40 60, targetDuty 44 250,
    targetDuty 1 250, targetDuty 120 100] = [536, 344, 834, 667, 176, 4, 1000] := by decide
/-- The line with a staged reduction on WASH1 and a held increase on WASH2. -/
def staged : State :=
  { line with
    drive := { line.drive with
      channels := (line.drive.channels.set .wash1 ⟨536, some (.reduction 344), true⟩).set .wash2
        ⟨0, some (.increase 176), false⟩ } }
theorem test_reductions_first : (left (exec .periodEnd staged)).drive.channels.get .wash1 = ⟨344, none, true⟩ ∧
    (left (exec .periodEnd staged)).drive.channels.get .wash2 = ⟨0, some (.increase 176), false⟩ := by decide
theorem test_increase_next : (left (exec .periodEnd (left (exec .periodEnd staged)))).drive.channels.get .wash2 =
    ⟨176, none, true⟩ := by decide
theorem test_duty_elapsed : ((left (exec (.appliedDutyElapsed .wash1) staged)).drive.channels.get .wash1).output = false := by
  decide
theorem test_spray : (left (exec .sprayToggleExpiry { filtered (.backwash 5) with
    drive := { line.drive with spray := .on true 0 } })).drive.spray = .on false 500 := by decide

/-! ## Station watch: section 10.1.1 -/

/-- Station 3 with exponent 2, its last phase B. -/
def station3 : State :=
  { line with
    watches := line.watches.set .s3 ⟨.live, some .b, some 100⟩
    slots := (PerSlot.same none).set (.station .s3 .flood) (entry 100 (some 0) 5 .granted 100)
    store := { line.store with
      working := { factoryProfile with stations := factoryProfile.stations.set .s3 ⟨250, 60, 2, true⟩ } } }
theorem test_keep_a : (left (exec (.keepA (.station .s3) 0 []) station3)).watches.get .s3 = ⟨.live, some .a, some 1000⟩ := by
  decide
theorem test_keep_b_repeat : answer (.station .s3) (exec (.keepB (.station .s3) 0 []) station3) = some (.repeated, [1]) := by
  decide
theorem test_lapse : (left (exec (.keepalivePeriodExpiry .s3) station3)).watches.get .s3 = ⟨.lapsed, some .b, some 1000⟩ ∧
    ((left (exec (.keepalivePeriodExpiry .s3) station3)).slots.get (.station .s3 .flood)).map Entry.state = some .suspended ∧
    ((left (exec (.keepalivePeriodExpiry .s3) station3)).stationSet .s3).get .grantChanged = true := by decide
theorem test_station_watch : (left (exec (.stationWatch .hall 0 (pay [6, 0xA5])) line)).watches.get .s6 =
    ⟨.live, some .a, none⟩ := by decide

/-! ## Events: section 10.2.1 -/

/-- The hall set of section 10.2.1. -/
def hallEvents : State :=
  { line with
    events := { line.events with
      hall := [HallKind.jam, .binFull, .safeStop, .stationLapsed, .profileSaved, .crusherBlocked, .sensorFault].foldl
        (fun h k => h.set k true) line.events.hall } }
theorem test_top_hall : topHall hallEvents = some .safeStop ∧
    topHall (dropHall .safeStop hallEvents) = some .crusherBlocked ∧
    topHall (dropHall .crusherBlocked (dropHall .safeStop hallEvents)) = some .sensorFault := by decide
theorem test_event_level : topHall (dropHall .safeStop (left (exec (.eventLevel .hall 0 (pay [5, 7])) hallEvents))) =
    some .jam := by decide
theorem test_hall_status_length : (hallStatus hallEvents).length = 55 := by decide
theorem test_station_status_length : (stationStatus .s1 line).length = 14 := by decide

/-! ## Discharges and the ring: R66, R75, R89 -/

/-- R66: 96 kg at 40 kg a pocket span 3 pockets. -/
theorem test_ask : answer p1 (exec (.dischargeAsk p1 0 (pay [3, 96, 0, 5])) line) = some (.done, pay [2, 5, 3, 10]) := by decide
theorem test_oversize : answer p1 (exec (.dischargeAsk p1 0 (pay [3, 161, 0, 5])) line) = some (.oversize, []) := by decide
theorem test_go : (left (exec (.dischargeGo p1 0 []) (asked (.offered 3 5)))).drive.gates.get .s1 = true := by decide
/-- The line with station 1's gate open and pulses counted. -/
def weighed (pulses : Nat) : State :=
  { asked (.opened 3 5 none) with
    measure := { line.measure with chute := ⟨pulses, true⟩ }
    drive := { line.drive with gates := line.drive.gates.set .s1 true } }
theorem test_done : answer p1 (exec (.dischargeDone p1 0 []) (weighed 1920)) = some (.done, pay [1, 0, 96, 0, 3, 0]) := by
  decide
theorem test_done_empty : answer p1 (exec (.dischargeDone p1 0 []) (weighed 19)) = some (.empty, pay [0, 0, 0, 0, 0, 0]) := by
  decide
theorem test_gate_window : ((left (exec .gateWindowExpiry (weighed 1920))).arbiter.late.get .s1).map Outcome.flags =
    some ⟨false, true, false⟩ := by decide
theorem test_late : answer p1 (exec (.dischargeDone p1 0 [])
    { line with arbiter := { line.arbiter with late := line.arbiter.late.set .s1 (some ⟨some 7, 96, 3, ⟨false, true, false⟩⟩) } }) =
    some (.late, pay [7, 0, 96, 0, 3, 2]) := by decide
theorem test_cancel : (left (exec (.dischargeCancel p1 0 []) (asked .pending))).request (.station .s1) = none := by decide
theorem test_offer_window : ((left (exec .offerWindowExpiry (asked (.offered 3 0)))).stationSet .s1).get .offerLapsed = true := by
  decide
theorem test_dump : (left (exec .dumpTimerExpiry (askedSludge (.opened 2 9 (some 0))))).filter.troughFull = false := by decide
theorem test_arbitration : ((left (exec .arbitration (asked .pending))).request (.station .s1)).map DischargeRequest.state =
    some (.offered 3 10000) := by decide
theorem test_number_wraps : State.newNumber { indexing .idle with
    carousel := { (indexing .idle).carousel with queue := [lotOf 65535 96 3 false], counter := 65535 } } = 1 := by decide
theorem test_index_start : (left (exec .indexStart (indexing .idle))).carousel.index = .indexing 3 4000 := by decide
theorem test_edge : (left (exec .indexEdge { indexing (.indexing 3 5) with
    measure := { line.measure with sensor := ⟨false, some 0⟩ } })).carousel.index = .indexing 2 4000 := by decide
theorem test_last_edge : ((left (exec .indexEdge { indexing (.indexing 1 5) with
    measure := { line.measure with sensor := ⟨false, some 0⟩ } })).crusher.slot.map (fun x => x.remaining)) = some 144000 := by
  decide
theorem test_step_fault : (left (exec .stepTimerExpiry (indexing (.indexing 2 0)))).carousel.index = .faulted 2 := by decide
theorem test_retry : answer .hall (exec (.carouselRetry .hall 0 []) (indexing (.faulted 2))) = some (.done, []) := by decide
theorem test_ring_flush : (left (exec (.ringFlush .hall 0 []) { line with
    carousel := { line.carousel with survey := .unsurveyed } })).carousel.index = .indexing 16 4000 := by decide
theorem test_pocket_limit : answer .hall (exec (.setPocketLimit .hall 0 (pay [3])) line) = some (.clamped, pay [4]) := by decide
theorem test_release : answer .hall (exec (.release .hall 0 (pay [2])) { indexing .idle with
    carousel := { (indexing .idle).carousel with mode := .hold 0, requested := false } }) = some (.clamped, pay [1]) := by decide

/-! ## Crusher: section 6.8's lot 420 and R113, R115, R142 -/

/-- Worked lot 420: 96 × 60 ÷ 40. The other rows are R113's limits. -/
theorem test_feed_times : [feedTime 96 40, feedTime 37 12, feedTime 90 300, feedTime 1 200, feedTime 2000 5] =
    [144, 185, 18, 1, 3600] := by decide
/-- Section 6.8: at ppr 4 a window of 2 pulses is stalled and one of 3 is not. -/
theorem test_stall : isStalled (2 * 120 / 4) ⟨.hard, .stringy, 40, 180, 50, 30⟩ = true ∧
    isStalled (3 * 120 / 4) ⟨.hard, .stringy, 40, 180, 50, 30⟩ = false := by decide
/-- A third stalled window, with lot 420 in the slot. -/
def stalling (jams : Nat) : State :=
  { crushing .crushing (some ⟨lotOf 420 96 3 false, 9, jams⟩) with
    crusher := { (crushing .crushing (some ⟨lotOf 420 96 3 false, 9, jams⟩)).crusher with stallCount := 2 }
    measure := { line.measure with shaft := .counting 2 4 0 }
    drive := { line.drive with direction := .forward } }
theorem test_jam_reverses : (left (exec .shaftWindowEnd (stalling 0))).crusher.state = .reversing 3000 ∧
    (left (exec .shaftWindowEnd (stalling 0))).measure.shaft = .idle := by decide
theorem test_jam_blocks : (left (exec .shaftWindowEnd (stalling 3))).crusher.state = .blocked := by decide
theorem test_end_of_feed : (left (exec .endOfFeed (stalling 0))).crusher.fills.hard = 96 ∧
    (left (exec .endOfFeed (stalling 0))).crusher.lastLots.get .s1 = some ⟨420, .crushed⟩ := by decide
theorem test_transit : (left (exec .endOfTransit (crushing .passThrough (some ⟨lotOf 421 60 2 true, 0, 0⟩)))).crusher.fills.sludge =
    60 := by decide
theorem test_clear_reject : (left (exec (.crusherClear .hall 0 (pay [2]))
    (crushing .blocked (some ⟨lotOf 420 96 3 false, 9, 3⟩)))).crusher.reject = 96 := by decide
theorem test_clear_retry : (left (exec (.crusherClear .hall 0 (pay [1]))
    (crushing .blocked (some ⟨lotOf 420 96 3 false, 9, 3⟩)))).crusher.slot.map (fun x => x.jams) = some 0 := by decide
theorem test_bin_full : (left (exec .feedEvaluation { indexing .idle with
    carousel := { (indexing .idle).carousel with requested := false }
    crusher := { line.crusher with fills := ⟨0, 0, 65535, 0⟩ } })).events.hall.get .binFull = true := by decide
theorem test_run_up : (left (exec .feedEvaluation { indexing .idle with
    carousel := { (indexing .idle).carousel with requested := false } })).crusher.state = .runUp 5000 := by decide

/-! ## Filter: section 3.3.1 -/

theorem test_trigger : (left (exec (.conversionCompletion 2061) (converting .dp 0))).filter.state = .backwash 60000 := by decide
theorem test_backwash_end : (left (exec .backwashTimerExpiry (filtered (.backwash 0)))).filter.state = .settle (some 30000) ∧
    ((left (exec .backwashTimerExpiry (filtered (.backwash 0)))).request .sludge).map DischargeRequest.estimate = some 60 := by
  decide
theorem test_fleece_low : (left (exec .fleeceMeterPulse { filtered (.indexing 20 12 5000) with
    filter := { (filtered (.indexing 20 12 5000)).filter with fleece := some 500 } })).events.hall.get .fleeceLow = true := by decide
theorem test_fleece_done : (left (exec .fleeceMeterPulse (filtered (.indexing 20 19 5000)))).filter.state = .filtering := by decide

/-! ## Profile: section 7.4.1 and Table 07-2 -/

/-- The line with DPclean 150, DPtrigger 500, DPlimit 650. -/
theorem test_write_order : answer .hall (exec (.profileWrite .hall 0 (pay [3, 0xBC, 2])) line) = some (.refusedOrder, []) := by
  decide
theorem test_write_limit : answer .hall (exec (.profileWrite .hall 0 (pay [4, 0x52, 3])) line) =
    some (.done, pay [4, 0x52, 3]) := by decide
theorem test_read_item : answer .hall (exec (.profileRead .hall 0 (pay [128])) line) = some (.done, pay [128, 1, 0]) ∧
    answer .hall (exec (.profileRead .hall 0 (pay [132])) line) = some (.done, pay [132, 180, 0]) := by decide
theorem test_range_negative : answer p1 (exec (.range p1 0 (pay [40])) line) =
    some (.done, pay [40, 1, 0xF9, 0xFF, 7, 0, 0, 0, 0, 0]) := by decide
theorem test_save : answer .hall (exec (.profileSave .hall 0 (pay [2])) line) = some (.done, []) ∧
    (left (exec .saveTimerExpiry (left (exec (.profileSave .hall 0 (pay [2])) line)))).store.nonVolatile.selector = .set2 := by
  decide

/-! ## Safe stop -/

theorem test_line_stop : (left (exec (.lineStop .hall 0 []) (weighed 1920))).drive.gates.get .s1 = false ∧
    (left (exec (.lineStop .hall 0 []) (weighed 1920))).stop.last = some .hall := by decide
theorem test_dip : (left (exec (.fieldSupplyFall 189) line)).measure.monitor = .dip 80 ∧
    (left (exec .dipTimerExpiry (left (exec (.fieldSupplyFall 189) line)))).supply.published = 0 := by decide
theorem test_return : (left (exec (.fieldSupplyReturn 200) { stopped with
    measure := { line.measure with monitor := .failed, supplyGood := false } })).measure.monitor = .recovering 2000 := by decide
theorem test_resume : (left (exec (.lineResume .hall 0 []) stopped)).inSafeStop = false := by decide
/-- A fleece index with a backwash pending, the gap elapsed and the trough EMPTY. -/
def indexingPending : State :=
  { filtered (.indexing 20 12 5000) with
    filter := { (filtered (.indexing 20 12 5000)).filter with pending := true } }

/-- R45, R58: the restart ends the index, and the pending backwash starts within the same event; with the flag clear the
sequencer is left in FILTERING. -/
theorem test_restart_pending : (left (exec (.lineRestart .hall 0 []) indexingPending)).filter.state = .backwash 60000 ∧
    (left (exec (.lineRestart .hall 0 []) (filtered (.indexing 20 12 5000)))).filter.state = .filtering := by decide
/-- R45, R79: the restart that empties the trough starts the pending backwash. -/
theorem test_restart_trough : (left (exec (.lineRestart .hall 0 []) { askedSludge (.opened 2 9 (some 5)) with
    filter := { (askedSludge (.opened 2 9 (some 5))).filter with pending := true } })).filter.state = .backwash 60000 := by
  decide
/-- R58, R79: a trough still FULL posts its request again, which the restart's arbitration opens at once. -/
theorem test_restart_dump : (left (exec (.lineRestart .hall 0 []) (askedSludge .pending))).drive.dumpValve = true ∧
    ((left (exec (.lineRestart .hall 0 []) (askedSludge .pending))).request .sludge).map DischargeRequest.urgency = some 6 := by
  decide
/-- R158: the outputs of the drive in REVERSE and in STOPPED. -/
theorem test_drive_outputs : (driveCrusher .reverse (some 180) line).drive.reverseContact = true ∧
    (driveCrusher .reverse (some 180) line).drive.speedOutput = some 180 ∧
    (driveCrusher .stopped none (driveCrusher .forward (some 180) line)).drive.speedOutput = some 0 := by decide
theorem test_power_low : (left (exec (.powerOn 199 false) line)).stop = ⟨true, false, some .fieldSupply⟩ := by decide

/-! ## States and operands that meet the hypotheses of each statement -/

/-- A powered line with idle ports and every station LIVE admits every request its port takes. -/
theorem admits_line {p : Port} {k : Kind} {payload : List Byte} {s : State} (h : k.takenOn p = true)
    (hl : payload.length = (kindRow k).length) (hp : s.powered = true) (hs : s.ports = State.reset.ports)
    (hw : s.watches = line.watches) : Admits p k 0 payload s := by
  refine ⟨⟨hp, .inr ?_⟩, h, hl, ?_⟩
  · rw [hs]; cases p with
    | hall => exact ⟨rfl, rfl⟩
    | station st => cases st <;> exact ⟨rfl, rfl⟩
  · cases p with
    | hall => rfl
    | station st => simp only [notLive, hw]; cases st <;> simp [line, PerStation.same, PerStation.get]

/-- A port of the line in a state of its own. -/
def ported (x : LinkPort) : State := { line with ports := line.ports.set .hall x }
/-- A reply that is being sent. -/
def sending : Transmission := ⟨⟨15, 1, 1, .done, false, true, false, []⟩, 2⟩

theorem test_meets_StepTakesFront : (line.withQueue [.arbitration]).pending = [.arbitration] := rfl
theorem test_meets_IdleStep : State.reset.pending = [] ∧ State.reset.powered = true ∧ State.reset.due = [] ∧
    State.due { line with drive := { line.drive with periodLeft := 0 } } = [.periodEnd] ∧
    State.due { line with
      drive := { line.drive with periodLeft := 0 }, store := { line.store with save := .saving .set1 factoryProfile 0 } } =
      [.saveTimerExpiry, .periodEnd] ∧ { line with powered := false }.pending = [] := by decide
/-- Each of two timers that have run out is due, and a tick on a line where nothing is due lowers the valve period. -/
theorem test_meets_RunningOfTime : State.due { line with drive := { line.drive with periodLeft := 0 } } = [.periodEnd] ∧
    State.due (filtered (.backwash 0)) = [.backwashTimerExpiry] ∧ (tick line).drive.periodLeft = 999 ∧
    kindOfCode 0x05#8 = none := by decide
theorem test_meets_LogicSupply : line.powered = true ∧ { line with powered := false }.powered = false ∧
    ∀ v m, Instr.logicSupplyLoss ≠ .powerOn v m := ⟨rfl, rfl, fun _ _ h => nomatch h⟩
theorem test_meets_RequestRefusals :
    (Takes .hall ⟨0, kindCode .keepA, []⟩ line ∧ Kind.keepA.takenOn .hall = false) ∧
    (Takes p1 ⟨0, kindCode .status, [0]⟩ line ∧ Kind.status.takenOn p1 = true ∧ [0#8].length ≠ (kindRow .status).length) ∧
    (Takes p1 ⟨0, kindCode .dischargeGo, []⟩ State.reset ∧ Kind.dischargeGo.takenOn p1 = true ∧
      notLive p1 .dischargeGo State.reset = true) ∧
    Takes p1 ⟨0, 5, []⟩ State.reset ∧ kindOfCode 5 = none :=
  ⟨⟨⟨rfl, .inr ⟨rfl, rfl⟩⟩, rfl⟩, ⟨⟨rfl, .inr ⟨rfl, rfl⟩⟩, rfl, by decide⟩, ⟨⟨rfl, .inr ⟨rfl, rfl⟩⟩, rfl, rfl⟩,
    ⟨rfl, .inr ⟨rfl, rfl⟩⟩, by decide⟩
theorem test_meets_RequestAtBusyPort :
    ((ported ⟨.hunting, none, none, 0, some sending⟩).ports.get .hall).tx ≠ none ∧
    ((ported ⟨.hunting, some ⟨1, 1, []⟩, some ⟨2, 2⟩, 255, none⟩).ports.get .hall).held = some ⟨1, 1, []⟩ ∧
    ((ported ⟨.hunting, some ⟨1, 1, []⟩, some ⟨2, 2⟩, 255, none⟩).ports.get .hall).held ≠ some ⟨2, 1, []⟩ := by decide
theorem test_meets_FramesAndReplies : line.powered = true ∧ frameRequest .hall [0xC5, 15, 0, 1, 0, 0, 0] = none ∧
    frameRequest .hall (requestFrame .hall ⟨3, 1, []⟩) = some ⟨3, 1, []⟩ ∧
    ((ported ⟨.assembling [0xC5] 0, none, none, 255, none⟩).ports.get .hall).rx = .assembling [0xC5] 0 ∧
    ((ported ⟨.hunting, none, some ⟨7, 1⟩, 0, some sending⟩).ports.get .hall).tx = some sending := by
  decide +kernel
theorem test_meets_ReceivedByte :
    (line.ports.get p1).tx = none ∧ (line.ports.get p1).rx = .hunting ∧
    ((ported ⟨.assembling [0xC5, 15, 0, 1] 5, none, none, 0, none⟩).ports.get .hall).rx = .assembling [0xC5, 15, 0, 1] 5 ∧
    [0xC5#8, 15, 0, 1].length = 4 ∧ 32 < (33#8).toNat ∧ (32#8).toNat ≤ 32 ∧
    [0xC5#8, 15, 0, 1, 0, 9].length + 1 = byteAt [0xC5#8, 15, 0, 1, 0, 9] 4 + 7 ∧
    [0xC5#8, 15, 0, 1, 0].length + 1 < byteAt [0xC5#8, 15, 0, 1, 0] 4 + 7 := by decide
theorem test_meets_ReceiverAssembles : (LinkRequest.mk 1 1 (List.replicate 32 0)).payload.length ≤ 32 ∧
    (line.ports.get .hall).rx = .hunting ∧ (line.ports.get .hall).tx = none ∧ (line.ports.get .hall).held = none := by decide
theorem test_meets_CheckWord : (0#8 : Byte) ≠ 1#8 := by decide
theorem test_meets_CoolantAsk : Admits p1 .coolantAsk 0 (pay [1, 200, 80, 5]) line ∧
    circuitOperand p1 (byteAt (pay [1, 200, 80, 5]) 0) = .slot (.station .s1 .flood) ∧
    line.ceiling (.station .s1 .flood) ≠ 0 ∧ byteAt (pay [1, 200, 80, 5]) 1 ≠ 0 :=
  ⟨admits_line rfl rfl rfl rfl rfl, by decide⟩
theorem test_meets_CoolantEnd : Admits .hall .coolantEnd 0 (pay [3]) line ∧
    circuitOperand .hall (byteAt (pay [3]) 0) = .slot .wash2 ∧
    { line with slots := table503 }.slots.get .wash1 ≠ none ∧ line.slots.get .wash2 = none ∧
    Admits p1 .coolantAsk 0 (pay [4, 0, 0, 0]) line ∧ 3 < byteAt (pay [4, 0, 0, 0]) 0 ∧
    Admits p1 .coolantEnd 0 (pay [2]) line ∧ ¬ byteAt (pay [2]) 0 ≤ 1 ∧ p1 ≠ .hall ∧
    Admits p1 .coolantAsk 0 (pay [1, 0, 0, 1]) line ∧ byteAt (pay [1, 0, 0, 1]) 1 = 0 :=
  ⟨admits_line rfl rfl rfl rfl rfl, by decide, by decide, by decide, admits_line rfl rfl rfl rfl rfl, by decide,
    admits_line rfl rfl rfl rfl rfl, by decide, by decide, admits_line rfl rfl rfl rfl rfl, by decide⟩
theorem test_meets_passes : (∀ sl e, table503.get sl = some e → e.valuesFit sl ∧ (e.state = .suspended → e.granted = 0)) ∧
    (passTable 239 table503).get (.station .s5 .flood) = entry 180 (some 100) 3 .waiting 0 ∧
    (passTable 239 table503).get (.station .s1 .flood) = entry 200 (some 80) 5 .trimmed 86 := by
  refine ⟨fun sl e h => ?_, by decide⟩
  revert h
  unfold Entry.valuesFit
  rcases sl with ⟨st, c⟩ | _ | _
  · cases st <;> cases c <;> intro h <;> simp [table503, PerSlot.get, PerSlot.set, PerSlot.same, PerStation.get,
      PerStation.set, PerStation.same, entry] at h <;> subst h <;> decide
  · intro h; simp [table503, PerSlot.get, PerSlot.set, entry] at h; subst h; decide
  · intro h; simp [table503, PerSlot.get, PerSlot.set, PerSlot.same] at h
theorem test_meets_WatchRequests : Takes (.station .s3) ⟨0, kindCode .keepB, []⟩ station3 ∧
    (station3.watches.get .s3).phase = some .b ∧ (line.watches.get .s3).phase ≠ some .b ∧
    Takes p1 ⟨0, kindCode .keepA, []⟩ State.reset ∧ (State.reset.watches.get .s1).state = .lost ∧
    Admits .hall .stationWatch 0 (pay [6, 0]) line ∧ stationNumber .s6 = byteAt (pay [6, 0]) 0 ∧
    Admits .hall .stationWatch 0 (pay [7, 0]) line ∧ Admits .hall .eventLevel 0 (pay [14, 8]) line ∧
    hallKindNumber .profileSaved = byteAt (pay [14, 8]) 0 ∧ 14 < byteAt (pay [15, 0]) 0 :=
  ⟨⟨rfl, .inr ⟨rfl, rfl⟩⟩, by decide, by decide, ⟨rfl, .inr ⟨rfl, rfl⟩⟩, rfl, admits_line rfl rfl rfl rfl rfl, rfl,
    admits_line rfl rfl rfl rfl rfl, admits_line rfl rfl rfl rfl rfl, rfl, by decide⟩
theorem test_meets_PeriodExpiry : (line.watches.get .s1).timer ≠ none ∧ (line.watches.get .s1).state = .live ∧
    (line.store.working.stations.get .s1).watchEnabled = true ∧
    ((left (exec (.keepalivePeriodExpiry .s3) station3)).watches.get .s3).state = .lapsed ∧
    (State.reset.watches.get .s1).timer = none := by decide
theorem test_meets_StationStatus : Takes p1 ⟨0, kindCode .status, []⟩ State.reset ∧
    ∀ k, (State.reset.stationSet .s1).get k = false :=
  ⟨⟨rfl, .inr ⟨rfl, rfl⟩⟩, fun k => by cases k <;> rfl⟩
theorem test_meets_HallStatus : Takes .hall ⟨0, kindCode .status, []⟩ hallEvents ∧
    hallEvents.events.hall.get .safeStop = true ∧ hallEvents.store.working.levels.get .safeStop = 7 :=
  ⟨⟨rfl, .inr ⟨rfl, rfl⟩⟩, by decide⟩
theorem test_meets_DischargeAsk : Admits p1 .dischargeAsk 0 (pay [3, 160, 0, 9]) line ∧
    (line.store.working.materials.get .m3).inUse = true ∧ u16At (pay [3, 160, 0, 9]) 1 = 4 * line.line.mPocket ∧
    line.isCurrentSource (.station .s1) = false ∧ (asked (.offered 3 5)).isCurrentSource (.station .s1) = true :=
  ⟨admits_line rfl rfl rfl rfl rfl, by decide⟩
theorem test_meets_FollowUps : (asked (.offered 3 5)).current =
    some (.station .s1, ⟨.chips .m3, 96, 5, .offered 3 5⟩) ∧ Source.station .s1 ≠ .sludge ∧ (5 : Nat) < 6 ∧
    line.current = none ∧ line.powered = true ∧ stopped.inSafeStop = true := by decide
theorem test_meets_DischargeGoCancel : Admits p1 .dischargeGo 0 [] (asked (.offered 3 5)) ∧
    Admits p1 .dischargeCancel 0 [] (asked .pending) ∧
    (asked (.offered 3 5)).request (.station .s1) = some ⟨.chips .m3, 96, 5, .offered 3 5⟩ :=
  ⟨admits_line rfl rfl rfl rfl rfl, admits_line rfl rfl rfl rfl rfl, rfl⟩
theorem test_meets_Finalisation : min 2000 ((weighed 1920).measure.chute.count / (weighed 1920).line.ppk) ≠ 0 ∧
    min 2000 ((weighed 19).measure.chute.count / (weighed 19).line.ppk) = 0 := by decide
theorem test_meets_LotNumbers : (indexing .idle).liveNumbers.length ≤ 17 ∧ 1 ≤ (indexing .idle).carousel.counter ∧
    (indexing .idle).carousel.counter ≤ 65535 := by decide
theorem test_meets_DischargeDone : Admits p1 .dischargeDone 0 [] (weighed 1920) ∧
    (weighed 1920).request (.station .s1) = some ⟨.chips .m3, 96, 5, .opened 3 5 none⟩ ∧
    line.request (.station .s1) = none ∧ line.arbiter.late.get .s1 = none :=
  ⟨admits_line rfl rfl rfl rfl rfl, rfl, rfl, rfl⟩
theorem test_meets_Arbitration : (asked .pending).mayArbitrate = true ∧
    (asked .pending).request (.station .s1) = some ⟨.chips .m3, 96, 5, .pending⟩ ∧ 3 ≤ (asked .pending).freePockets ∧
    (askedSludge .pending).mayArbitrate = true ∧ State.reset.mayArbitrate = false := by decide
theorem test_meets_DischargeTimers : (asked (.offered 3 0)).current = some (.station .s1, ⟨.chips .m3, 96, 5, .offered 3 0⟩) ∧
    (weighed 0).current = some (.station .s1, ⟨.chips .m3, 96, 5, .opened 3 5 none⟩) ∧
    (askedSludge (.opened 2 0 (some 0))).current = some (.sludge, ⟨.sludge, 60, 6, .opened 2 0 (some 0)⟩) ∧
    line.current = none := by decide
theorem test_meets_ModeRequests : Admits .hall .hold 0 [] (indexing .idle) ∧ Admits .hall .release 0 [1] line ∧
    Admits .hall .resume 0 [] line ∧ (indexing .idle).carousel.mode = .run ∧ (indexing .idle).carousel.requested = true :=
  ⟨admits_line rfl rfl rfl rfl rfl, admits_line rfl rfl rfl rfl rfl, admits_line rfl rfl rfl rfl rfl, rfl, rfl⟩
theorem test_meets_RingRequests : Admits .hall .ringCleared 0 [] line ∧ Admits .hall .ringFlush 0 [] line ∧
    Admits .hall .setPocketLimit 0 [16] line ∧ State.reset.carousel.survey = .unsurveyed ∧ line.carousel.queue = [] ∧
    (∀ src, line.isCurrentSource src = false) ∧ line.carousel.index = .idle :=
  ⟨admits_line rfl rfl rfl rfl rfl, admits_line rfl rfl rfl rfl rfl, admits_line rfl rfl rfl rfl rfl, rfl, rfl,
    fun src => by rcases src with st | _ <;> [cases st <;> rfl; rfl], rfl⟩
theorem test_meets_IndexStart : (indexing .idle).indexMayStart = true ∧ line.indexMayStart = false ∧
    (indexing .idle).carousel.queue = [lotOf 420 96 3 false] := by decide
theorem test_meets_StepsAndFaults : line.measure.sensor = ⟨false, none⟩ ∧
    (indexing (.indexing 2 5)).carousel.index = .indexing 2 5 ∧ (indexing (.indexing 1 5)).carousel.index = .indexing 1 5 ∧
    (indexing (.suspended 1 false)).carousel.index = .suspended 1 false ∧
    Admits .hall .carouselRetry 0 [] (indexing (.faulted 2)) :=
  ⟨rfl, rfl, rfl, rfl, admits_line rfl rfl rfl rfl rfl⟩
theorem test_meets_FeedEvaluation : { indexing .idle with
      carousel := { (indexing .idle).carousel with requested := false } }.mayFeed = true ∧
    (indexing .idle).headLot = some (lotOf 420 96 3 false) ∧ (indexing .idle).crusher.state = .stopped ∧
    (indexing .idle).line.cBin .sludge = 1500 ∧ (indexing .idle).crusher.fills.get .sludge = 0 := by decide
theorem test_meets_LotArrival : (lotOf 420 96 3 false).content = .chips .m3 ⟨.hard, .stringy, 40, 180, 50, 30⟩ ∧
    (lotOf 421 60 2 true).content = .sludge ∧ line.crusher.state = .stopped ∧ line.inSafeStop = false ∧
    (crushing (.idleRun 5) none).crusher.state = .idleRun 5 := by decide
theorem test_meets_CrusherTimers : (crushing (.runUp 0) (some ⟨lotOf 420 96 3 false, 9, 0⟩)).crusher.state = .runUp 0 ∧
    (crushing (.purge 0 .hard) none).crusher.state = .purge 0 .hard ∧ (crushing (.idleRun 0) none).crusher.state = .idleRun 0 ∧
    (crushing (.runDown 0) none).crusher.slot = none ∧ (crushing (.reversing 0) none).crusher.state = .reversing 0 := by decide
theorem test_meets_LotEnds : (stalling 0).crusher.state = .crushing ∧
    (stalling 0).crusher.slot = some ⟨lotOf 420 96 3 false, 9, 0⟩ ∧
    (crushing .passThrough (some ⟨lotOf 421 60 2 true, 0, 0⟩)).crusher.state = .passThrough := by decide
theorem test_meets_PulsesAndDrive : (stalling 2).measure.shaft = .counting 2 4 0 ∧ line.measure.shaft = .idle ∧
    (stalling 2).crusher.stallCount = 2 ∧ 2 * 120 / 4 * 100 < 50 * 180 ∧ 50 * 180 ≤ 3 * 120 / 4 * 100 := by decide
theorem test_meets_ClearRequests : Admits .hall .crusherClear 0 [1] (crushing .blocked (some ⟨lotOf 420 96 3 false, 9, 4⟩)) ∧
    (crushing .blocked (some ⟨lotOf 420 96 3 false, 9, 4⟩)).crusher.state = .blocked ∧ Admits .hall .binEmptied 0 [5] line :=
  ⟨admits_line rfl rfl rfl rfl rfl, rfl, admits_line rfl rfl rfl rfl rfl⟩
theorem test_meets_FilterRequests : Admits .hall .backwashNow 0 [] line ∧ Admits .hall .indexNow 0 [] (filtered .filtering) ∧
    (filtered .filtering).filter.fleece = some 512 ∧ line.filter.state = .filtering ∧ line.filter.troughFull = false :=
  ⟨admits_line rfl rfl rfl rfl rfl, admits_line rfl rfl rfl rfl rfl, rfl, rfl, rfl⟩
theorem test_meets_Fleece : Admits .hall .fleeceLoaded 0 (pay [0x31, 0x75]) line ∧ u16At (pay [0x31, 0x75]) 0 = 30001 ∧
    (filtered (.indexing 20 19 0)).filter.state = .indexing 20 19 0 ∧
    (filtered (.indexing 20 19 0)).filter.fleece = some 512 :=
  ⟨admits_line rfl rfl rfl rfl rfl, by decide, rfl, rfl⟩
theorem test_meets_FilterTimers : (filtered (.backwash 0)).filter.state = .backwash 0 ∧
    (filtered (.settle (some 0))).filter.state = .settle (some 0) ∧ line.filter.state = .filtering ∧
    1000 * line.line.bwGap ≤ line.filter.gap ∧ line.inSafeStop = false := by decide
theorem test_meets_ReadRequests : Admits .hall .tableRead 0 [14] line ∧ slotNumber .wash2 = (14#8).toNat ∧
    Admits .hall .lotRead 0 [16] line ∧ Admits .hall .lotRead 0 [1] (indexing .idle) ∧
    (indexing .idle).carousel.queue[(1#8).toNat - 1]? = some (lotOf 420 96 3 false) ∧
    Admits .hall .profileRead 0 [176] line ∧ Admits p1 .range 0 [176] line ∧
    itemOfNumber 175 = none ∧ itemOfNumber 41 = some (.writable (.line .levelCal)) :=
  ⟨admits_line rfl rfl rfl rfl rfl, rfl, admits_line rfl rfl rfl rfl rfl, admits_line rfl rfl rfl rfl rfl, rfl,
    admits_line rfl rfl rfl rfl rfl, admits_line rfl rfl rfl rfl rfl, by decide, by decide⟩
theorem test_meets_ProfileWrite : Admits .hall .profileWrite 0 (pay [27, 4, 0]) line ∧
    itemOfNumber (byteAt (pay [27, 4, 0]) 0) = some (.writable (.line .inService)) ∧ line.store.save = .idle ∧
    itemOfNumber (byteAt (pay [0, 4, 0]) 0) = none := ⟨admits_line rfl rfl rfl rfl rfl, by decide⟩
theorem test_meets_HandOver : itemOfNumber 34 = some (.writable (.line .nRetry)) ∧
    itemOfNumber 101 = some (.writable (.level .profileSaved)) ∧ itemOfNumber 71 = some (.writable (.station .s6 .watchEnable)) ∧
    itemOfNumber 38 = some (.writable (.line .cBinSludge)) ∧ itemOfNumber 15 = some (.writable (.line .bwGap)) := by decide
theorem test_meets_ProfileLoad : Admits .hall .profileLoad 0 [2] line ∧ line.store.save = .idle ∧
    line.store.nonVolatile.set2.line.inService = line.line.inService ∧ 2 < (3#8).toNat :=
  ⟨admits_line rfl rfl rfl rfl rfl, rfl, rfl, by decide⟩
theorem test_meets_ProfileSave : Admits .hall .profileSave 0 [2] line ∧ line.store.save = .idle ∧
    { line.store with save := .saving .set1 factoryProfile 0 }.save ≠ .idle :=
  ⟨admits_line rfl rfl rfl rfl rfl, rfl, by simp⟩
theorem test_meets_Conversions : (converting .dp 3).measure.conversion.channel = .dp ∧
    (converting .level 0).measure.conversion.channel = .level ∧ (4094#12 : BitVec 12) ≠ 4095#12 ∧ (1#12 : BitVec 12) ≠ 0#12 := by
  decide
theorem test_meets_LevelBands : factoryLine.lMin < factoryLine.lLo ∧ factoryLine.lLo < factoryLine.lHi ∧
    line.supply.band = some .normal ∧ line.supply.levelFaults = 0 := by decide
theorem test_meets_Publication : line.supply.dpMark = true ∧ line.supply.levelMark = true ∧
    line.supply.band = some .normal ∧ State.reset.supply.dpMark = false := by decide
theorem test_meets_FilterSample : (filtered (.settle none)).filter.state = .settle none ∧ line.filter.state = .filtering ∧
    (filtered (.backwash 5)).filter.state = .backwash 5 := by decide
theorem test_meets_ValveOutputs : (staged.drive.channels.get .wash1).pending = some (.reduction 344) ∧
    (staged.drive.channels.get .wash2).pending = some (.increase 176) ∧
    ∀ sl, ChannelFits (staged.drive.channels.get sl) :=
  ⟨by decide, by decide, fun sl => by
    rcases sl with ⟨st, c⟩ | _ | _
    · cases st <;> cases c <;> exact ⟨Nat.zero_le _, trivial⟩
    all_goals simp [ChannelFits, staged, PerSlot.get, PerSlot.set]⟩
theorem test_meets_StopCauses : line.measure.supplyGood = true ∧ line.measure.monitor = .good ∧
    Admits .hall .lineStop 0 [] line ∧ Admits .hall .lineResume 0 [] stopped ∧ stopped.stop.hall = true ∧
    (left (exec (.fieldSupplyFall 0) line)).measure.monitor = .dip 80 :=
  ⟨rfl, rfl, admits_line rfl rfl rfl rfl rfl, admits_line rfl rfl rfl rfl rfl, rfl, by decide⟩

/-- The line has one request at most, that of station 1. -/
theorem one_current (x : DischargeState) (a b : Source) (ha : (asked x).isCurrent a) (hb : (asked x).isCurrent b) : a = b := by
  have key : ∀ c, (asked x).isCurrent c → c = .station .s1 := by
    intro c hc
    rcases c with st | _
    · cases st <;> first | rfl | exact absurd hc (by simp [State.isCurrent, State.isCurrentSource, asked, State.request,
        PerSource.get, PerSource.set, PerStation.get, PerStation.set, line, State.reset, powerOnState, arbiterPowerOn,
        PerSource.same, PerStation.same])
    · exact absurd hc (by simp [State.isCurrent, State.isCurrentSource, asked, State.request, PerSource.get, PerSource.set,
        line, State.reset, powerOnState, arbiterPowerOn, PerSource.same])
  rw [key a ha, key b hb]
theorem test_meets_SafeStopEntry : { asked (.opened 3 5 none) with stop := ⟨false, true, some .hall⟩ }.inSafeStop = true ∧
    (∀ a b, (asked (.opened 3 5 none)).isCurrent a → (asked (.opened 3 5 none)).isCurrent b → a = b) ∧
    (∀ a b, (asked (.offered 3 5)).isCurrent a → (asked (.offered 3 5)).isCurrent b → a = b) ∧
    (asked (.opened 3 5 none)).isOpen (.station .s1) = true ∧
    (asked (.offered 3 5)).request (.station .s1) = some ⟨.chips .m3, 96, 5, .offered 3 5⟩ ∧
    ∀ sl, (asked (.opened 3 5 none)).slots.get sl = none :=
  ⟨rfl, one_current _, one_current _, rfl, rfl,
    fun sl => by rcases sl with ⟨st, c⟩ | _ | _ <;> [cases st <;> cases c <;> rfl; rfl; rfl]⟩
theorem test_meets_SafeStopExit : (indexing (.suspended 2 false)).carousel.index = .suspended 2 false ∧
    (indexing (.suspended 0 true)).carousel.index = .suspended 0 true ∧
    (indexing (.suspended 0 true)).carousel.survey ≠ .flushing ∧ (crushing .stopped none).crusher.state = .stopped := by decide
theorem test_meets_LineRestart : Admits .hall .lineRestart 0 [] (asked (.opened 3 5 none)) ∧
    (∀ a b, (asked (.opened 3 5 none)).isCurrent a → (asked (.opened 3 5 none)).isCurrent b → a = b) ∧
    (asked (.opened 3 5 none)).isOpen (.station .s1) = true ∧
    Admits .hall .lineRestart 0 [] indexingPending ∧ (∀ a, ¬ indexingPending.isCurrent a) ∧
    indexingPending.filter = ⟨.indexing 20 12 5000, true, 3600000, false, some 512⟩ ∧
    1000 * indexingPending.line.bwGap ≤ 3600000 ∧ indexingPending.inSafeStop = false :=
  ⟨admits_line rfl rfl rfl rfl rfl, one_current _, rfl, admits_line rfl rfl rfl rfl rfl,
    fun a => by rcases a with st | _ <;> [cases st <;> exact Bool.false_ne_true; exact Bool.false_ne_true], rfl,
    by decide, rfl⟩

/-! ## States that meet the laws of the device -/

/-- The waiting command of the steps below. -/
def stepping (s : State) : State := s.withQueue [.shaftPulse]

theorem factory_fits : factoryProfile.fits := by
  refine ⟨fun i => ?_, rfl, rfl⟩
  rcases i with l | ⟨st, f⟩ | c | k | ⟨m, f⟩
  · cases l <;> decide
  · cases st <;> cases f <;> decide
  · rcases c with ⟨st, c⟩ | _ | _
    · cases st <;> cases c <;> decide
    all_goals decide
  · cases k <;> decide
  · cases m <;> cases f <;> decide

/-- Station 3's keep-alive exponent is the only item that differs from set 0. -/
theorem station3_fits : station3.store.working.fits := by
  refine ⟨fun i => ?_, rfl, rfl⟩
  cases i with
  | station st f => cases st <;> cases f <;> decide
  | line l => exact factory_fits.1 (.line l)
  | vmax c => exact factory_fits.1 (.vmax c)
  | level k => exact factory_fits.1 (.level k)
  | material m f => exact factory_fits.1 (.material m f)

theorem test_meets_StepKeepsTableLaw : SupplyLaw (stepping station3) ∧ TableLaw (stepping station3) ∧
    UnliveLaw (stepping station3) ∧ StoreLaw (stepping station3) ∧ step (stepping station3) = .next station3 := by
  refine ⟨by unfold SupplyLaw; decide, ⟨fun sl e h => ?_, by decide⟩, fun st h => ?_,
    ⟨station3_fits, factory_fits, factory_fits, fun n p x h => ?_⟩, rfl⟩
  · change station3.slots.get sl = some e at h
    rcases sl with ⟨st, c⟩ | _ | _
    · cases st <;> cases c <;> simp [station3, PerSlot.get, PerSlot.set, PerSlot.same, PerStation.get, PerStation.set,
        PerStation.same, entry] at h <;> subst h <;> exact ⟨by unfold Entry.valuesFit; decide, rfl⟩
    · simp [station3, PerSlot.get, PerSlot.set, PerSlot.same] at h
    · simp [station3, PerSlot.get, PerSlot.set, PerSlot.same] at h
  · exact absurd (by cases st <;> rfl) h
  · exact absurd h (by simp [stepping, State.withQueue, station3, line, State.reset, powerOnState, storePowerOn])

/-- Station 1's offer is the one current discharge, of 3 pockets. -/
theorem test_meets_StepKeepsDischargeLaw :
    let s := asked (.offered 3 5)
    DischargeLaw (stepping s) ∧ PocketLaw (stepping s) ∧ StoreLaw (stepping s) ∧ FilterLaw (stepping s) ∧
      step (stepping s) = .next s := by
  have none_other : ∀ src r, (asked (.offered 3 5)).request src = some r → r = ⟨.chips .m3, 96, 5, .offered 3 5⟩ := by
    intro src r h
    rcases src with st | _
    · cases st <;> simp [asked, State.request, PerSource.get, PerSource.set, PerStation.get, PerStation.set, line,
        State.reset, powerOnState, arbiterPowerOn, PerSource.same, PerStation.same] at h
      exact h.symm
    · simp [asked, State.request, PerSource.get, PerSource.set, line, State.reset, powerOnState, arbiterPowerOn,
        PerSource.same] at h
  refine ⟨⟨one_current _, fun _ _ => ⟨rfl, rfl, rfl⟩, fun src => ?_, ?_⟩, ⟨?_, fun src r h => ?_, by decide⟩,
    ⟨factory_fits, factory_fits, factory_fits, ?_⟩, ⟨?_, ?_, ?_, ?_, ?_⟩, rfl⟩
  · rcases src with st | _ <;> [cases st <;> rfl; rfl]
  · constructor
    · intro h; exact absurd h (by decide)
    · rintro ⟨src, h⟩
      rcases src with st | _ <;> [cases st <;> exact absurd h (by decide); exact absurd h (by decide)]
  · intro l h; exact absurd h (by simp [stepping, State.withQueue, asked, line, State.reset, powerOnState, carouselPowerOn])
  · rw [none_other src r h]; decide
  · intro n p x h; exact absurd h (by simp [stepping, State.withQueue, asked, line, State.reset, powerOnState, storePowerOn])
  · intro l m n h; exact absurd h (by simp [stepping, State.withQueue, asked, line, State.reset, powerOnState, filterPowerOn])
  · constructor
    · intro h; exact absurd h (by decide)
    · rintro ⟨l, m, n, h⟩
      exact absurd h (by simp [stepping, State.withQueue, asked, line, State.reset, powerOnState, filterPowerOn])
  · intro n h; exact absurd h (by simp [stepping, State.withQueue, asked, line, State.reset, powerOnState, filterPowerOn])
  · constructor
    · intro h; exact absurd rfl h
    · rintro ⟨n, h⟩
      exact absurd h (by simp [stepping, State.withQueue, asked, line, State.reset, powerOnState, filterPowerOn])
  · constructor
    · intro h; exact absurd h (by decide)
    · intro h; exact absurd rfl h

theorem test_meets_StepKeepsFilterLaw :
    let s := asked (.offered 3 5)
    FilterLaw (stepping s) ∧ DriveLaw (stepping s) ∧ step (stepping s) = .next s := by
  refine ⟨test_meets_StepKeepsDischargeLaw.2.2.2.1, ⟨rfl, by decide, ?_, fun sl => ?_⟩, rfl⟩
  · constructor
    · intro h; exact absurd h (by decide)
    · rintro ⟨n, t, h⟩
      exact absurd h (by simp [stepping, State.withQueue, asked, line, State.reset, powerOnState, carouselPowerOn])
  · rcases sl with ⟨st, c⟩ | _ | _
    · cases st <;> cases c <;> exact ⟨Nat.zero_le _, trivial⟩
    all_goals exact ⟨Nat.zero_le _, trivial⟩

/-- The same, for the laws of the ring and the crusher. -/
theorem test_meets_StepKeepsRingLaw :
    let s := asked (.offered 3 5)
    RingLaw (stepping s) ∧ CrusherLaw (stepping s) := by
  refine ⟨⟨by decide, by decide, by decide, by decide, ?_, ?_, ?_, ?_, ?_, ?_⟩, ⟨trivial, ?_, ?_, ?_, ?_, ?_, ?_⟩⟩
  all_goals
    simp [stepping, State.withQueue, asked, line, State.reset, powerOnState, carouselPowerOn, crusherPowerOn]

end Sys2Proof.Tests
end

section
/-! SUPPORT. The pass order (R15): a strict order of the slots, and the list that a pass takes its entries from. -/

namespace Sys2Proof.Machine

/-- R15: the standing of an entry as a number, holders before newcomers. -/
def standingRank (e : Entry) : Nat := if e.admitted then 0 else 1

theorem standingRank_eq_iff (a b : Entry) : standingRank a = standingRank b ↔ a.admitted = b.admitted := by
  unfold standingRank
  cases a.admitted <;> cases b.admitted <;> decide

theorem standingRank_lt_iff {a b : Entry} (h : a.admitted ≠ b.admitted) :
    standingRank a < standingRank b ↔ a.admitted = true := by
  unfold standingRank
  cases ha : a.admitted <;> cases hb : b.admitted <;> simp_all

/-- R15: the four keys of the pass order, each deciding where those before it are equal. -/
theorem passBefore_iff (a b : Slot × Entry) : passBefore a b = true ↔
    b.2.urgency < a.2.urgency ∨ b.2.urgency = a.2.urgency ∧
      (standingRank a.2 < standingRank b.2 ∨ standingRank a.2 = standingRank b.2 ∧
        (slotSource a.1 < slotSource b.1 ∨ slotSource a.1 = slotSource b.1 ∧
          circuitRank a.1 < circuitRank b.1)) := by
  unfold passBefore
  split
  case isTrue hurgency => simp [Ne.symm hurgency]
  case isFalse hurgency =>
    have hurgency := of_not_not hurgency
    split
    case isTrue hstanding =>
      simp [hurgency, standingRank_lt_iff hstanding, standingRank_eq_iff, hstanding]
    case isFalse hstanding =>
      have hrank := (standingRank_eq_iff a.2 b.2).mpr (of_not_not hstanding)
      split <;> simp_all

/-- Table 01-1: the number of a slot names it. -/
@[simp] theorem slotOfNumber_slotNumber (sl : Slot) : slotOfNumber (slotNumber sl) = some sl := by
  rcases sl with ⟨st, c⟩ | _ | _
  · cases st <;> cases c <;> rfl
  all_goals rfl

/-- Table 01-1: slots are numbered by source, and within a source by circuit. -/
theorem slotNumber_eq_ranks (sl : Slot) : slotNumber sl = 2 * slotSource sl - 1 + circuitRank sl := by
  rcases sl with ⟨st, c⟩ | _ | _
  · cases st <;> cases c <;> rfl
  all_goals rfl

theorem slot_eq_of_ranks {a b : Slot} (hs : slotSource a = slotSource b) (hc : circuitRank a = circuitRank b) :
    a = b := by
  have hnumber : slotNumber a = slotNumber b := by rw [slotNumber_eq_ranks, slotNumber_eq_ranks, hs, hc]
  have hslot := congrArg slotOfNumber hnumber
  simpa using hslot

theorem passBefore_irrefl (a : Slot × Entry) : passBefore a a = false := by
  rw [Bool.eq_false_iff, ne_eq, passBefore_iff]
  omega

theorem passBefore_trans {a b c : Slot × Entry} (hab : passBefore a b = true) (hbc : passBefore b c = true) :
    passBefore a c = true := by
  rw [passBefore_iff] at *
  omega

theorem passBefore_asymm {a b : Slot × Entry} (h : passBefore a b = true) : passBefore b a = false := by
  rw [Bool.eq_false_iff, ne_eq]
  intro h'
  have := passBefore_trans h h'
  simp [passBefore_irrefl] at this

theorem passBefore_total {a b : Slot × Entry} (h : a.1 ≠ b.1) (hab : ¬ passBefore a b = true) :
    passBefore b a = true := by
  have hslot : ¬ (slotSource a.1 = slotSource b.1 ∧ circuitRank a.1 = circuitRank b.1) :=
    fun ⟨hs, hc⟩ => h (slot_eq_of_ranks hs hc)
  rw [passBefore_iff] at *
  omega

theorem insertPass_perm (x : Slot × Entry) (l : List (Slot × Entry)) : (insertPass x l).Perm (x :: l) := by
  induction l with
  | nil => exact .refl _
  | cons y l ih =>
    unfold insertPass
    split
    · exact .refl _
    · exact (ih.cons y).trans (.swap x y l)

theorem insertPass_sorted (x : Slot × Entry) (l : List (Slot × Entry)) (hl : l.Pairwise (passBefore · ·))
    (hx : ∀ y ∈ l, x.1 ≠ y.1) : (insertPass x l).Pairwise (passBefore · ·) := by
  induction l with
  | nil => exact List.pairwise_singleton _ _
  | cons y l ih =>
    obtain ⟨hy, hl'⟩ := List.pairwise_cons.mp hl
    unfold insertPass
    split
    case isTrue hxy =>
      refine List.pairwise_cons.mpr ⟨fun z hz => ?_, hl⟩
      rcases List.mem_cons.mp hz with rfl | hz
      · exact hxy
      · exact passBefore_trans hxy (hy z hz)
    case isFalse hxy =>
      refine List.pairwise_cons.mpr ⟨fun z hz => ?_, ih hl' fun z hz => hx z (List.mem_cons_of_mem y hz)⟩
      rcases List.mem_cons.mp ((insertPass_perm x l).mem_iff.mp hz) with rfl | hz
      · exact passBefore_total (hx y List.mem_cons_self) hxy
      · exact hy z hz

theorem sortPass_perm (l : List (Slot × Entry)) : (l.foldr insertPass []).Perm l := by
  induction l with
  | nil => exact .refl _
  | cons x l ih => exact (insertPass_perm x _).trans (ih.cons x)

theorem sortPass_sorted (l : List (Slot × Entry)) (h : (l.map Prod.fst).Nodup) :
    (l.foldr insertPass []).Pairwise (passBefore · ·) := by
  induction l with
  | nil => exact .nil
  | cons x l ih =>
    obtain ⟨hx, hl⟩ := List.nodup_cons.mp h
    refine insertPass_sorted x _ (ih hl) fun y hy hxy => hx ?_
    rw [hxy]
    exact List.mem_map_of_mem ((sortPass_perm l).mem_iff.mp hy)

/-- R14: the entry that takes part in a pass for its slot is the table's, and is not SUSPENDED. -/
theorem passEntry_eq_some_iff (t : PerSlot (Option Entry)) (sl : Slot) (x : Slot × Entry) :
    passEntry t sl = some x ↔ x.1 = sl ∧ t.get sl = some x.2 ∧ x.2.state ≠ .suspended := by
  unfold passEntry
  obtain ⟨sl', e⟩ := x
  cases t.get sl with
  | none => simp
  | some e' => split <;> grind

theorem mem_passOrder (t : PerSlot (Option Entry)) (x : Slot × Entry) :
    x ∈ passOrder t ↔ t.get x.1 = some x.2 ∧ x.2.state ≠ .suspended := by
  unfold passOrder
  rw [(sortPass_perm _).mem_iff, List.mem_filterMap]
  simp only [passEntry_eq_some_iff]
  exact ⟨fun ⟨_, _, h, hx⟩ => h ▸ hx, fun hx => ⟨x.1, mem_allSlots _, rfl, hx⟩⟩

/-- A table has at most one entry for a slot. -/
theorem passEntries_slots_nodup (t : PerSlot (Option Entry)) (l : List Slot) (hl : l.Nodup) :
    ((l.filterMap (passEntry t)).map Prod.fst).Nodup := by
  rw [List.Nodup, List.pairwise_map, List.pairwise_filterMap]
  refine hl.imp fun {a b} hab x hx y hy => ?_
  rwa [((passEntry_eq_some_iff t a x).mp hx).1, ((passEntry_eq_some_iff t b y).mp hy).1]

theorem passOrder_slots_nodup (t : PerSlot (Option Entry)) : ((passOrder t).map Prod.fst).Nodup :=
  ((sortPass_perm _).map Prod.fst).nodup_iff.mpr (passEntries_slots_nodup t allSlots (by decide))

theorem passOrder_sorted (t : PerSlot (Option Entry)) : (passOrder t).Pairwise (passBefore · ·) :=
  sortPass_sorted _ (passEntries_slots_nodup t allSlots (by decide))

end Sys2Proof.Machine
end

section
/-! SUPPORT. The two halves of a pass (R16 to R19), line by line, and the table that the pass makes of them. -/

namespace Sys2Proof.Machine

/-- The entry of a line with its slot, as it stood in the pass order. -/
def PassLine.key (l : PassLine) : Slot × Entry := (l.slot, l.entry)

/-- A sum over the lines that pass 1 admitted. -/
def takenSum (f : Slot × Entry → Nat) (ls : List PassLine) : Nat :=
  (ls.map (fun l => if l.taken then f l.key else 0)).sum

/-- R17: the number of sharers among some lines. -/
def sharerCount (ls : List PassLine) : Nat := (ls.map (fun l => if 0 < l.want then 1 else 0)).sum

/-- R18, R19: what pass 2 makes of a line when so many leftover litres are still to be given out. -/
def PassLine.outcome (pool total left : Nat) (l : PassLine) : Entry :=
  if l.taken then
    l.entry.grant (l.entry.need + baseShare pool total l + if 0 < l.want ∧ 0 < left then 1 else 0)
  else l.entry.wait

@[simp] theorem grant_admitted (e : Entry) (flow : Nat) : (e.grant flow).admitted = true := by
  unfold Entry.grant Entry.admitted
  split_ifs <;> rfl

@[simp] theorem wait_admitted (e : Entry) : e.wait.admitted = false := rfl

@[simp] theorem outcome_admitted (pool total left : Nat) (l : PassLine) :
    (l.outcome pool total left).admitted = l.taken := by
  unfold PassLine.outcome
  split <;> simp_all

theorem want_of_taken {l : PassLine} (h : l.taken = true) : l.want = l.entry.want := if_pos h

/-! ## Pass 1 -/

/-- R16: pass 1 goes through its entries in their order. -/
@[simp] theorem pass1_keys (r : Nat) (blocking : Option Nat) (xs : List (Slot × Entry)) :
    (pass1 r blocking xs).1.map PassLine.key = xs := by
  induction xs generalizing r blocking with
  | nil => rfl
  | cons x xs ih =>
    unfold pass1
    split <;> simp [ih, PassLine.key]

/-- R16: the remainder falls by the need of each entry admitted. -/
theorem pass1_remainder (r : Nat) (blocking : Option Nat) (xs : List (Slot × Entry)) :
    (pass1 r blocking xs).2 + takenSum (fun y => y.2.need) (pass1 r blocking xs).1 = r := by
  induction xs generalizing r blocking with
  | nil => rfl
  | cons x xs ih =>
    unfold pass1
    split
    case isTrue hadmit =>
      have hfits : x.2.need ≤ r := by simp_all
      have hrest := ih (r - x.2.need) blocking
      simp only [takenSum, List.map_cons, List.sum_cons, PassLine.key, if_true] at hrest ⊢
      omega
    case isFalse hadmit =>
      simpa [takenSum] using ih r (blocking <|> some x.2.urgency)

/-! ## Pass 2 -/

/-- R18: a line takes its outcome, and a leftover litre where it is a sharer and one is left. -/
theorem pass2_cons (pool total left : Nat) (l : PassLine) (ls : List PassLine) :
    pass2 pool total left (l :: ls) =
      (l.slot, l.outcome pool total left) :: pass2 pool total (left - if 0 < l.want then 1 else 0) ls := by
  rw [pass2]
  cases htaken : l.taken with
  | false => simp [PassLine.outcome, PassLine.want, htaken]
  | true =>
    by_cases hwant : 0 < l.want <;> by_cases hleft : 0 < left <;>
      simp_all [PassLine.outcome, Nat.add_assoc]

@[simp] theorem pass2_slots (pool total left : Nat) (ls : List PassLine) :
    (pass2 pool total left ls).map Prod.fst = ls.map PassLine.slot := by
  induction ls generalizing left with
  | nil => rfl
  | cons l ls ih => rw [pass2_cons, List.map_cons, List.map_cons, ih]

/-- R18: the leftover litres that reach a line are those that the sharers before it have not taken. -/
theorem outcome_mem_pass2 (pool total left : Nat) (before after : List PassLine) (l : PassLine) :
    (l.slot, l.outcome pool total (left - sharerCount before)) ∈ pass2 pool total left (before ++ l :: after) := by
  induction before generalizing left with
  | nil => rw [List.nil_append, pass2_cons]; exact List.mem_cons_self
  | cons b before ih =>
    rw [List.cons_append, pass2_cons]
    refine List.mem_cons_of_mem _ ?_
    convert ih (left - if 0 < b.want then 1 else 0) using 3
    simp only [sharerCount, List.map_cons, List.sum_cons]
    omega

/-! ## The table after a pass -/

/-- R14: entries written over a table, as a pass writes its result. -/
def writeEntries (xs : List (Slot × Entry)) (t : PerSlot (Option Entry)) : PerSlot (Option Entry) :=
  xs.foldl (fun t x => t.set x.1 (some x.2)) t

theorem passTable_eq_writeEntries (figure : Nat) (t : PerSlot (Option Entry)) :
    passTable figure t = writeEntries (passResult figure t) t := rfl

@[simp] theorem writeEntries_cons (x : Slot × Entry) (xs : List (Slot × Entry)) (t : PerSlot (Option Entry)) :
    writeEntries (x :: xs) t = writeEntries xs (t.set x.1 (some x.2)) := rfl

theorem get_writeEntries_of_notMem (xs : List (Slot × Entry)) (t : PerSlot (Option Entry)) (sl : Slot)
    (h : sl ∉ xs.map Prod.fst) : (writeEntries xs t).get sl = t.get sl := by
  induction xs generalizing t with
  | nil => rfl
  | cons x xs ih =>
    obtain ⟨hx, hxs⟩ := not_or.mp (mt List.mem_cons.mpr h)
    rw [writeEntries_cons, ih _ hxs, PerSlot.get_set_ne _ hx]

theorem get_writeEntries_of_mem (xs : List (Slot × Entry)) (t : PerSlot (Option Entry)) (x : Slot × Entry)
    (hn : (xs.map Prod.fst).Nodup) (h : x ∈ xs) :
    (writeEntries xs t).get x.1 = some x.2 := by
  induction xs generalizing t with
  | nil => cases h
  | cons y xs ih =>
    obtain ⟨hy, hxs⟩ := List.nodup_cons.mp hn
    rcases List.mem_cons.mp h with rfl | h
    · rw [writeEntries_cons, get_writeEntries_of_notMem xs _ _ hy, PerSlot.get_set_same]
    · exact ih _ hxs h

/-- The lines that pass 1 leaves of a table. -/
def passLines (figure : Nat) (t : PerSlot (Option Entry)) : List PassLine := (pass1 figure none (passOrder t)).1

/-- R17: the remainder that pass 1 leaves of a table, which is the pool of pass 2. -/
def passPool (figure : Nat) (t : PerSlot (Option Entry)) : Nat := (pass1 figure none (passOrder t)).2

/-- R17: W, the sum of the wants of a pass. -/
def passWants (figure : Nat) (t : PerSlot (Option Entry)) : Nat := wantSum (passLines figure t)

/-- R18: L, the leftover litres of a pass. -/
def passLeftover (figure : Nat) (t : PerSlot (Option Entry)) : Nat :=
  leftover (passPool figure t) (passWants figure t) (passLines figure t)

/-- A pass is its second half over the lines of its first. -/
theorem passResult_eq_pass2 (figure : Nat) (t : PerSlot (Option Entry)) :
    passResult figure t =
      pass2 (passPool figure t) (passWants figure t) (passLeftover figure t) (passLines figure t) := rfl

@[simp] theorem passLines_keys (figure : Nat) (t : PerSlot (Option Entry)) :
    (passLines figure t).map PassLine.key = passOrder t := pass1_keys _ _ _

theorem passLines_slots_nodup (figure : Nat) (t : PerSlot (Option Entry)) :
    ((passLines figure t).map PassLine.slot).Nodup := by
  have h := passOrder_slots_nodup t
  rwa [← passLines_keys figure t, List.map_map] at h

/-- The slot of a line holds, after the pass, the outcome of that line. -/
theorem passTable_get_line (figure : Nat) (t : PerSlot (Option Entry)) {before after : List PassLine} {l : PassLine}
    (h : passLines figure t = before ++ l :: after) :
    (passTable figure t).get l.slot = some
      (l.outcome (passPool figure t) (passWants figure t) (passLeftover figure t - sharerCount before)) := by
  rw [passTable_eq_writeEntries, passResult_eq_pass2]
  refine get_writeEntries_of_mem _ t (l.slot, _) ?_ ?_
  · rw [pass2_slots]
    exact passLines_slots_nodup figure t
  · rw [h]
    exact outcome_mem_pass2 _ _ _ before after l

/-- R16: the entry that a pass leaves for a line is admitted exactly where pass 1 admitted it. -/
theorem passTable_admits_line (figure : Nat) (t : PerSlot (Option Entry)) {l : PassLine}
    (h : l ∈ passLines figure t) : ((passTable figure t).get l.slot).map Entry.admitted = some l.taken := by
  obtain ⟨before, after, h⟩ := List.append_of_mem h
  rw [passTable_get_line figure t h, Option.map_some, outcome_admitted]

/-- An entry that takes part in a pass is the entry of one of its lines. -/
theorem exists_line (figure : Nat) (t : PerSlot (Option Entry)) {sl : Slot} {e : Entry} (h : t.get sl = some e)
    (hs : e.state ≠ .suspended) : ∃ l ∈ passLines figure t, l.key = (sl, e) := by
  have hmem := (mem_passOrder t (sl, e)).mpr ⟨h, hs⟩
  rwa [← passLines_keys figure t, List.mem_map] at hmem

end Sys2Proof.Machine
end

section
/-! SUPPORT. The sums over the table by which the statements speak of a pass, as sums over the lines of pass 1 (R16 to R18). -/

namespace Sys2Proof.Machine

/-- An entry's part in a sum over the entries that a pass admitted. -/
def admittedTerm (after : PerSlot (Option Entry)) (f : Slot × Entry → Nat) (x : Slot × Entry) : Nat :=
  if (after.get x.1).map Entry.admitted = some true then f x else 0

/-- A slot has a part in such a sum where its entry takes part in the pass. -/
theorem admittedSum_eq_slots (t after : PerSlot (Option Entry)) (f : Slot × Entry → Nat) :
    admittedSum t after f =
      (allSlots.map (fun sl => ((passEntry t sl).map (admittedTerm after f)).getD 0)).sum := by
  unfold admittedSum
  congr 1
  refine List.map_congr_left fun sl _ => ?_
  unfold admittedEntry passEntry
  cases hbefore : t.get sl with
  | none => rfl
  | some e =>
    cases hafter : after.get sl with
    | none => by_cases hs : e.state = .suspended <;> simp [admittedTerm, hafter, hs]
    | some g =>
      by_cases hs : e.state = .suspended <;> cases hg : g.admitted <;> simp [admittedTerm, hafter, hs, hg]

/-- The sum over the admitted entries is taken over the pass order. -/
theorem admittedSum_eq_passOrder (t after : PerSlot (Option Entry)) (f : Slot × Entry → Nat) :
    admittedSum t after f = ((passOrder t).map (admittedTerm after f)).sum := by
  have hfilter : ∀ slots : List Slot,
      (slots.map (fun sl => ((passEntry t sl).map (admittedTerm after f)).getD 0)).sum =
        ((slots.filterMap (passEntry t)).map (admittedTerm after f)).sum := by
    intro slots
    induction slots with
    | nil => rfl
    | cons sl slots ih =>
      rw [List.map_cons, List.sum_cons, ih, List.filterMap_cons]
      cases passEntry t sl <;> simp
  rw [admittedSum_eq_slots, hfilter]
  exact ((sortPass_perm _).map _).sum_eq.symm

/-- The sum over the entries that a pass admitted is the sum over the lines that its first half admitted. -/
theorem admittedSum_passTable (figure : Nat) (t : PerSlot (Option Entry)) (f : Slot × Entry → Nat) :
    admittedSum t (passTable figure t) f = takenSum f (passLines figure t) := by
  rw [admittedSum_eq_passOrder, ← passLines_keys figure t, List.map_map, takenSum]
  congr 1
  refine List.map_congr_left fun l hl => ?_
  simp only [Function.comp_apply, admittedTerm, PassLine.key, passTable_admits_line figure t hl, Option.some_inj]

/-- R17: the pool is the remainder that pass 1 leaves. -/
theorem sharePool_passTable (figure : Nat) (t : PerSlot (Option Entry)) :
    sharePool figure t (passTable figure t) = passPool figure t := by
  have h : passPool figure t + takenSum (fun y => y.2.need) (passLines figure t) = figure := pass1_remainder _ _ _
  rw [sharePool, admittedSum_passTable]
  omega

/-- R17: the wants are those of the sharers. -/
theorem wantsOf_passTable (figure : Nat) (t : PerSlot (Option Entry)) :
    wantsOf t (passTable figure t) = passWants figure t := admittedSum_passTable _ _ _

/-- R18: the shares before the leftover litres, where the pool does not meet every want. -/
theorem takenSum_shares (pool total : Nat) (h : pool < total) (ls : List PassLine) :
    takenSum (fun y => pool * y.2.want / total) ls = (ls.map (baseShare pool total)).sum := by
  unfold takenSum
  congr 1
  refine List.map_congr_left fun l _ => ?_
  cases htaken : l.taken <;> simp [baseShare, PassLine.want, PassLine.key, htaken, Nat.not_le.mpr h]

/-- R18: the leftover of a pool that does not meet every want. -/
theorem leftoverOf_passTable (figure : Nat) (t : PerSlot (Option Entry))
    (h : passPool figure t < passWants figure t) :
    leftoverOf figure t (passTable figure t) = passLeftover figure t := by
  simp only [leftoverOf, sharePool_passTable, wantsOf_passTable, admittedSum_passTable, takenSum_shares _ _ h,
    passLeftover, leftover, if_neg (Nat.not_le.mpr h)]

/-- R18: an entry's part in the count of the sharers before another. -/
def sharerBefore (x y : Slot × Entry) : Nat := if passBefore y x && decide (0 < y.2.want) then 1 else 0

theorem sharersBefore_eq (t after : PerSlot (Option Entry)) (x : Slot × Entry) :
    sharersBefore t after x = admittedSum t after (sharerBefore x) := rfl

/-- R18: of lines that come before an entry, that count takes every sharer. -/
theorem takenSum_sharers_of_before (ls : List PassLine) (x : Slot × Entry)
    (h : ∀ l ∈ ls, passBefore l.key x = true) :
    takenSum (sharerBefore x) ls = sharerCount ls := by
  induction ls with
  | nil => rfl
  | cons l ls ih =>
    obtain ⟨hl, hls⟩ := List.forall_mem_cons.mp h
    have hrest := ih hls
    simp only [takenSum, sharerCount, List.map_cons, List.sum_cons] at hrest ⊢
    rw [hrest]
    cases htaken : l.taken with
    | false => simp [PassLine.want, htaken]
    | true => by_cases hwant : 0 < l.entry.want <;>
        simp_all [want_of_taken htaken, sharerBefore, PassLine.key]

/-- Lines that do not come before an entry have no part in that count. -/
theorem takenSum_sharers_of_notBefore (ls : List PassLine) (x : Slot × Entry)
    (h : ∀ l ∈ ls, passBefore l.key x = false) :
    takenSum (sharerBefore x) ls = 0 := by
  unfold takenSum
  refine List.sum_eq_zero fun n hn => ?_
  obtain ⟨l, hl, rfl⟩ := List.mem_map.mp hn
  simp [h l hl, sharerBefore]

/-- R18: the sharers before an entry in pass order are those among the lines before its own. -/
theorem sharersBefore_passTable (figure : Nat) (t : PerSlot (Option Entry)) {before after : List PassLine}
    {l : PassLine} (h : passLines figure t = before ++ l :: after) :
    sharersBefore t (passTable figure t) l.key = sharerCount before := by
  have hsorted := passOrder_sorted t
  rw [← passLines_keys figure t, h, List.pairwise_map] at hsorted
  obtain ⟨-, hline, hcross⟩ := List.pairwise_append.mp hsorted
  have hbefore : ∀ b ∈ before, passBefore b.key l.key = true := fun b hb => hcross b hb l List.mem_cons_self
  have hafter : ∀ a ∈ l :: after, passBefore a.key l.key = false :=
    List.forall_mem_cons.mpr
      ⟨passBefore_irrefl _, fun a ha => passBefore_asymm ((List.pairwise_cons.mp hline).1 a ha)⟩
  calc sharersBefore t (passTable figure t) l.key
      = takenSum (sharerBefore l.key) (before ++ l :: after) := by
        rw [sharersBefore_eq, admittedSum_passTable, h]
    _ = takenSum (sharerBefore l.key) before +
          takenSum (sharerBefore l.key) (l :: after) := by
        simp only [takenSum, List.map_append, List.sum_append]
    _ = sharerCount before := by
        rw [takenSum_sharers_of_before before _ hbefore, takenSum_sharers_of_notBefore _ _ hafter, Nat.add_zero]

end Sys2Proof.Machine
end

section
/-! The shares of pass 2 (O16). -/

namespace Sys2Proof.Machine

/-- R19: a granted entry stands GRANTED exactly where it has its whole asked flow. -/
theorem grant_state_granted_iff (e : Entry) (flow : Nat) :
    (e.grant flow).state = .granted ↔ (e.grant flow).granted = e.asked := by
  unfold Entry.grant
  split_ifs <;> simp_all

theorem outcome_of_waiting {l : PassLine} (h : l.taken = false) (pool total left : Nat) :
    l.outcome pool total left = l.entry.wait := by simp [PassLine.outcome, h]

theorem outcome_of_taken {l : PassLine} (h : l.taken = true) (pool total left : Nat) :
    l.outcome pool total left =
      l.entry.grant (l.entry.need + baseShare pool total l + if 0 < l.want ∧ 0 < left then 1 else 0) := if_pos h

/-- R17: a pool that meets every want gives a sharer its whole want, and leaves no litre to give out. -/
theorem outcome_granted_of_met {pool total : Nat} (h : total ≤ pool) {l : PassLine} (hl : l.taken = true)
    (ls : List PassLine) (n : Nat) :
    (l.outcome pool total (leftover pool total ls - n)).granted = l.entry.need + l.entry.want := by
  have hleft : leftover pool total ls = 0 := if_pos h
  have hshare : baseShare pool total l = l.want := if_pos h
  simp [outcome_of_taken hl, Entry.grant, hleft, hshare, want_of_taken hl]

/-- R18: otherwise it gives its share rounded down, and a litre more while one is left over. -/
theorem outcome_granted_of_short {pool total : Nat} (h : pool < total) {l : PassLine} (hl : l.taken = true)
    (left n : Nat) :
    (l.outcome pool total (left - n)).granted =
      l.entry.need + pool * l.entry.want / total + if 0 < l.entry.want ∧ n < left then 1 else 0 := by
  have hshare : baseShare pool total l = pool * l.want / total := if_neg (Nat.not_le.mpr h)
  simp [outcome_of_taken hl, Entry.grant, hshare, want_of_taken hl]

/-- Settles O16: the entry's line in the pass order is found, and what pass 2 makes of it is read in the sums over the table. -/
theorem passShares : Obligations.PassShares := by
  unfold Obligations.PassShares
  intro figure t sl e g he hs hg
  obtain ⟨l, hl, hkey⟩ := exists_line figure t he hs
  obtain ⟨rfl, rfl⟩ : l.slot = sl ∧ l.entry = e := Prod.mk.inj hkey
  obtain ⟨before, after, hsplit⟩ := List.append_of_mem hl
  obtain rfl := Option.some.inj (hg.symm.trans (passTable_get_line figure t hsplit))
  rw [outcome_admitted]
  refine ⟨fun hwait => by rw [outcome_of_waiting hwait]; rfl, fun htaken => ?_⟩
  simp only [sharePool_passTable, wantsOf_passTable]
  refine ⟨?_, fun hmet => outcome_granted_of_met hmet htaken _ _, fun hshort => ?_⟩
  · rw [outcome_of_taken htaken]
    exact grant_state_granted_iff _ _
  · have hbefore : sharersBefore t (passTable figure t) (l.slot, l.entry) = sharerCount before :=
      sharersBefore_passTable figure t hsplit
    rw [outcome_granted_of_short hshort htaken, leftoverOf_passTable figure t hshort, hbefore]

end Sys2Proof.Machine
end

section
/-! What the read requests answer (O42): the bytes and numbers they carry, and the answer of each rule. -/

namespace Sys2Proof.Machine

/-! ## Bytes and numbers -/

@[simp] theorem byteOf_toNat (n : Byte) : byteOf n.toNat = n := by simp [byteOf]

@[simp] theorem byteAt_singleton (n : Byte) : byteAt [n] 0 = n.toNat := rfl

/-- R22: only 1 to 14 are slot numbers. -/
theorem slotOfNumber_eq_none {n : Nat} (h : n = 0 ∨ 14 < n) : slotOfNumber n = none := by
  unfold slotOfNumber
  split
  case isTrue => rfl
  case isFalse hzero =>
    have hlength : allSlots.length = 14 := rfl
    exact List.getElem?_eq_none (by omega)

/-- R133: the set 0 value that RANGE reports of an item is its value in set 0. -/
theorem itemRange_factory (i : Item) : (itemRange i).factory = factoryProfile.get i := by
  cases i with
  | line i => cases i <;> rfl
  | station st f => cases st <;> cases f <;> rfl
  | vmax c => rfl
  | level k => rfl
  | material m f => cases f <;> rfl

/-! ## The rules -/

theorem ruleTableRead_noSlot {n : Byte} (h : n = 0#8 ∨ 14 < n.toNat) (s : State) :
    ruleTableRead [n] s = bare .refusedRange s := by
  have hslot : slotOfNumber n.toNat = none := slotOfNumber_eq_none (h.imp (congrArg BitVec.toNat) id)
  simp [ruleTableRead, hslot]

theorem ruleTableRead_slot {n : Byte} {sl : Slot} (h : slotNumber sl = n.toNat) (s : State) :
    ruleTableRead [n] s = ⟨s, .done, tableEntry sl (s.slots.get sl)⟩ := by
  simp [ruleTableRead, ← h]

theorem tableEntry_none {n : Byte} {sl : Slot} (h : slotNumber sl = n.toNat) :
    tableEntry sl none = [n, 0, 0, 0, 0, 0, 0, 0] := by
  rw [tableEntry, h, byteOf_toNat]
  rfl

theorem tableEntry_some {n : Byte} {sl : Slot} (h : slotNumber sl = n.toNat) (e : Entry) :
    tableEntry sl (some e) = [n, 1, byteOf (circuitCode sl), byteOf e.asked, byteOf (e.floor.getD 0),
      byteOf e.urgency, byteOf (entryStateCode e.state), byteOf e.granted] := by
  rw [tableEntry, h, byteOf_toNat]
  rfl

theorem ruleLotRead_beyond {n : Byte} (h : 16 < n.toNat) (s : State) :
    ruleLotRead [n] s = bare .refusedRange s := by
  simp [ruleLotRead, h]

theorem ruleLotRead_none {n : Byte} {s : State} (hn : n.toNat ≤ 16) (h : lotAt n.toNat s = none) :
    ruleLotRead [n] s = bare .empty s := by
  simp [ruleLotRead, Nat.not_lt.mpr hn, h]

theorem ruleLotRead_some {n : Byte} {s : State} {bytes : List Byte} (hn : n.toNat ≤ 16)
    (h : lotAt n.toNat s = some bytes) : ruleLotRead [n] s = ⟨s, .done, bytes⟩ := by
  simp [ruleLotRead, Nat.not_lt.mpr hn, h]

/-- R102: position 0 is the crusher slot. -/
theorem lotAt_zero (s : State) :
    lotAt 0 s = s.crusher.slot.map (fun x => lotBytes 0 x.lot (some (x.remaining, x.jams))) := rfl

/-- R102: the other positions are those of the queue, from its head. -/
theorem lotAt_queue {n : Byte} (h : n ≠ 0#8) (s : State) :
    lotAt n.toNat s = (s.carousel.queue[n.toNat - 1]?).map (fun l => lotBytes n.toNat l none) :=
  if_neg fun hzero => h (BitVec.eq_of_toNat_eq hzero)

theorem ruleProfileRead_none {n : Byte} (h : itemOfNumber n.toNat = none) (s : State) :
    ruleProfileRead [n] s = bare .refusedRange s := by
  simp [ruleProfileRead, h]

theorem ruleProfileRead_item {n : Byte} {r : ItemRef} (h : itemOfNumber n.toNat = some r) (s : State) :
    ruleProfileRead [n] s = ⟨s, .done, n :: i16 (s.itemValue r)⟩ := by
  simp [ruleProfileRead, h]

theorem ruleRange_none {n : Byte} (h : itemOfNumber n.toNat = none) (s : State) :
    ruleRange [n] s = ⟨s, .done, [n, 0, 0, 0, 0, 0, 0, 0, 0, 0]⟩ := by
  simp only [ruleRange, rangeReply, byteAt_singleton, byteOf_toNat, h]
  rfl

theorem ruleRange_item {n : Byte} {r : ItemRef} (h : itemOfNumber n.toNat = some r) (s : State) :
    ruleRange [n] s = ⟨s, .done, [n, 1] ++ i16 (refRange r).least ++ i16 (refRange r).greatest ++
      i16 (s.itemValue r) ++ i16 (refRange r).factory⟩ := by
  simp only [ruleRange, rangeReply, byteAt_singleton, byteOf_toNat, h]
  rfl

/-! ## The requests -/

/-- A port admits a request only while the logic supply holds. -/
theorem running_of_admits {p : Port} {k : Kind} {tag : Byte} {payload : List Byte} {s : State}
    (h : Admits p k tag payload s) (f : State → State) : running f s = .next (f s) := by
  obtain ⟨⟨hpowered, -⟩, -⟩ := h
  exact running_powered f s hpowered

/-- R127: PROFILE_READ of an item gives its value. -/
theorem profileRead_item {p : Port} {tag n : Byte} {s : State} (h : Admits p .profileRead tag [n] s) {r : ItemRef}
    {v : Int} (hr : itemOfNumber n.toNat = some r) (hv : s.itemValue r = v) :
    Answered p tag .profileRead .done (n :: i16 v) s s
      (requestOf p .profileRead tag [n] (ruleProfileRead [n]) s) :=
  answered h (hv ▸ ruleProfileRead_item hr s) rfl

/-- R132: RANGE of an item gives its limits, its value and its set 0 value. -/
theorem range_item {p : Port} {tag n : Byte} {s : State} (h : Admits p .range tag [n] s) {r : ItemRef}
    {least greatest v factory : Int} (hr : itemOfNumber n.toNat = some r)
    (hrange : refRange r = ⟨least, greatest, factory⟩) (hv : s.itemValue r = v) :
    Answered p tag .range .done ([n, 1] ++ i16 least ++ i16 greatest ++ i16 v ++ i16 factory) s s
      (requestOf p .range tag [n] (ruleRange [n]) s) := by
  have hrule := ruleRange_item hr s
  rw [hrange, hv] at hrule
  exact answered h hrule rfl

/-- R132, R133: the limits that RANGE gives of a writable item, with its value in set 0. -/
theorem refRange_writable (i : Item) :
    refRange (.writable i) = ⟨(itemRange i).least, (itemRange i).greatest, factoryProfile.get i⟩ := by
  rw [← itemRange_factory]
  rfl

/-- Settles O42, request by request: each admitted request is answered by its rule, whose state is the one it found. -/
theorem readRequests : Obligations.ReadRequests := by
  unfold Obligations.ReadRequests
  intro tag n s
  refine ⟨fun hTable => ?_, fun hLot => ?_, fun hProfile => ?_, fun p hRange => ?_⟩
  · refine ⟨_, running_of_admits hTable _, fun hn => answered_bare hTable (ruleTableRead_noSlot hn s) rfl,
      fun sl hsl => ?_⟩
    have hread := answered hTable (ruleTableRead_slot hsl s) rfl
    refine ⟨fun hempty => ?_, fun e he => ?_⟩
    · rwa [hempty, tableEntry_none hsl] at hread
    · rwa [he, tableEntry_some hsl] at hread
  · refine ⟨_, running_of_admits hLot _, fun hn => answered_bare hLot (ruleLotRead_beyond hn s) rfl, ?_, ?_, ?_, ?_⟩
    · rintro rfl hslot
      exact answered_bare hLot (ruleLotRead_none (by decide) (by simp [lotAt_zero, hslot])) rfl
    · rintro x rfl hslot
      exact answered hLot (ruleLotRead_some (by decide) (by simp [lotAt_zero, hslot])) rfl
    · intro hzero hn hlength
      have hnone : s.carousel.queue[n.toNat - 1]? = none := List.getElem?_eq_none (by omega)
      exact answered_bare hLot (ruleLotRead_none hn (by rw [lotAt_queue hzero, hnone]; rfl)) rfl
    · intro l hzero hn hlot
      exact answered hLot (ruleLotRead_some hn (by rw [lotAt_queue hzero, hlot]; rfl)) rfl
  · refine ⟨_, running_of_admits hProfile _, fun hn => answered_bare hProfile (ruleProfileRead_none hn s) rfl,
      fun i hi => profileRead_item hProfile hi rfl, ?_, ?_, ?_⟩
    · rintro rfl; exact profileRead_item hProfile (r := .sludgeFamily) rfl rfl
    · rintro rfl; exact profileRead_item hProfile (r := .sludgeForm) rfl rfl
    · rintro rfl; exact profileRead_item hProfile (r := .startSet) rfl rfl
  · refine ⟨_, running_of_admits hRange _, fun hn => answered hRange (ruleRange_none hn s) rfl,
      fun i hi => range_item hRange hi (refRange_writable i) rfl, ?_, ?_, ?_⟩
    · rintro rfl; exact range_item hRange (r := .sludgeFamily) rfl rfl rfl
    · rintro rfl; exact range_item hRange (r := .sludgeForm) rfl rfl rfl
    · rintro rfl; exact range_item hRange (r := .startSet) rfl rfl rfl

end Sys2Proof.Machine
end

section
/-! The supply figure and its publication (O49). -/

namespace Sys2Proof.Machine

/-! ## The figure -/

/-- R30: the filter states in which a part of the capacity is kept. -/
theorem keepsCapacity_iff (x : FilterState) :
    x.keepsCapacity = true ↔ (∃ n, x = .backwash n) ∨ ∃ n, x = .settle n := by
  cases x <;> simp [FilterState.keepsCapacity]

/-- R30: the kept capacity is formed from the backwash DP where a part is kept, and from the channel DP elsewhere. -/
theorem keptCapacity_eq {s : State} {keeps : Bool} (h : s.filter.state.keepsCapacity = keeps) :
    keptCapacity s =
      if keeps then filterCapacity s.line (if keeps then s.supply.backwashDp else s.supply.dp) * s.line.bwKeep / 16
      else filterCapacity s.line (if keeps then s.supply.backwashDp else s.supply.dp) := by
  subst h
  unfold keptCapacity
  split <;> rfl

/-- R40: no figure can be formed while a mark or the band is missing. -/
theorem figureBand_eq_none {s : State}
    (h : s.supply.dpMark = false ∨ s.supply.levelMark = false ∨ s.supply.band = none) : figureBand s = none := by
  unfold figureBand
  rcases h with hdp | hlevel | hband
  · simp [hdp]
  · simp [hlevel]
  · simp [hband]

theorem figureBand_eq_band {s : State} (hdp : s.supply.dpMark = true) (hlevel : s.supply.levelMark = true) :
    figureBand s = s.supply.band := by
  simp [figureBand, hdp, hlevel]

/-! ## The publication -/

theorem recompute_of_noBand {s : State} (h : figureBand s = none) : recompute s = s := by
  simp only [recompute, h]

/-- R38: a figure that is no fall and rises by less than S is not published. -/
theorem recompute_of_held {s : State} {b : Band} (h : figureBand s = some b)
    (hfall : s.supply.published ≤ newFigure s b) (hrise : newFigure s b < s.supply.published + s.line.supplyStep) :
    recompute s = s := by
  simp [recompute, h, hfall, hrise]

/-- R38: a fall, and a rise from S on, is published. -/
theorem recompute_of_moved {s : State} {b : Band} (h : figureBand s = some b)
    (hmoved : newFigure s b < s.supply.published ∨ s.supply.published + s.line.supplyStep ≤ newFigure s b) :
    recompute s = publish (newFigure s b) s := by
  simp [recompute, h, hmoved]

/-- R38: the pass of a publication is made on its figure. -/
theorem publish_passed (figure : Nat) (s : State) :
    Passed s.slots (passTable figure s.slots) s (publish figure s) :=
  allotmentPass_passed s.slots { s with supply := { s.supply with published := figure } }

theorem publish_eq (figure : Nat) (s : State) :
    publish figure s = { s with
      supply := { s.supply with published := figure }, slots := (publish figure s).slots,
      drive := (publish figure s).drive, events := (publish figure s).events } :=
  allotmentPass_eq s.slots { s with supply := { s.supply with published := figure } }

/-- Settles O49: each part of the statement's figure is what the model forms of it (R30, R33, R35), and whether it is
published follows from how it moves (R38). -/
theorem publication : Obligations.Publication := by
  unfold Obligations.Publication
  intro s
  refine ⟨fun hmissing => ?_, ?_⟩
  · have hnone := figureBand_eq_none hmissing
    exact ⟨hnone, recompute_of_noBand hnone⟩
  · intro hdp hlevel b hb keeps hkeeps l dp cf kept adjusted figure
    have hband : figureBand s = some b := (figureBand_eq_band hdp hlevel).trans hb
    have hkept : keptCapacity s = kept :=
      keptCapacity_eq (Bool.eq_iff_iff.mpr ((keepsCapacity_iff _).trans hkeeps.symm))
    have hadjusted : bandAdjusted l.bMax kept b = adjusted := by cases b <;> rfl
    have hfigure : newFigure s b = figure := by rw [newFigure, hkept, hadjusted]
    refine ⟨hband, hfigure, ?_⟩
    rw [← hfigure]
    refine ⟨recompute_of_held hband, fun hmoved => ?_⟩
    rw [recompute_of_moved hband hmoved]
    exact ⟨publish_passed _ s, publish_eq _ s⟩

end Sys2Proof.Machine
end

section
/-! The hall's requests about the ring: its survey, its flush, and the number of pockets in service (O30). -/

namespace Sys2Proof.Machine

/-- R96: the conditions of an empty carousel. -/
theorem carouselEmpty_iff (s : State) :
    s.carouselEmpty = true ↔ s.carousel.queue = [] ∧ (∀ src, ¬ s.isCurrent src) ∧ s.carousel.index = .idle := by
  simp [State.carouselEmpty, ← current_none_iff, and_assoc]

/-- R89: a step may take twice Tidx. -/
theorem stepTime_eq (s : State) : stepTime s = 2000 * s.line.tIdx := by
  rw [stepTime, sec_eq]
  omega

/-- R99: a flush is N steps, made as any step, with the sludge flap at REJECT. -/
theorem startFlush_eq (s : State) : startFlush s = { s with
    carousel := { s.carousel with
      survey := .flushing, index := .indexing s.line.inService (2000 * s.line.tIdx) }
    drive := { s.drive with flap := .reject, step := true } } := by
  rw [← stepTime_eq]
  rfl

/-- R96, R130: N is stored in the working copy, and the arbiter arbitrates. -/
theorem storeItem_inService (n : Nat) (s : State) :
    storeItem (.line .inService) n s = arbitrate { s with
      store := { s.store with working := { s.store.working with line := { s.line with inService := n } } } } := rfl

/-! ## The rules -/

theorem ruleRingCleared_unsurveyed {s : State} (h : s.carousel.survey = .unsurveyed) :
    ruleRingCleared s =
      bare .done (arbitrate { s with carousel := { s.carousel with survey := .surveyed } }) := by
  simp only [ruleRingCleared, h]

theorem ruleRingCleared_flushing {s : State} (h : s.carousel.survey = .flushing) :
    ruleRingCleared s = bare .busy s := by
  simp only [ruleRingCleared, h]

theorem ruleRingCleared_surveyed {s : State} (h : s.carousel.survey = .surveyed) :
    ruleRingCleared s = bare .refusedState s := by
  simp only [ruleRingCleared, h]

theorem ruleRingFlush_unsurveyed {s : State} (h : s.carousel.survey = .unsurveyed) (hstop : s.inSafeStop = false) :
    ruleRingFlush s = bare .done (startFlush s) := by
  simp [ruleRingFlush, h, hstop]

theorem ruleRingFlush_flushing {s : State} (h : s.carousel.survey = .flushing) :
    ruleRingFlush s = bare .busy s := by
  simp only [ruleRingFlush, h]

/-- R99: a flush is refused on a surveyed ring, and on an unsurveyed one in safe stop. -/
theorem ruleRingFlush_refused {s : State}
    (h : s.carousel.survey = .surveyed ∨ s.carousel.survey = .unsurveyed ∧ s.inSafeStop = true) :
    ruleRingFlush s = bare .refusedState s := by
  rcases h with hsurveyed | ⟨hunsurveyed, hstop⟩
  · simp only [ruleRingFlush, hsurveyed]
  · simp [ruleRingFlush, hunsurveyed, hstop]

theorem ruleSetPocketLimit_occupied {payload : List Byte} {s : State} (h : s.carouselEmpty ≠ true) :
    ruleSetPocketLimit payload s = bare .busy s := if_neg h

theorem ruleSetPocketLimit_empty {n : Byte} {s : State} (h : s.carouselEmpty = true) :
    ruleSetPocketLimit [n] s =
      ⟨storeItem (.line .inService) (max 4 (min 16 n.toNat) : Nat) s,
        if max 4 (min 16 n.toNat) = n.toNat then .done else .clamped, [byteOf (max 4 (min 16 n.toNat))]⟩ := if_pos h

/-- Settles O30, request by request: each admitted request is answered by its rule, by the survey state for RING_CLEARED and
RING_FLUSH, and by whether the carousel is empty for SET_POCKET_LIMIT. -/
theorem ringRequests : Obligations.RingRequests := by
  unfold Obligations.RingRequests
  refine ⟨fun tag s => ⟨fun hCleared => ?_, fun hFlush => ?_⟩, ?_⟩
  · exact ⟨_, running_of_admits hCleared _,
      fun h => answered_bare hCleared (ruleRingCleared_unsurveyed h) (by simp),
      fun h => answered_bare hCleared (ruleRingCleared_flushing h) rfl,
      fun h => answered_bare hCleared (ruleRingCleared_surveyed h) rfl⟩
  · refine ⟨_, running_of_admits hFlush _, fun h hstop => ?_,
      fun h => answered_bare hFlush (ruleRingFlush_flushing h) rfl,
      fun h => answered_bare hFlush (ruleRingFlush_refused h) rfl⟩
    rw [← startFlush_eq]
    exact answered_bare hFlush (ruleRingFlush_unsurveyed h hstop) rfl
  · intro tag n s hLimit empty v
    refine ⟨_, running_of_admits hLimit _,
      fun h => answered_bare hLimit (ruleSetPocketLimit_occupied (mt (carouselEmpty_iff s).mp h)) rfl, fun h => ?_⟩
    rw [← storeItem_inService]
    exact answered hLimit (ruleSetPocketLimit_empty ((carouselEmpty_iff s).mpr h)) (by simp)

end Sys2Proof.Machine
end

section
/-! The station watch's period timer (O18): what a lapse and a loss write, and when the timer runs out to nothing. -/

namespace Sys2Proof.Machine

/-! ## An event of the table made with a change of the watch -/

/-- R13, R14: the pass reads the table and the supply figure, so a new watch leaves its outcome as it is. -/
theorem tableEvent_setWatch_passed (f : PerSlot (Option Entry) → PerSlot (Option Entry)) (st : Station) (w : Watch)
    (s : State) :
    Passed s.slots (passTable s.supply.published (f s.slots)) s (tableEvent f (setWatch st w s)) :=
  tableEvent_passed f (setWatch st w s)

theorem tableEvent_setWatch_eq (f : PerSlot (Option Entry) → PerSlot (Option Entry)) (st : Station) (w : Watch)
    (s : State) :
    tableEvent f (setWatch st w s) = { s with
      watches := s.watches.set st w, slots := (tableEvent f (setWatch st w s)).slots,
      drive := (tableEvent f (setWatch st w s)).drive, events := (tableEvent f (setWatch st w s)).events } :=
  tableEvent_eq f (setWatch st w s)

theorem watchPeriod_eq (s : State) (st : Station) :
    s.watchPeriod st = 250 * 2 ^ (s.store.working.stations.get st).keepExponent := rfl

/-! ## The branches of the expiry -/

/-- R164: with the timer stopped, in LOST, and LIVE without its watch, no period runs out. -/
theorem periodExpires_of_idle {st : Station} {s : State}
    (h : (s.watches.get st).timer = none ∨ (s.watches.get st).state = .lost ∨
      ((s.watches.get st).state = .live ∧ (s.store.working.stations.get st).watchEnabled = false)) :
    periodExpires st s = s := by
  cases htimer : (s.watches.get st).timer with
  | none => simp only [periodExpires, htimer]
  | some n =>
    rcases h with hnone | hlost | ⟨hlive, hdisabled⟩
    · simp [htimer] at hnone
    · simp only [periodExpires, htimer, hlost]
    · simp [periodExpires, htimer, hlive, hdisabled]

theorem periodExpires_of_live {st : Station} {s : State} (htimer : (s.watches.get st).timer ≠ none)
    (hlive : (s.watches.get st).state = .live) (henabled : (s.store.working.stations.get st).watchEnabled = true) :
    periodExpires st s = lapse st s := by
  obtain ⟨n, hn⟩ := Option.ne_none_iff_exists'.mp htimer
  simp [periodExpires, hn, hlive, henabled]

theorem periodExpires_of_lapsed {st : Station} {s : State} (htimer : (s.watches.get st).timer ≠ none)
    (hlapsed : (s.watches.get st).state = .lapsed) : periodExpires st s = loss st s := by
  obtain ⟨n, hn⟩ := Option.ne_none_iff_exists'.mp htimer
  simp only [periodExpires, hn, hlapsed]

/-- A powered machine takes the expiry as its rule says. -/
theorem exec_keepalivePeriodExpiry {s : State} (hpowered : s.powered = true) (st : Station) :
    exec (.keepalivePeriodExpiry st) s = .next (periodExpires st s) :=
  running_powered (periodExpires st) s hpowered

/-- Settles O18, by the branches of the expiry. In a lapse and in a loss the state `u` is the one that the pass of the
station's entries leaves, with the new watch standing; the arbiter and the events act on it. -/
theorem periodExpiry : Obligations.PeriodExpiry := by
  unfold Obligations.PeriodExpiry
  intro st s hpowered w items lapsedTo
  have harbiter : lapsedTo = arbiterLapse st := rfl
  rw [exec_keepalivePeriodExpiry hpowered, harbiter, ← watchPeriod_eq]
  refine ⟨fun hidle => ?_, fun htimer hlive henabled => ?_, fun htimer hlapsed => ?_⟩
  · rw [periodExpires_of_idle hidle]
  · rw [periodExpires_of_live htimer hlive henabled]
    exact ⟨suspendStation st (setWatch st ⟨.lapsed, w.phase, some (s.watchPeriod st)⟩ s), rfl,
      tableEvent_setWatch_passed _ st _ s, tableEvent_setWatch_eq _ st _ s⟩
  · rw [periodExpires_of_lapsed htimer hlapsed]
    exact ⟨removeStation st (setWatch st ⟨.lost, none, none⟩ s), rfl,
      tableEvent_setWatch_passed _ st _ s, tableEvent_setWatch_eq _ st _ s⟩

end Sys2Proof.Machine
end

section
/-! The law of the table under a pass (O14). -/

namespace Sys2Proof.Machine

/-! ## What a pass grants in all -/

/-- R18: the shares before the leftover litres never exceed the pool. -/
theorem baseShare_sum_mul_le (pool total : Nat) (h : pool < total) (ls : List PassLine) :
    (ls.map (baseShare pool total)).sum * total ≤ pool * wantSum ls := by
  induction ls with
  | nil => simp
  | cons l ls ih =>
    have hline : baseShare pool total l * total ≤ pool * l.want := by
      rw [baseShare, if_neg (Nat.not_le.mpr h)]
      exact Nat.div_mul_le_self _ _
    simp only [wantSum, List.map_cons, List.sum_cons, Nat.add_mul, Nat.mul_add] at ih ⊢
    omega

/-- R17, R18: the shares and the leftover litres together never exceed the pool. -/
theorem baseShare_sum_add_leftover_le (pool : Nat) (ls : List PassLine) :
    (ls.map (baseShare pool (wantSum ls))).sum + leftover pool (wantSum ls) ls ≤ pool := by
  by_cases hmet : wantSum ls ≤ pool
  · have hshare : baseShare pool (wantSum ls) = PassLine.want := by
      funext l
      exact if_pos hmet
    rw [hshare, leftover, if_pos hmet]
    exact hmet
  · have hshort := Nat.not_le.mp hmet
    have hle := Nat.le_of_mul_le_mul_right (baseShare_sum_mul_le pool _ hshort ls) (Nat.zero_lt_of_lt hshort)
    rw [leftover, if_neg hmet]
    omega

theorem outcome_granted_le (pool total left : Nat) (l : PassLine) :
    (l.outcome pool total left).granted ≤
      (if l.taken then l.entry.need else 0) + baseShare pool total l + if 0 < l.want ∧ 0 < left then 1 else 0 := by
  unfold PassLine.outcome
  split <;> simp [Entry.grant, Entry.wait]

/-- R18: pass 2 gives out the needs, the shares, and at most the leftover litres. -/
theorem pass2_granted_sum_le (pool total left : Nat) (ls : List PassLine) :
    ((pass2 pool total left ls).map (fun x => x.2.granted)).sum ≤
      takenSum (fun y => y.2.need) ls + (ls.map (baseShare pool total)).sum + left := by
  induction ls generalizing left with
  | nil => simp [pass2]
  | cons l ls ih =>
    have hline := outcome_granted_le pool total left l
    have hrest := ih (left - if 0 < l.want then 1 else 0)
    simp only [pass2_cons, takenSum, List.map_cons, List.sum_cons, PassLine.key] at hrest ⊢
    split_ifs at hline hrest ⊢ <;> omega

/-- R14, R19: the entries that a pass writes are granted no more than the figure. -/
theorem passResult_granted_sum_le (figure : Nat) (t : PerSlot (Option Entry)) :
    ((passResult figure t).map (fun x => x.2.granted)).sum ≤ figure := by
  have hgiven := pass2_granted_sum_le (passPool figure t) (passWants figure t) (passLeftover figure t)
    (passLines figure t)
  have hpool : passPool figure t + takenSum (fun y => y.2.need) (passLines figure t) = figure :=
    pass1_remainder _ _ _
  have hshares : ((passLines figure t).map (baseShare (passPool figure t) (passWants figure t))).sum +
      passLeftover figure t ≤ passPool figure t := baseShare_sum_add_leftover_le _ _
  rw [passResult_eq_pass2]
  omega

/-- The slots that a pass writes, each once. -/
theorem passResult_slots_nodup (figure : Nat) (t : PerSlot (Option Entry)) :
    ((passResult figure t).map Prod.fst).Nodup := by
  rw [passResult_eq_pass2, pass2_slots]
  exact passLines_slots_nodup figure t

/-- The slot of an entry that a pass writes holds that entry after it. -/
theorem passTable_get_of_mem (figure : Nat) (t : PerSlot (Option Entry)) {x : Slot × Entry}
    (h : x ∈ passResult figure t) : (passTable figure t).get x.1 = some x.2 :=
  get_writeEntries_of_mem _ t x (passResult_slots_nodup figure t) h

/-- R14: a slot whose entry takes part in no pass is left as it is. -/
theorem passTable_get_of_aside (figure : Nat) (t : PerSlot (Option Entry)) {sl : Slot}
    (h : ∀ e, t.get sl = some e → e.state = .suspended) : (passTable figure t).get sl = t.get sl := by
  refine get_writeEntries_of_notMem _ t sl ?_
  rw [passResult_eq_pass2, pass2_slots, List.mem_map]
  rintro ⟨l, hl, rfl⟩
  have hmem : l.key ∈ passOrder t := by
    rw [← passLines_keys figure t]
    exact List.mem_map_of_mem hl
  obtain ⟨hget, hstate⟩ := (mem_passOrder t l.key).mp hmem
  exact hstate (h _ hget)

/-- A sum over all slots is one over the slots outside which it has nothing. -/
theorem sum_allSlots_eq (slots : List Slot) (hn : slots.Nodup) (f : Slot → Nat) (h : ∀ sl ∉ slots, f sl = 0) :
    (allSlots.map f).sum = (slots.map f).sum := by
  rw [← List.sum_toFinset f (by decide : allSlots.Nodup), ← List.sum_toFinset f hn]
  refine (Finset.sum_subset (fun sl _ => List.mem_toFinset.mpr (mem_allSlots sl)) fun sl _ hsl => h sl ?_).symm
  rwa [List.mem_toFinset] at hsl

/-- R14: a slot that a pass does not write holds nothing, or a SUSPENDED entry. -/
theorem suspended_of_notMem_passResult (figure : Nat) (t : PerSlot (Option Entry)) {sl : Slot}
    (h : sl ∉ (passResult figure t).map Prod.fst) {e : Entry} (he : t.get sl = some e) : e.state = .suspended := by
  by_contra hs
  obtain ⟨l, hl, hkey⟩ := exists_line figure t he hs
  refine h ?_
  rw [passResult_eq_pass2, pass2_slots, List.mem_map]
  exact ⟨l, hl, congrArg Prod.fst hkey⟩

theorem grantOf_passTable_of_notMem (figure : Nat) (t : PerSlot (Option Entry))
    (h : ∀ sl e, t.get sl = some e → e.state = .suspended → e.granted = 0) {sl : Slot}
    (hsl : sl ∉ (passResult figure t).map Prod.fst) : grantOf ((passTable figure t).get sl) = 0 := by
  have haside := fun e (he : t.get sl = some e) => suspended_of_notMem_passResult figure t hsl he
  rw [passTable_get_of_aside figure t haside]
  cases hget : t.get sl with
  | none => rfl
  | some e => exact h sl e hget (haside e hget)

/-- R19: the table after a pass is granted what the pass wrote. -/
theorem grantedSum_passTable (figure : Nat) (t : PerSlot (Option Entry))
    (h : ∀ sl e, t.get sl = some e → e.state = .suspended → e.granted = 0) :
    grantedSum (passTable figure t) = ((passResult figure t).map (fun x => x.2.granted)).sum := by
  rw [grantedSum, sum_allSlots_eq _ (passResult_slots_nodup figure t) _
    (fun sl hsl => grantOf_passTable_of_notMem figure t h hsl), List.map_map]
  congr 1
  refine List.map_congr_left fun x hx => ?_
  rw [Function.comp_apply, passTable_get_of_mem figure t hx]
  rfl

/-- R14, R19: a pass never grants more than the figure. -/
theorem grantedSum_passTable_le (figure : Nat) (t : PerSlot (Option Entry))
    (h : ∀ sl e, t.get sl = some e → e.state = .suspended → e.granted = 0) :
    grantedSum (passTable figure t) ≤ figure := by
  rw [grantedSum_passTable figure t h]
  exact passResult_granted_sum_le figure t

/-! ## What a pass makes of an entry -/

/-- R16, R17: an entry's need and want are its asked flow, whatever its floor. -/
theorem need_add_want {e : Entry} (h : e.floor.getD 0 ≤ e.asked) : e.need + e.want = e.asked := by
  unfold Entry.need Entry.want
  cases hfloor : e.floor with
  | none => rfl
  | some f =>
    rw [hfloor] at h
    simp only [Option.getD_some] at h ⊢
    omega

theorem grant_fits {e : Entry} {flow : Nat} (hneed : e.need ≤ flow) (hasked : flow ≤ e.asked) :
    (e.grant flow).grantFits := by
  unfold Entry.grant Entry.grantFits
  split_ifs with h
  · exact h
  · exact ⟨hneed, by simp only; omega⟩

/-- R18: a share, with its leftover litre where one is given out, never exceeds the want. -/
theorem baseShare_add_litre_le (pool total : Nat) (l : PassLine) (ls : List PassLine) (n : Nat) :
    (baseShare pool total l + if 0 < l.want ∧ 0 < leftover pool total ls - n then 1 else 0) ≤ l.want := by
  unfold baseShare leftover
  by_cases hmet : total ≤ pool
  · simp [hmet]
  · rw [if_neg hmet, if_neg hmet]
    split_ifs with hlitre
    · refine (Nat.div_lt_iff_lt_mul (by omega)).mpr ?_
      rw [Nat.mul_comm]
      exact Nat.mul_lt_mul_of_pos_left (Nat.not_le.mp hmet) hlitre.1
    · refine Nat.div_le_of_le_mul ?_
      exact Nat.mul_le_mul_right _ (Nat.le_of_not_le hmet)

/-- R16 to R19: what a pass makes of an entry keeps its values, and ties its granted flow to its state. -/
theorem outcome_spec {l : PassLine} (h : l.entry.floor.getD 0 ≤ l.entry.asked) (pool total : Nat)
    (ls : List PassLine) (n : Nat) :
    let g := l.outcome pool total (leftover pool total ls - n)
    g.asked = l.entry.asked ∧ g.floor = l.entry.floor ∧ g.urgency = l.entry.urgency ∧ g.state ≠ .suspended ∧
      g.grantFits := by
  cases htaken : l.taken with
  | false =>
    rw [outcome_of_waiting htaken]
    exact ⟨rfl, rfl, rfl, nofun, rfl⟩
  | true =>
    have hshare := baseShare_add_litre_le pool total l ls n
    rw [want_of_taken htaken] at hshare
    have hsum := need_add_want h
    rw [outcome_of_taken htaken, want_of_taken htaken]
    refine ⟨rfl, rfl, rfl, ?_, grant_fits (by omega) (by omega)⟩
    unfold Entry.grant
    split_ifs <;> exact nofun

/-- R14, R16 to R19: the entry of a slot that takes part in a pass, after it. -/
theorem passTable_get_of_part (figure : Nat) (t : PerSlot (Option Entry)) {sl : Slot} {e : Entry}
    (he : t.get sl = some e) (hs : e.state ≠ .suspended) (hfloor : e.floor.getD 0 ≤ e.asked) :
    ∃ g, (passTable figure t).get sl = some g ∧ g.asked = e.asked ∧ g.floor = e.floor ∧
      g.urgency = e.urgency ∧ g.state ≠ .suspended ∧ g.grantFits := by
  obtain ⟨l, hl, hkey⟩ := exists_line figure t he hs
  obtain ⟨rfl, rfl⟩ : l.slot = sl ∧ l.entry = e := Prod.mk.inj hkey
  obtain ⟨before, after, hsplit⟩ := List.append_of_mem hl
  exact ⟨_, passTable_get_line figure t hsplit, outcome_spec hfloor _ _ _ _⟩

/-- Settles O14: the sum is that of what pass 2 gives out, and each slot is one that the pass leaves aside or one of its
lines. -/
theorem passKeepsTableLaw : Obligations.PassKeepsTableLaw := by
  unfold Obligations.PassKeepsTableLaw
  intro figure t h
  refine ⟨grantedSum_passTable_le figure t fun sl e he => (h sl e he).2, fun sl => ⟨fun hnone => ?_,
    fun e he => ?_⟩⟩
  · rw [passTable_get_of_aside figure t (by simp [hnone]), hnone]
  · refine ⟨fun hs => ?_, fun hs => ?_⟩
    · rw [passTable_get_of_aside figure t (by simp [he, hs]), he]
    · obtain ⟨⟨-, -, -, hfloor, -⟩, -⟩ := h sl e he
      exact passTable_get_of_part figure t he hs hfloor

end Sys2Proof.Machine
end

section
/-! SUPPORT. What a step can do, said once: every piece of work that a command can do on the state, with what is
known where it is done, and the induction by which every step keeps a law. -/

namespace Sys2Proof.Machine

/-- R169: the slot of a station's circuit is written on that station's port alone, which finds it LIVE. -/
def SlotLive (sl : Slot) (s : State) : Prop :=
  ∀ st c, sl = .station st c → (s.watches.get st).state = .live

/-- The work that the rule of a request, or an event of a block, can do on a state. -/
inductive Work (s : State) : State → Prop
  /-- A refusal, a read, or an event that finds nothing to do. -/
  | none : Work s s
  | dropStation (st : Station) (k : StationKind) : Work s (dropStation st k s)
  | dropHall (k : HallKind) : Work s (dropHall k s)
  | keepAlive (st : Station) (ph : Phase) : Work s (acceptKeepAlive st ph s)
  | ask (sl : Slot) (asked floor urgency : Nat) (hlive : SlotLive sl s) (hceiling : s.ceiling sl ≠ 0)
      (hasked : asked ≠ 0) : Work s (applyAsk sl (clampAsk sl (s.ceiling sl) asked floor urgency) s)
  | endEntry (sl : Slot) (hlive : SlotLive sl s) : Work s (endEntry sl s)
  | storeRequest (st : Station) (m : Material) (estimate urgency : Nat) (hlive : (s.watches.get st).state = .live)
      (hcurrent : s.isCurrentSource (.station st) = false) (hestimate : estimate ≠ 0) :
      Work s (acceptAsk st ⟨.chips m, estimate, urgency, .pending⟩ s)
  | go (st : Station) (r : DischargeRequest) (k w : Nat) (hr : s.request (.station st) = some r)
      (hstate : r.state = .offered k w) : Work s (openGate (.station st) r k none s)
  | lateDelivered (st : Station) : Work s (setLate st .none s)
  | done (st : Station) (r : DischargeRequest) (k g : Nat) (d : Option Nat) (hr : s.request (.station st) = some r)
      (hstate : r.state = .opened k g d) : Work s (finaliseEvent (.station st) r k .done s).1
  | cancelPending (st : Station) (r : DischargeRequest) (hr : s.request (.station st) = some r)
      (hstate : r.state = .pending) : Work s (arbitrate (setPlace (.station st) .none s))
  | cancelOffered (st : Station) (r : DischargeRequest) (k w : Nat) (hr : s.request (.station st) = some r)
      (hstate : r.state = .offered k w) : Work s (chuteFreed (setPlace (.station st) .none s))
  | storeItem (i : Item) (v : Int) (hrange : (itemRange i).least ≤ v ∧ v ≤ (itemRange i).greatest)
      (horder : orderKept i (s.store.working.set i v) = true)
      (hring : i.needsEmptyRing = true → s.carouselEmpty = true) : Work s (storeItem i v s)
  | load (n : SetNumber)
      (hring : ringDiffers (s.store.nonVolatile.profile n).line s.line = true → s.carouselEmpty = true) :
      Work s (loadProfile (s.store.nonVolatile.profile n) s)
  | selectFactory : Work s (selectFactory s)
  | startSave (n : UserSet) : Work s (startSave n s)
  | backwash (hstate : s.filter.state = .filtering) (hallowed : s.backwashAllowed = true) : Work s (startBackwash s)
  | waitBackwash (hstate : s.filter.state = .filtering ∨ ∃ n, s.filter.state = .settle n) :
      Work s (setPendingFlag true s)
  | fleeceIndex (hstate : s.filter.state = .filtering) (hready : s.fleeceReady = true) : Work s (startFleeceIndex s)
  | loadFleece (n : Nat) : Work s (loadFleece n s)
  | hold : Work s (withdrawEvent (setMode (.hold 0) s))
  | modeSet (m : Mode) : Work s (tryIndexStart (setMode m s))
  | modeFed (m : Mode) : Work s (tryIndexStart (feedEvaluation (setMode m s)))
  | survey (hsurvey : s.carousel.survey = .unsurveyed) :
      Work s (arbitrate { s with carousel := { s.carousel with survey := .surveyed } })
  | flush (hsurvey : s.carousel.survey = .unsurveyed) (hstop : s.inSafeStop = false) : Work s (startFlush s)
  | retryStep (n : Nat) (hindex : s.carousel.index = .faulted n) (hstop : s.inSafeStop = false) :
      Work s (startStep n s)
  | clearRetry (x : SlotLot) (hstate : s.crusher.state = .blocked) (hslot : s.crusher.slot = some x) :
      Work s (clearRetry x s)
  | clearReject (x : SlotLot) (hstate : s.crusher.state = .blocked) (hslot : s.crusher.slot = some x) :
      Work s (clearReject x s)
  | emptyBin (b : BinOperand) : Work s (emptyBin b s)
  | addCause : Work s (addCause .hall s)
  | removeCause : Work s (removeCause .hall s)
  | lineRestart : Work s (lineRestart s)
  | conversion (raw : BitVec 12) : Work s (conversionCompletes raw s)
  | arbitration : Work s (arbitrate s)
  | offerLapses (st : Station) (r : DischargeRequest) (k w : Nat) (hcurrent : s.current = some (.station st, r))
      (hstate : r.state = .offered k w) :
      Work s (chuteFreed (postStation st .offerLapsed (setPlace (.station st) .none s)))
  | gateTimesOut (src : Source) (r : DischargeRequest) (k g : Nat) (d : Option Nat)
      (hcurrent : s.current = some (src, r)) (hstate : r.state = .opened k g d) :
      Work s (finaliseLate src r k .timedOut (postGateTimedOut src s))
  | dumpEnds (r : DischargeRequest) (k g : Nat) (d : Option Nat) (hcurrent : s.current = some (.sludge, r))
      (hstate : r.state = .opened k g d) : Work s (finaliseEvent .sludge r k .done s).1
  | indexStart : Work s (tryIndexStart s)
  | sensor (x : IndexSensor) : Work s (setSensor x s)
  | edge (x : IndexSensor) : Work s (indexEdge (setSensor x s))
  | stepFails (n t : Nat) (hindex : s.carousel.index = .indexing n t) : Work s (stepFails s)
  | feed : Work s (feedEvaluation s)
  | runUpCrush (n : Nat) (x : SlotLot) (hstate : s.crusher.state = .runUp n) (hslot : s.crusher.slot = some x)
      (hlot : x.lot.isSludge = false) : Work s (enterCrushing s)
  | runUpAwait (n : Nat) (hstate : s.crusher.state = .runUp n) (hslot : s.crusher.slot = .none) :
      Work s (enterIdleRun s)
  | runUpFeed (n : Nat) (hstate : s.crusher.state = .runUp n) (hslot : s.crusher.slot = .none) :
      Work s (feedEvaluation (enterIdleRun s))
  | purge (n : Nat) (target : ChipFamily) (hstate : s.crusher.state = .purge n target) :
      Work s (feedEvaluation (finishPurge target s))
  | idle (n : Nat) (hstate : s.crusher.state = .idleRun n) : Work s (enterRunDown s)
  | runDownRest (n : Nat) (hstate : s.crusher.state = .runDown n) : Work s (enterStopped s)
  | runDownUp (n : Nat) (x : SlotLot) (hstate : s.crusher.state = .runDown n) (hslot : s.crusher.slot = some x)
      (hlot : x.lot.isSludge = false) : Work s (enterRunUp (enterStopped s))
  | runDownFeed (n : Nat) (hstate : s.crusher.state = .runDown n) (hslot : s.crusher.slot = .none) :
      Work s (feedEvaluation (enterStopped s))
  | reverse (n : Nat) (hstate : s.crusher.state = .reversing n) : Work s (enterRunUp s)
  | feedEnd (x : SlotLot) (hstate : s.crusher.state = .crushing) (hslot : s.crusher.slot = some x) :
      Work s (endOfFeed x s)
  | transitEnd (x : SlotLot) (hstate : s.crusher.state = .passThrough) (hslot : s.crusher.slot = some x) :
      Work s (endOfTransit x s)
  | shaftTurn (n ppr left n' : Nat) (hshaft : s.measure.shaft = .counting n ppr left) :
      Work s (setShaft (.counting n' ppr left) s)
  | shaftWindow (n ppr left : Nat) (hshaft : s.measure.shaft = .counting n ppr left) :
      Work s (windowDone (windowRpm n ppr) (setShaft (.counting 0 s.line.ppr Config.shaftWindow) s))
  | chutePulse : Work s (chuteCounts s)
  | fleeceTurn (l m n : Nat) (hstate : s.filter.state = .indexing l m n) : Work s (meterPulse l m s)
  | fleeceStall (l m n : Nat) (hstate : s.filter.state = .indexing l m n) :
      Work s (endFleeceIndex (postHall .fleeceStall s))
  | backwashTimer (n : Nat) (hstate : s.filter.state = .backwash n) : Work s (backwashEnds s)
  | settleTimer (n : Nat) (hstate : s.filter.state = .settle (some n)) : Work s (setFilterState (.settle .none) s)
  | gapTimer : Work s (gapEnds s)
  | pendingBackwash : Work s (tryPendingBackwash s)
  | sprayToggle (b : Bool) (n : Nat) (hspray : s.drive.spray = .on b n) : Work s (sprayToggles s)
  | periodEnd : Work s (periodEnds s)
  | saveDone (n : UserSet) (content : Profile) (left : Nat) (hsave : s.store.save = .saving n content left) :
      Work s (saveDone s)
  | lapse (st : Station) (hwatch : (s.watches.get st).state = .live) : Work s (lapse st s)
  | loss (st : Station) (hwatch : (s.watches.get st).state = .lapsed) : Work s (loss st s)
  | monitor (m : Monitor) (good : Bool) : Work s (setMonitor m good s)
  | dip (m : Monitor) (good : Bool) : Work s (Machine.addCause .fieldSupply (setMonitor m good s))
  | recovery (m : Monitor) (good : Bool) : Work s (Machine.removeCause .fieldSupply (setMonitor m good s))
  | powerOn (v : Nat) (made : Bool) : Work s (powerUp v made s)
  | powerLoss : Work s (powerDown s)
  | dutyElapsed (sl : Slot) : Work s (dutyElapses sl s)

/-! ## The work of the rules -/

@[simp] theorem bare_state (r : Result) (s : State) : (bare r s).state = s := rfl

theorem ruleStatus_work (p : Port) (s : State) : Work s (ruleStatus p s).state := by
  cases p with
  | station st =>
    simp only [ruleStatus, stationStatusAnswer]
    split
    · exact .none
    · exact .dropStation st _
  | hall =>
    simp only [ruleStatus, hallStatusAnswer]
    split
    · exact .none
    · exact .dropHall _

theorem stationKeepAlive_work (ph : Phase) (st : Station) (s : State) : Work s (stationKeepAlive ph st s).state := by
  simp only [stationKeepAlive, keepAlive]
  split
  · exact .none
  · exact .keepAlive st ph

/-- R169: a request taken on a station port, but for those that a station not LIVE may send, finds its station LIVE. -/
theorem live_of_notLive {st : Station} {k : Kind} {s : State} (h : notLive (.station st) k s = false)
    (hk : k.takenUnlive = false) : (s.watches.get st).state = .live := by
  simpa [notLive, hk] using h

/-- R4: the slot that an operand selects is the port's own. -/
theorem slotLive_of_operand {p : Port} {n : Nat} {sl : Slot} {k : Kind} {s : State}
    (h : circuitOperand p n = .slot sl) (hlive : notLive p k s = false) (hk : k.takenUnlive = false) :
    SlotLive sl s := by
  rintro st c rfl
  have hp : p = .station st := by
    unfold circuitOperand at h
    split at h <;> simp_all
  exact live_of_notLive (hp ▸ hlive) hk

theorem ruleCoolantAsk_work {p : Port} {s : State} (hlive : notLive p .coolantAsk s = false) (payload : List Byte) :
    Work s (ruleCoolantAsk p payload s).state := by
  unfold ruleCoolantAsk
  split
  · exact .none
  · exact .none
  · next sl hsl =>
    split
    · exact .none
    · next hceiling =>
      split
      · exact .none
      · next hasked => exact .ask sl _ _ _ (slotLive_of_operand hsl hlive rfl) hceiling hasked

theorem ruleCoolantEnd_work {p : Port} {s : State} (hlive : notLive p .coolantEnd s = false) (payload : List Byte) :
    Work s (ruleCoolantEnd p payload s).state := by
  unfold ruleCoolantEnd
  split
  · exact .none
  · exact .none
  · next sl hsl =>
    simp only [bare]
    split
    · exact .none
    · exact .endEntry sl (slotLive_of_operand hsl hlive rfl)

theorem stationDischargeAsk_work {st : Station} {s : State} (hlive : (s.watches.get st).state = .live)
    (payload : List Byte) : Work s (stationDischargeAsk st payload s).state := by
  simp only [stationDischargeAsk]
  split
  · exact .none
  · next hcurrent =>
    split
    · exact .none
    · split
      · exact .none
      · next hestimate =>
        split
        · exact .none
        · exact .storeRequest st _ _ _ hlive (Bool.eq_false_iff.mpr hcurrent) hestimate

theorem stationDischargeGo_work (st : Station) (s : State) : Work s (stationDischargeGo st s).state := by
  unfold stationDischargeGo
  split
  · exact .none
  · next r hr =>
    split
    · next hstate => exact .go st r _ _ hr hstate
    · exact .none

theorem stationDischargeDone_work (st : Station) (s : State) : Work s (stationDischargeDone st s).state := by
  unfold stationDischargeDone
  split
  · split
    · exact .none
    · exact .lateDelivered st
  · next r hr =>
    split
    · next hstate => exact .done st r _ _ _ hr hstate
    · exact .none

theorem stationDischargeCancel_work (st : Station) (s : State) : Work s (stationDischargeCancel st s).state := by
  unfold stationDischargeCancel
  split
  · exact .none
  · next r hr =>
    split
    · next hstate => exact .cancelPending st r hr hstate
    · next hstate => exact .cancelOffered st r _ _ hr hstate
    · exact .none

theorem clampTo_mem (r : Range) (h : r.least ≤ r.greatest) (v : Int) :
    r.least ≤ clampTo r v ∧ clampTo r v ≤ r.greatest := by
  unfold clampTo
  omega

/-- Tables 07-1 to 07-5: no range is empty. -/
theorem itemRange_nonempty (i : Item) : (itemRange i).least ≤ (itemRange i).greatest := by
  cases i with
  | line i => cases i <;> decide
  | station st f => cases f <;> simp [itemRange, stationFieldRange]
  | vmax c => simp [itemRange]
  | level k => simp [itemRange]
  | material m f => cases f <;> simp [itemRange, materialFieldRange]

theorem ruleProfileWrite_work (payload : List Byte) (s : State) : Work s (ruleProfileWrite payload s).state := by
  unfold ruleProfileWrite
  split
  · exact .none
  · next i hi =>
    simp only [writeItem]
    split
    · exact .none
    · split
      · exact .none
      · next horder =>
        split
        · exact .none
        · next hring =>
          refine .storeItem i _ (clampTo_mem _ (itemRange_nonempty i) _) (by simpa using horder) fun hneeds => ?_
          simpa [hneeds] using hring
  · exact .none

theorem ruleProfileLoad_work (payload : List Byte) (s : State) : Work s (ruleProfileLoad payload s).state := by
  unfold ruleProfileLoad
  split
  · exact .none
  · next n hn =>
    simp only
    split
    · exact .none
    · split
      · exact .none
      · next hring =>
        rw [bare_state]
        exact .load n fun hdiffers => by simpa [hdiffers] using hring

theorem ruleProfileSave_work (payload : List Byte) (s : State) : Work s (ruleProfileSave payload s).state := by
  unfold ruleProfileSave
  split
  · exact .none
  · split
    · exact .none
    · split
      · exact .selectFactory
      · exact .startSave .set1
      · exact .startSave .set2

theorem ruleBackwashNow_work (s : State) : Work s (ruleBackwashNow s).state := by
  unfold ruleBackwashNow
  split
  · next hstate =>
    split
    · next hallowed => exact .backwash hstate hallowed
    · exact .waitBackwash (.inl hstate)
  · next hstate => exact .waitBackwash (.inr ⟨_, hstate⟩)
  · exact .none
  · exact .none

theorem ruleIndexNow_work (s : State) : Work s (ruleIndexNow s).state := by
  unfold ruleIndexNow
  split
  · next hstate =>
    split
    · next hready => exact .fleeceIndex hstate hready
    · exact .none
  all_goals exact .none

theorem ruleHold_work (s : State) : Work s (ruleHold s).state := by
  unfold ruleHold
  split
  · exact .hold
  · exact .none

theorem ruleRelease_work (payload : List Byte) (s : State) :
    Work s (withReleaseCount (ruleRelease payload s)).state := by
  show Work s (ruleRelease payload s).state
  unfold ruleRelease
  split
  · exact .none
  · extract_lets wanted count s'
    simp only
    split
    · exact .modeFed _
    · exact .modeSet _

theorem ruleResume_work (s : State) : Work s (ruleResume s).state := by
  unfold ruleResume
  split
  · exact .none
  · exact .modeFed .run

theorem ruleRingCleared_work (s : State) : Work s (ruleRingCleared s).state := by
  unfold ruleRingCleared
  split
  · next hsurvey => exact .survey hsurvey
  all_goals exact .none

theorem ruleRingFlush_work (s : State) : Work s (ruleRingFlush s).state := by
  unfold ruleRingFlush
  split
  · next hsurvey =>
    split
    · exact .none
    · next hstop => exact .flush hsurvey (Bool.eq_false_iff.mpr hstop)
  all_goals exact .none

theorem ruleSetPocketLimit_work (payload : List Byte) (s : State) : Work s (ruleSetPocketLimit payload s).state := by
  unfold ruleSetPocketLimit
  split
  · next hempty =>
    exact .storeItem (.line .inService) _ (by simp only [itemRange, lineItemRange]; omega) rfl fun _ => hempty
  · exact .none

theorem ruleCarouselRetry_work (s : State) : Work s (ruleCarouselRetry s).state := by
  unfold ruleCarouselRetry
  split
  · next n hindex =>
    split
    · exact .none
    · next hstop => exact .retryStep n hindex (Bool.eq_false_iff.mpr hstop)
  · exact .none

theorem ruleCrusherClear_work (payload : List Byte) (s : State) : Work s (ruleCrusherClear payload s).state := by
  unfold ruleCrusherClear
  split
  · exact .none
  · next a _ =>
    split
    · next x hstate hslot =>
      cases a with
      | retry => exact .clearRetry x hstate hslot
      | reject => exact .clearReject x hstate hslot
    · exact .none

theorem ruleBinEmptied_work (payload : List Byte) (s : State) : Work s (ruleBinEmptied payload s).state := by
  unfold ruleBinEmptied
  split
  · exact .none
  · exact .emptyBin _

theorem ruleStationWatch_work (payload : List Byte) (s : State) : Work s (ruleStationWatch payload s).state := by
  unfold ruleStationWatch
  split
  · exact .none
  · next st _ =>
    refine .storeItem (.station st .watchEnable) _ ?_ rfl nofun
    simp only [itemRange, stationFieldRange]
    split <;> decide

theorem ruleEventLevel_work (payload : List Byte) (s : State) : Work s (ruleEventLevel payload s).state := by
  unfold ruleEventLevel
  split
  · exact .none
  · next k _ => exact .storeItem (.level k) _ (by simp only [itemRange]; omega) rfl nofun

theorem read_work {a : Answer} {s : State} (h : a.state = s) : Work s a.state := h ▸ .none

theorem ruleTableRead_work (payload : List Byte) (s : State) : Work s (ruleTableRead payload s).state := by
  refine read_work ?_
  unfold ruleTableRead
  split <;> rfl

theorem ruleLotRead_work (payload : List Byte) (s : State) : Work s (ruleLotRead payload s).state := by
  refine read_work ?_
  simp only [ruleLotRead]
  split
  · rfl
  · split <;> rfl

theorem ruleProfileRead_work (payload : List Byte) (s : State) : Work s (ruleProfileRead payload s).state := by
  refine read_work ?_
  unfold ruleProfileRead
  split <;> rfl

/-- A rule of the station ports does its work on each of them. -/
theorem stationRule_work {p : Port} {f : Station → State → Answer} {s : State}
    (hf : ∀ st, p = .station st → Work s (f st s).state) : Work s (stationRule p f s).state := by
  cases p with
  | station st => exact hf st rfl
  | hall => exact .none

/-! ## The work of the events -/

theorem offerLapses_work (s : State) : Work s (offerLapses s) := by
  unfold offerLapses
  split
  · next st r hcurrent =>
    split
    · next hstate => exact .offerLapses st r _ _ hcurrent hstate
    · exact .none
  · exact .none

theorem gateTimesOut_work (s : State) : Work s (gateTimesOut s) := by
  unfold gateTimesOut
  split
  · next src r hcurrent =>
    split
    · next hstate => exact .gateTimesOut src r _ _ _ hcurrent hstate
    · exact .none
  · exact .none

theorem dumpEnds_work (s : State) : Work s (dumpEnds s) := by
  unfold dumpEnds
  split
  · next r hcurrent =>
    split
    · next hstate => exact .dumpEnds r _ _ _ hcurrent hstate
    · exact .none
  · exact .none

theorem sensorMade_work (s : State) : Work s (sensorMade s) := by
  unfold sensorMade
  split
  · exact .none
  · exact .sensor _

theorem sensorConfirmed_work (s : State) : Work s (sensorConfirmed s) := by
  unfold sensorConfirmed
  split
  · exact .none
  · exact .edge _

theorem stepFails_work (s : State) : Work s (stepFails s) := by
  cases hindex : s.carousel.index with
  | indexing n t => exact .stepFails n t hindex
  | idle | suspended _ _ | faulted _ =>
    have hnone : stepFails s = s := by simp only [stepFails, hindex]
    rw [hnone]
    exact .none

theorem runUpEnds_work (s : State) : Work s (runUpEnds s) := by
  unfold runUpEnds
  split
  · next n hstate =>
    split
    · next x hslot =>
      split
      · exact .none
      · next hlot => exact .runUpCrush n x hstate hslot (Bool.eq_false_iff.mpr hlot)
    · next hslot =>
      split
      · exact .runUpAwait n hstate hslot
      · exact .runUpFeed n hstate hslot
  · exact .none

theorem purgeEnds_work (s : State) : Work s (purgeEnds s) := by
  unfold purgeEnds
  split
  · next n target hstate => exact .purge n target hstate
  · exact .none

theorem idleEnds_work (s : State) : Work s (idleEnds s) := by
  unfold idleEnds
  split
  · next n hstate => exact .idle n hstate
  · exact .none

theorem runDownEnds_work (s : State) : Work s (runDownEnds s) := by
  unfold runDownEnds
  split
  · next n hstate =>
    simp only
    split
    · next x hslot =>
      split
      · exact .runDownRest n hstate
      · next hlot => exact .runDownUp n x hstate hslot (Bool.eq_false_iff.mpr hlot)
    · next hslot => exact .runDownFeed n hstate hslot
  · exact .none

theorem reverseEnds_work (s : State) : Work s (reverseEnds s) := by
  unfold reverseEnds
  split
  · next n hstate => exact .reverse n hstate
  · exact .none

theorem feedEnds_work (s : State) : Work s (feedEnds s) := by
  unfold feedEnds
  split
  · next x hstate hslot => exact .feedEnd x hstate hslot
  · exact .none

theorem transitEnds_work (s : State) : Work s (transitEnds s) := by
  unfold transitEnds
  split
  · next x hstate hslot => exact .transitEnd x hstate hslot
  · exact .none

theorem shaftPulse_work (s : State) : Work s (shaftPulse s) := by
  unfold shaftPulse
  split
  · next hshaft => exact .shaftTurn _ _ _ _ hshaft
  · exact .none

theorem windowEnds_work (s : State) : Work s (windowEnds s) := by
  unfold windowEnds
  split
  · next hshaft => exact .shaftWindow _ _ _ hshaft
  · exact .none

theorem fleecePulse_work (s : State) : Work s (fleecePulse s) := by
  unfold fleecePulse
  split
  · next hstate => exact .fleeceTurn _ _ _ hstate
  · exact .none

theorem fleeceStalls_work (s : State) : Work s (fleeceStalls s) := by
  unfold fleeceStalls
  split
  · next hstate => exact .fleeceStall _ _ _ hstate
  · exact .none

theorem backwashEnds_work (s : State) : Work s (backwashEnds s) := by
  cases hstate : s.filter.state with
  | backwash n => exact .backwashTimer n hstate
  | filtering | settle _ | indexing _ _ _ =>
    have hnone : backwashEnds s = s := by simp only [backwashEnds, hstate]
    rw [hnone]
    exact .none

theorem settleEnds_work (s : State) : Work s (settleEnds s) := by
  unfold settleEnds
  split
  · next n hstate => exact .settleTimer n hstate
  · exact .none

theorem sprayToggles_work (s : State) : Work s (sprayToggles s) := by
  cases hspray : s.drive.spray with
  | on b n => exact .sprayToggle b n hspray
  | off =>
    have hnone : sprayToggles s = s := by simp only [sprayToggles, hspray]
    rw [hnone]
    exact .none

theorem saveDone_work (s : State) : Work s (saveDone s) := by
  cases hsave : s.store.save with
  | saving n content left => exact .saveDone n content left hsave
  | idle =>
    have hnone : saveDone s = s := by simp only [saveDone, hsave]
    rw [hnone]
    exact .none

theorem periodExpires_work (st : Station) (s : State) : Work s (periodExpires st s) := by
  unfold periodExpires
  split
  · exact .none
  · next hwatch =>
    split
    · exact .lapse st hwatch
    · exact .none
  · next hwatch => exact .loss st hwatch
  · exact .none

theorem supplyAt_work (v : Nat) (s : State) : Work s (supplyAt v s) := by
  unfold supplyAt
  split
  · exact .monitor _ _
  · exact .monitor _ _
  · exact .none

theorem dipEnds_work (s : State) : Work s (dipEnds s) := by
  unfold dipEnds
  split
  · exact .dip _ _
  · exact .none

theorem recoveryEnds_work (s : State) : Work s (recoveryEnds s) := by
  unfold recoveryEnds
  split
  · exact .recovery _ _
  · exact .none

/-! ## What a command can do -/

theorem discardFrame_butPorts (p : Port) (s : State) : ButPorts s (discardFrame p s) := rfl

theorem acceptFrame_butPorts (p : Port) (r : LinkRequest) (s : State) : ButPorts s (acceptFrame p r s) := by
  simp only [acceptFrame]
  split <;> rfl

theorem frameArrives_butPorts (p : Port) (frame : List Byte) (s : State) : ButPorts s (frameArrives p frame s) := by
  unfold frameArrives
  split
  · exact discardFrame_butPorts p s
  · exact acceptFrame_butPorts p _ s

theorem wholeFrame_butPorts (p : Port) (frame : List Byte) (s : State) : ButPorts s (wholeFrame p frame s) := by
  unfold wholeFrame
  split
  · exact frameArrives_butPorts p frame s
  · rfl

theorem goodFrame_butPorts (p : Port) (r : LinkRequest) (s : State) : ButPorts s (goodFrame p r s) := by
  unfold goodFrame
  split
  · exact acceptFrame_butPorts p r s
  · rfl

theorem byteArrives_butPorts (p : Port) (b : Byte) (s : State) : ButPorts s (byteArrives p b s) := by
  simp only [byteArrives, takeByte]
  repeat' split
  all_goals first | exact frameArrives_butPorts p _ s | rfl

theorem gapRunsOut_butPorts (p : Port) (s : State) : ButPorts s (gapRunsOut p s) := by
  unfold gapRunsOut
  split <;> rfl

theorem endReply_butPorts (p : Port) (s : State) : ButPorts s (endReply p s) := by
  simp only [endReply]
  split <;> rfl

theorem serve_butPorts (p : Port) (r : LinkRequest) (rx : RxState) (f : State → Answer) (s : State) :
    ButPorts (f s).state (serve p r rx f s) := rfl

/-- R179: a request leaves what its rule leaves, or only its port changes. -/
theorem takeRequest_butPorts (p : Port) (r : LinkRequest) (f : State → Answer) (s : State) :
    ButPorts (f s).state (takeRequest p r f s) ∨ ButPorts s (takeRequest p r f s) := by
  unfold takeRequest
  split
  · exact .inl (serve_butPorts p r _ f s)
  · split
    · split
      · exact .inr (acceptFrame_butPorts p r s)
      · exact .inl (serve_butPorts p r _ f s)
    · exact .inr rfl

/-- R169, R180: a request leaves what its owning rule leaves where it passes the tests, and else only its port
changes. -/
theorem requestOf_butPorts (p : Port) (k : Kind) (tag : Byte) (payload : List Byte) (rule : State → Answer)
    (s : State) :
    (k.takenOn p = true ∧ notLive p k s = false ∧ ButPorts (rule s).state (requestOf p k tag payload rule s)) ∨
      ButPorts s (requestOf p k tag payload rule s) := by
  rcases takeRequest_butPorts p ⟨tag, kindCode k, payload⟩ (checked p k payload rule) s with h | h
  · by_cases hkind : k.takenOn p = true
    · by_cases hlength : payload.length = (kindRow k).length
      · cases hlive : notLive p k s
        · have hrule : checked p k payload rule s = rule s := by simp [checked, hkind, hlength, hlive]
          rw [hrule] at h
          exact .inl ⟨hkind, rfl, h⟩
        · have hbare : checked p k payload rule s = bare .notLive s := by simp [checked, hkind, hlength, hlive]
          rw [hbare] at h
          exact .inr h
      · have hbare : checked p k payload rule s = bare .refusedRange s := by simp [checked, hkind, hlength]
        rw [hbare] at h
        exact .inr h
    · have hbare : checked p k payload rule s = bare .refusedKind s := by simp [checked, hkind]
      rw [hbare] at h
      exact .inr h
  · exact .inr h

theorem absentKind_butPorts (p : Port) (r : LinkRequest) (s : State) : ButPorts s (absentKind p r s) := by
  unfold absentKind
  split
  · rcases takeRequest_butPorts p r (bare .refusedKind) s with h | h <;> exact h
  · exact goodFrame_butPorts p r s

/-- What a command leaves: a piece of work, and the link ports as they may be. -/
def CommandWork (s t : State) : Prop := ∃ u, Work s u ∧ ButPorts u t

theorem Work.command {s t : State} (h : Work s t) : CommandWork s t := ⟨t, h, rfl⟩

theorem ButPorts.command {s t : State} (h : ButPorts s t) : CommandWork s t := ⟨s, .none, h⟩

theorem requestOf_command {p : Port} {k : Kind} {tag : Byte} {payload : List Byte} {rule : State → Answer} {s : State}
    (h : notLive p k s = false → Work s (rule s).state) : CommandWork s (requestOf p k tag payload rule s) := by
  rcases requestOf_butPorts p k tag payload rule s with ⟨-, hlive, ht⟩ | ht
  · exact ⟨_, h hlive, ht⟩
  · exact ht.command

theorem CommandWork.running {f : State → State} {s t : State} (hf : CommandWork s (f s)) (h : running f s = .next t) :
    CommandWork s t := by
  cases hp : s.powered with
  | true =>
    rw [running_powered f s hp] at h
    exact Host.Outcome.next.inj h ▸ hf
  | false =>
    rw [running_unpowered f s hp] at h
    exact Host.Outcome.next.inj h ▸ Work.none.command

theorem exec_work {i : Instr} {s t : State} (h : exec i s = .next t) : CommandWork s t := by
  cases i with
  | status p tag payload => exact (requestOf_command fun _ => ruleStatus_work p s).running h
  | range p tag payload => exact (requestOf_command fun _ => Work.none).running h
  | keepA p tag payload =>
    exact (requestOf_command fun _ => stationRule_work fun st _ => stationKeepAlive_work .a st s).running h
  | keepB p tag payload =>
    exact (requestOf_command fun _ => stationRule_work fun st _ => stationKeepAlive_work .b st s).running h
  | coolantAsk p tag payload => exact (requestOf_command fun hlive => ruleCoolantAsk_work hlive payload).running h
  | coolantEnd p tag payload => exact (requestOf_command fun hlive => ruleCoolantEnd_work hlive payload).running h
  | dischargeAsk p tag payload =>
    exact (requestOf_command fun hlive => stationRule_work fun st hst =>
      stationDischargeAsk_work (live_of_notLive (hst ▸ hlive) rfl) payload).running h
  | dischargeGo p tag payload =>
    exact (requestOf_command fun _ => stationRule_work fun st _ => stationDischargeGo_work st s).running h
  | dischargeDone p tag payload =>
    exact (requestOf_command fun _ => stationRule_work fun st _ => stationDischargeDone_work st s).running h
  | dischargeCancel p tag payload =>
    exact (requestOf_command fun _ => stationRule_work fun st _ => stationDischargeCancel_work st s).running h
  | tableRead p tag payload => exact (requestOf_command fun _ => ruleTableRead_work payload s).running h
  | lotRead p tag payload => exact (requestOf_command fun _ => ruleLotRead_work payload s).running h
  | profileRead p tag payload => exact (requestOf_command fun _ => ruleProfileRead_work payload s).running h
  | profileWrite p tag payload => exact (requestOf_command fun _ => ruleProfileWrite_work payload s).running h
  | profileLoad p tag payload => exact (requestOf_command fun _ => ruleProfileLoad_work payload s).running h
  | profileSave p tag payload => exact (requestOf_command fun _ => ruleProfileSave_work payload s).running h
  | backwashNow p tag payload => exact (requestOf_command fun _ => ruleBackwashNow_work s).running h
  | indexNow p tag payload => exact (requestOf_command fun _ => ruleIndexNow_work s).running h
  | fleeceLoaded p tag payload => exact (requestOf_command fun _ => Work.loadFleece _).running h
  | hold p tag payload => exact (requestOf_command fun _ => ruleHold_work s).running h
  | release p tag payload =>
    exact (requestOf_command (rule := fun s => withReleaseCount (ruleRelease payload s))
      fun _ => ruleRelease_work payload s).running h
  | resume p tag payload => exact (requestOf_command fun _ => ruleResume_work s).running h
  | ringCleared p tag payload => exact (requestOf_command fun _ => ruleRingCleared_work s).running h
  | ringFlush p tag payload => exact (requestOf_command fun _ => ruleRingFlush_work s).running h
  | setPocketLimit p tag payload => exact (requestOf_command fun _ => ruleSetPocketLimit_work payload s).running h
  | carouselRetry p tag payload => exact (requestOf_command fun _ => ruleCarouselRetry_work s).running h
  | crusherClear p tag payload => exact (requestOf_command fun _ => ruleCrusherClear_work payload s).running h
  | binEmptied p tag payload => exact (requestOf_command fun _ => ruleBinEmptied_work payload s).running h
  | stationWatch p tag payload => exact (requestOf_command fun _ => ruleStationWatch_work payload s).running h
  | eventLevel p tag payload => exact (requestOf_command fun _ => ruleEventLevel_work payload s).running h
  | lineStop p tag payload => exact (requestOf_command fun _ => Work.addCause).running h
  | lineResume p tag payload => exact (requestOf_command fun _ => Work.removeCause).running h
  | lineRestart p tag payload => exact (requestOf_command fun _ => Work.lineRestart).running h
  | frameDiscarded p frame => exact (wholeFrame_butPorts p frame s).command.running h
  | frameGapTimeout p => exact (gapRunsOut_butPorts p s).command.running h
  | owedBusyFrame p tag kind payload => exact (goodFrame_butPorts p _ s).command.running h
  | receivedByte p b => exact (byteArrives_butPorts p b s).command.running h
  | absentKindRequest p tag code payload => exact (absentKind_butPorts p _ s).command.running h
  | replyTransmissionEnd p => exact (endReply_butPorts p s).command.running h
  | conversionCompletion raw => exact (Work.conversion raw).command.running h
  | arbitration => exact Work.arbitration.command.running h
  | offerWindowExpiry => exact (offerLapses_work s).command.running h
  | gateWindowExpiry => exact (gateTimesOut_work s).command.running h
  | dumpTimerExpiry => exact (dumpEnds_work s).command.running h
  | indexStart => exact (Work.indexStart).command.running h
  | indexSensorMade => exact (sensorMade_work s).command.running h
  | indexSensorClear => exact (Work.sensor _).command.running h
  | indexEdge => exact (sensorConfirmed_work s).command.running h
  | stepTimerExpiry => exact (stepFails_work s).command.running h
  | feedEvaluation => exact (Work.feed).command.running h
  | runUpExpiry => exact (runUpEnds_work s).command.running h
  | purgeExpiry => exact (purgeEnds_work s).command.running h
  | idleExpiry => exact (idleEnds_work s).command.running h
  | runDownExpiry => exact (runDownEnds_work s).command.running h
  | reverseExpiry => exact (reverseEnds_work s).command.running h
  | endOfFeed => exact (feedEnds_work s).command.running h
  | endOfTransit => exact (transitEnds_work s).command.running h
  | shaftPulse => exact (shaftPulse_work s).command.running h
  | shaftWindowEnd => exact (windowEnds_work s).command.running h
  | chutePulse => exact (Work.chutePulse).command.running h
  | fleeceMeterPulse => exact (fleecePulse_work s).command.running h
  | fleeceStallExpiry => exact (fleeceStalls_work s).command.running h
  | backwashTimerExpiry => exact (backwashEnds_work s).command.running h
  | settleTimerExpiry => exact (settleEnds_work s).command.running h
  | gapTimerExpiry => exact (Work.gapTimer).command.running h
  | pendingBackwashStart => exact (Work.pendingBackwash).command.running h
  | sprayToggleExpiry => exact (sprayToggles_work s).command.running h
  | periodEnd => exact (Work.periodEnd).command.running h
  | saveTimerExpiry => exact (saveDone_work s).command.running h
  | keepalivePeriodExpiry st => exact (periodExpires_work st s).command.running h
  | fieldSupplyFall v => exact (supplyAt_work v s).command.running h
  | fieldSupplyReturn v => exact (supplyAt_work v s).command.running h
  | dipTimerExpiry => exact (dipEnds_work s).command.running h
  | recoveryTimerExpiry => exact (recoveryEnds_work s).command.running h
  | powerOn v made => exact Host.Outcome.next.inj h ▸ (Work.powerOn v made).command
  | logicSupplyLoss => exact Work.powerLoss.command.running h
  | appliedDutyElapsed sl => exact (Work.dutyElapsed sl).command.running h

/-! ## The induction over a step -/

/-- The machine with other ports, another queue and another count of choices: what no law of the device reads. -/
def State.withLink (s : State) (x : PerPort LinkPort) (q : List Instr) (n : Nat) : State :=
  { s with ports := x, pending := q, ties := n }

/-- What every piece of work and a tick leave of a state with the property `P` is what every step leaves of it, where
neither that nor `P` depends on the links. -/
theorem step_keeps {P R : State → Prop} (hPlink : ∀ s x q n, P s → P (s.withLink x q n))
    (hRlink : ∀ s x q n, R s → R (s.withLink x q n)) (hwork : ∀ s t, P s → Work s t → R t)
    (htick : ∀ s, P s → R (tick s)) {s t : State} (hs : P s) (h : step s = .next t) : R t := by
  have hexec : ∀ i q n, exec i { s with pending := q, ties := n } = .next t → R t := by
    intro i q n hi
    obtain ⟨u, hu, ht⟩ := exec_work hi
    have hR := hwork _ u (hPlink s s.ports q n hs) hu
    exact ht ▸ hRlink u t.ports u.pending u.ties hR
  unfold step at h
  split at h
  · exact hexec _ _ s.ties h
  · unfold idleStep at h
    split at h
    · exact Host.Outcome.next.inj h ▸ hwork s s hs .none
    · exact Host.Outcome.next.inj h ▸ htick s hs
    · exact hexec _ s.pending _ h

end Sys2Proof.Machine
end

section
/-! SUPPORT. The requests of the arbiter: what the current discharge and the chosen candidate are, and that no event
but a request stored makes a request where there was none. -/

namespace Sys2Proof.Machine

theorem request_setPlace (src a : Source) (r : Option DischargeRequest) (s : State) :
    (setPlace src r s).request a = if a = src then r else s.request a := PerSource.get_set _ _ _ _

theorem request_of_arbiter {s t : State} (h : t.arbiter = s.arbiter) (src : Source) :
    t.request src = s.request src := by
  rw [State.request, State.request, h]

/-- R60: the current discharge is a request that is OFFERED or OPEN. -/
theorem current_some {s : State} {src : Source} {r : DischargeRequest} (h : s.current = some (src, r)) :
    s.request src = some r ∧ r.isCurrent = true := by
  obtain ⟨a, -, ha⟩ := List.exists_of_findSome?_eq_some h
  unfold currentAt at ha
  split at ha
  · next r' hr' =>
    split at ha
    · next hcurrent =>
      cases ha
      exact ⟨hr', hcurrent⟩
    · cases ha
  · cases ha

/-- R66: the candidate chosen is a PENDING request. -/
theorem topCandidate_some {s : State} {src : Source} {r : DischargeRequest} (h : s.topCandidate = some (src, r)) :
    s.request src = some r ∧ r.state = .pending := by
  have hfold : ∀ (l : List Source) (x : Source × DischargeRequest), l.foldr (topOf s) none = some x →
      s.request x.1 = some x.2 ∧ x.2.state = .pending := by
    intro l
    induction l with
    | nil => exact nofun
    | cons a l ih =>
      intro x hx
      rw [List.foldr_cons, topOf] at hx
      split at hx
      · exact ih x hx
      · next q hq =>
        split at hx
        · next hpending =>
          split at hx
          · cases hx
            exact ⟨hq, hpending⟩
          · next b hb =>
            split at hx
            · cases hx
              exact ⟨hq, hpending⟩
            · cases hx
              exact ih _ hb
        · exact ih x hx
  exact hfold allSources (src, r) h

/-- R65, R66: what an arbitration can do: nothing, or the choice of a PENDING request whose span is free. -/
theorem arbitrate_cases (s : State) :
    arbitrate s = s ∨ ∃ src r, s.mayArbitrate = true ∧ s.request src = some r ∧ r.state = .pending ∧
      requestSpan r.estimate s.line.mPocket ≤ s.freePockets ∧
      arbitrate s = choose src r (requestSpan r.estimate s.line.mPocket) s := by
  unfold arbitrate
  split
  · next hmay =>
    split
    · exact .inl rfl
    · next src r htop =>
      obtain ⟨hrequest, hpending⟩ := topCandidate_some htop
      simp only
      split
      · next hfree => exact .inr ⟨src, r, hmay, hrequest, hpending, hfree, rfl⟩
      · exact .inl rfl
  · exact .inl rfl

/-- R67, R76: the state of the request that an arbitration chooses. -/
def chosenState (src : Source) (k : Nat) (l : LineParams) : DischargeState :=
  match src with
  | .station _ => .offered k (sec l.tOffer)
  | .sludge => .opened k (sec l.tGate) (some (sec l.tDump))

/-- R66, R67, R76: the request chosen is OFFERED or OPEN after it, and no other is changed. -/
theorem request_choose (src a : Source) (r : DischargeRequest) (k : Nat) (s : State) :
    (choose src r k s).request a =
      if a = src then some { r with state := chosenState src k s.line } else s.request a := by
  cases src with
  | station st => exact request_setPlace (.station st) a _ s
  | sludge => exact request_setPlace .sludge a _ s

theorem request_openGate (src a : Source) (r : DischargeRequest) (k : Nat) (dump : Option Nat) (s : State) :
    (openGate src r k dump s).request a =
      if a = src then some { r with state := .opened k (sec s.line.tGate) dump } else s.request a := by
  cases src with
  | station st => exact request_setPlace (.station st) a _ s
  | sludge => exact request_setPlace .sludge a _ s

/-! ## No request out of nothing -/

/-- No source has a request that had none. -/
def NoNewRequest (s t : State) : Prop := ∀ src, s.request src = none → t.request src = none

theorem NoNewRequest.of_arbiter {s t : State} (h : t.arbiter = s.arbiter) : NoNewRequest s t :=
  fun src hs => (request_of_arbiter h src).trans hs

theorem NoNewRequest.trans {s t u : State} (h : NoNewRequest s t) (h' : NoNewRequest t u) : NoNewRequest s u :=
  fun src hs => h' src (h src hs)

/-- A request may be changed where there was one, and removed anywhere. -/
theorem NoNewRequest.setPlace {s : State} {src : Source} {r : Option DischargeRequest}
    (h : r = none ∨ s.request src ≠ none) : NoNewRequest s (setPlace src r s) := by
  intro a ha
  rw [request_setPlace]
  split
  · next heq =>
    subst heq
    exact h.resolve_right (not_not_intro ha)
  · exact ha

theorem arbitrate_noNew (s : State) : NoNewRequest s (arbitrate s) := by
  rcases arbitrate_cases s with h | ⟨src, r, -, hrequest, -, -, h⟩
  · exact .of_arbiter (by rw [h])
  · intro a ha
    rw [h, request_choose]
    split
    · next heq => simp [heq, hrequest] at ha
    · exact ha

theorem chuteFreed_noNew (s : State) : NoNewRequest s (chuteFreed s) :=
  NoNewRequest.trans (.of_arbiter (by simp)) (arbitrate_noNew (tryIndexStart s))

theorem request_withdrawOffer (src a : Source) (r : DischargeRequest) (s : State) :
    (withdrawOffer src r s).request a = if a = src then some { r with state := .pending } else s.request a := by
  cases src with
  | station st => exact request_setPlace (.station st) a _ s
  | sludge => exact request_setPlace .sludge a _ s

theorem withdrawOffer_noNew {src : Source} {r : DischargeRequest} {s : State} (h : s.request src = some r) :
    NoNewRequest s (withdrawOffer src r s) := by
  intro a ha
  rw [request_withdrawOffer]
  split
  · next heq => simp [heq, h] at ha
  · exact ha

theorem afterRequest_noNew (src : Source) (urgency : Nat) (s : State) :
    NoNewRequest s (afterRequest src urgency s) := by
  unfold afterRequest
  split
  · next c hc =>
    split
    · exact (withdrawOffer_noNew (current_some hc).1).trans (chuteFreed_noNew _)
    · exact arbitrate_noNew s
  · exact arbitrate_noNew s

theorem request_closeDischarge (src a : Source) (s : State) :
    (closeDischarge src s).request a = if a = src then none else s.request a := by
  cases src with
  | station st => exact request_setPlace (.station st) a _ _
  | sludge => exact request_setPlace .sludge a _ _

/-- R75: a finalisation removes the request that it ends, and no other. -/
theorem request_finalise (src a : Source) (r : DischargeRequest) (k : Nat) (c : EndCause) (s : State) :
    (finalise src r k c s).1.request a = if a = src then none else s.request a := by
  simp only [finalise]
  split
  · exact request_closeDischarge src a s
  · exact request_closeDischarge src a _

theorem finalise_noNew (src : Source) (r : DischargeRequest) (k : Nat) (c : EndCause) (s : State) :
    NoNewRequest s (finalise src r k c s).1 := by
  intro a ha
  rw [request_finalise, ha, ite_self]

theorem afterFinalise_noNew (src : Source) (wasEmpty : Bool) (s : State) :
    NoNewRequest s (afterFinalise src wasEmpty s) :=
  NoNewRequest.trans (.of_arbiter (by simp)) (chuteFreed_noNew _)

theorem finaliseEvent_noNew (src : Source) (r : DischargeRequest) (k : Nat) (c : EndCause) (s : State) :
    NoNewRequest s (finaliseEvent src r k c s).1 :=
  (finalise_noNew src r k c s).trans (afterFinalise_noNew src _ _)

@[simp] theorem request_keepLate (src a : Source) (o : Outcome) (s : State) :
    (keepLate src o s).request a = s.request a := by
  cases src <;> rfl

theorem finaliseLate_noNew (src : Source) (r : DischargeRequest) (k : Nat) (c : EndCause) (s : State) :
    NoNewRequest s (finaliseLate src r k c s) :=
  (finaliseEvent_noNew src r k c s).trans fun a ha => by
    rwa [finaliseLate, request_keepLate]

/-- R75: no request of the source whose discharge has been finalised. -/
theorem request_finaliseLate_self (src : Source) (r : DischargeRequest) (k : Nat) (c : EndCause) (s : State) :
    (finaliseLate src r k c s).request src = none := by
  rw [finaliseLate, request_keepLate]
  exact afterFinalise_noNew src _ _ src (by rw [request_finalise, if_pos rfl])

/-- R77: a lapse removes the station's request, and makes none. -/
theorem arbiterLapse_noNew (st : Station) (s : State) : NoNewRequest s (arbiterLapse st s) := by
  unfold arbiterLapse
  split
  · exact arbitrate_noNew s
  · split
    · exact (NoNewRequest.setPlace (.inl rfl)).trans (arbitrate_noNew _)
    · exact (NoNewRequest.setPlace (.inl rfl)).trans (chuteFreed_noNew _)
    · exact finaliseLate_noNew _ _ _ _ s

theorem request_arbiterLapse_self (st : Station) (s : State) : (arbiterLapse st s).request (.station st) = none := by
  have hremoved : (setPlace (.station st) none s).request (.station st) = none := by rw [request_setPlace, if_pos rfl]
  unfold arbiterLapse
  split
  · next hnone => exact arbitrate_noNew s _ hnone
  · split
    · exact arbitrate_noNew _ _ hremoved
    · exact chuteFreed_noNew _ _ hremoved
    · exact request_finaliseLate_self _ _ _ _ s

theorem arbiterStopEntry_noNew (s : State) : NoNewRequest s (arbiterStopEntry s) := by
  unfold arbiterStopEntry
  split
  · exact .of_arbiter rfl
  · next src r hcurrent =>
    split
    · exact .of_arbiter rfl
    · exact withdrawOffer_noNew (current_some hcurrent).1
    · exact finaliseLate_noNew _ _ _ _ s

/-- R79: no request outlives a line restart. -/
@[simp] theorem request_arbiterRestart (src : Source) (s : State) : (arbiterRestart s).request src = none :=
  PerSource.get_same none src

end Sys2Proof.Machine
end

section
/-! The laws of the figure, of the table and of the stations that are not LIVE (O56). -/

namespace Sys2Proof.Machine

/-! ## The table under a pass -/

/-- R2, R10: what an entry must be before a pass: its values in their ranges, and no flow where it is SUSPENDED. -/
def TableValues (t : PerSlot (Option Entry)) : Prop :=
  ∀ sl e, t.get sl = some e → e.valuesFit sl ∧ (e.state = .suspended → e.granted = 0)

theorem TableLaw.values {s : State} (h : TableLaw s) : TableValues s.slots := by
  intro sl e he
  obtain ⟨hvalues, hgrant⟩ := h.1 sl e he
  refine ⟨hvalues, fun hs => ?_⟩
  simpa [Entry.grantFits, hs] using hgrant

theorem valuesFit_of_eq {sl : Slot} {e g : Entry} (h : e.valuesFit sl) (ha : g.asked = e.asked)
    (hf : g.floor = e.floor) (hu : g.urgency = e.urgency) : g.valuesFit sl := by
  unfold Entry.valuesFit
  rw [ha, hf, hu]
  exact h

/-- R2, R3, R19: the law of the table holds after a pass on a figure. -/
theorem passTable_law {figure : Nat} {t : PerSlot (Option Entry)} (h : TableValues t) :
    (∀ sl e, (passTable figure t).get sl = some e → e.valuesFit sl ∧ e.grantFits) ∧
      grantedSum (passTable figure t) ≤ figure := by
  obtain ⟨hsum, hslots⟩ := passKeepsTableLaw figure t h
  refine ⟨fun sl g hg => ?_, hsum⟩
  obtain ⟨hnone, hsome⟩ := hslots sl
  cases he : t.get sl with
  | none => simp [hnone he] at hg
  | some e =>
    obtain ⟨hvalues, haside⟩ := h sl e he
    obtain ⟨hsuspended, hpart⟩ := hsome e he
    by_cases hs : e.state = .suspended
    · obtain rfl := Option.some.inj ((hsuspended hs).symm.trans hg)
      refine ⟨hvalues, ?_⟩
      simpa [Entry.grantFits, hs] using haside hs
    · obtain ⟨g', hg', ha, hf, hu, -, hfits⟩ := hpart hs
      obtain rfl := Option.some.inj (hg'.symm.trans hg)
      exact ⟨valuesFit_of_eq hvalues ha hf hu, hfits⟩

/-- R10: the entries of the stations that are not LIVE. -/
def UnliveEntries (w : PerStation Watch) (t : PerSlot (Option Entry)) : Prop :=
  ∀ st, (w.get st).state ≠ .live → ∀ c e, t.get (.station st c) = some e → e.state = .suspended ∧ e.granted = 0

theorem unliveLaw_iff (s : State) : UnliveLaw s ↔ UnliveEntries s.watches s.slots ∧
    ∀ st, (s.watches.get st).state ≠ .live → s.request (.station st) = none :=
  ⟨fun h => ⟨fun st hst => (h st hst).1, fun st hst => (h st hst).2⟩, fun h st hst => ⟨h.1 st hst, h.2 st hst⟩⟩

/-- R14: a pass leaves the entries of the stations that are not LIVE aside. -/
theorem passTable_unlive {figure : Nat} {w : PerStation Watch} {t : PerSlot (Option Entry)}
    (h : UnliveEntries w t) : UnliveEntries w (passTable figure t) := by
  intro st hst c e he
  rw [passTable_get_of_aside figure t fun e' he' => (h st hst c e' he').1] at he
  exact h st hst c e he

/-! ## What leaves the three laws alone -/

/-- R19, R38, R10, R77: the three laws together. -/
def FlowLaw (s : State) : Prop := SupplyLaw s ∧ TableLaw s ∧ UnliveLaw s

theorem NoNewRequest.stations {s t : State} (h : NoNewRequest s t) (st : Station) :
    s.request (.station st) = none → t.request (.station st) = none := h _

/-- What the laws read of the table, of the stations and of their requests is as it was. -/
structure TableQuiet (s t : State) : Prop where
  slots : t.slots = s.slots
  published : t.supply.published = s.supply.published
  watches : ∀ st, (s.watches.get st).state = .live → (t.watches.get st).state = .live
  requests : ∀ st, s.request (.station st) = none → t.request (.station st) = none

/-- And so is what they read of the supply unit and of the stop causes. -/
structure FlowQuiet (s t : State) : Prop extends TableQuiet s t where
  band : t.supply.band = s.supply.band
  dpMark : t.supply.dpMark = s.supply.dpMark
  levelMark : t.supply.levelMark = s.supply.levelMark
  stop : t.stop = s.stop
  pMax : t.store.working.line.pMax = s.store.working.line.pMax

theorem TableQuiet.of {s t : State} (h : t.arbiter = s.arbiter ∧ t.watches = s.watches ∧ t.slots = s.slots ∧
    t.supply.published = s.supply.published) : TableQuiet s t := by
  obtain ⟨harbiter, hwatches, hslots, hpublished⟩ := h
  exact ⟨hslots, hpublished, fun _ => by rw [hwatches]; exact id, fun _ => (request_of_arbiter harbiter _).trans⟩

/-- Beside the requests, the law reads fields that are as they were. -/
theorem FlowQuiet.of_requests {s t : State}
    (hrequests : ∀ st, s.request (.station st) = none → t.request (.station st) = none)
    (h : t.watches = s.watches ∧ t.slots = s.slots ∧ t.supply.published = s.supply.published ∧
      t.supply.band = s.supply.band ∧ t.supply.dpMark = s.supply.dpMark ∧ t.supply.levelMark = s.supply.levelMark ∧
      t.stop = s.stop ∧ t.store.working.line.pMax = s.store.working.line.pMax) : FlowQuiet s t := by
  obtain ⟨hwatches, hslots, hpublished, hband, hdp, hlevel, hstop, hmax⟩ := h
  exact ⟨⟨hslots, hpublished, fun _ => by rw [hwatches]; exact id, hrequests⟩, hband, hdp, hlevel, hstop, hmax⟩

theorem FlowQuiet.of {s t : State} (h : t.arbiter = s.arbiter ∧ t.watches = s.watches ∧ t.slots = s.slots ∧
    t.supply.published = s.supply.published ∧ t.supply.band = s.supply.band ∧ t.supply.dpMark = s.supply.dpMark ∧
    t.supply.levelMark = s.supply.levelMark ∧ t.stop = s.stop ∧
    t.store.working.line.pMax = s.store.working.line.pMax) : FlowQuiet s t :=
  .of_requests (fun _ => (request_of_arbiter h.1 _).trans) h.2

theorem TableQuiet.tableLaw {s t : State} (q : TableQuiet s t) (h : TableLaw s) : TableLaw t := by
  unfold TableLaw
  rw [q.slots, q.published]
  exact h

theorem TableQuiet.unliveLaw {s t : State} (q : TableQuiet s t) (h : UnliveLaw s) : UnliveLaw t := by
  intro st hst
  obtain ⟨hentries, hrequest⟩ := h st (mt (q.watches st) hst)
  rw [q.slots]
  exact ⟨hentries, q.requests st hrequest⟩

theorem figureBand_congr {s t : State} (hdp : t.supply.dpMark = s.supply.dpMark)
    (hlevel : t.supply.levelMark = s.supply.levelMark) (hband : t.supply.band = s.supply.band) :
    figureBand t = figureBand s := by
  rw [figureBand, figureBand, hdp, hlevel, hband]

theorem inSafeStop_congr {s t : State} (h : t.stop = s.stop) : t.inSafeStop = s.inSafeStop := by
  rw [State.inSafeStop, State.inSafeStop, h]

theorem FlowQuiet.supplyLaw {s t : State} (q : FlowQuiet s t) (h : SupplyLaw s) : SupplyLaw t := by
  unfold SupplyLaw State.line
  rw [q.published, q.band, q.pMax, inSafeStop_congr q.stop, figureBand_congr q.dpMark q.levelMark q.band]
  exact h

theorem FlowQuiet.keeps {s t : State} (q : FlowQuiet s t) (h : FlowLaw s) : FlowLaw t :=
  ⟨q.supplyLaw h.1, q.tableLaw h.2.1, q.unliveLaw h.2.2⟩

theorem FlowQuiet.refl (s : State) : FlowQuiet s s := .of (by simp)

theorem TableQuiet.trans {s t u : State} (h : TableQuiet s t) (h' : TableQuiet t u) : TableQuiet s u where
  slots := h'.slots.trans h.slots
  published := h'.published.trans h.published
  watches st hst := h'.watches st (h.watches st hst)
  requests st hst := h'.requests st (h.requests st hst)

theorem FlowQuiet.trans {s t u : State} (h : FlowQuiet s t) (h' : FlowQuiet t u) : FlowQuiet s u where
  toTableQuiet := h.toTableQuiet.trans h'.toTableQuiet
  band := h'.band.trans h.band
  dpMark := h'.dpMark.trans h.dpMark
  levelMark := h'.levelMark.trans h.levelMark
  stop := h'.stop.trans h.stop
  pMax := h'.pMax.trans h.pMax

/-! ## Recomputation and publication -/

/-- What a recomputation needs: the laws of the table and of the stations, and a figure of 0 where none can be
formed. -/
structure FlowReady (s : State) : Prop where
  unformed : figureBand s = none → s.supply.published = 0
  table : TableLaw s
  unlive : UnliveLaw s

theorem FlowLaw.ready {s : State} (h : FlowLaw s) : FlowReady s := by
  obtain ⟨⟨-, -, -, hunformed⟩, htable, hunlive⟩ := h
  exact ⟨hunformed, htable, hunlive⟩

theorem FlowLaw.ready_of {s t : State} (h : FlowLaw s) (q : TableQuiet s t)
    (hband : figureBand t = none → figureBand s = none) : FlowReady t where
  unformed ht := q.published.trans (h.ready.unformed (hband ht))
  table := q.tableLaw h.2.1
  unlive := q.unliveLaw h.2.2

theorem publish_slots (figure : Nat) (s : State) : (publish figure s).slots = passTable figure s.slots :=
  (publish_passed figure s).1

@[simp] theorem publish_supply (figure : Nat) (s : State) :
    (publish figure s).supply = { s.supply with published := figure } := by rw [publish_eq]

/-- R19, R38: a publication leaves the law of the table, whatever figure it makes. -/
theorem publish_tableLaw {s : State} (h : TableValues s.slots) (figure : Nat) : TableLaw (publish figure s) := by
  unfold TableLaw
  rw [publish_slots, publish_supply]
  exact passTable_law h

theorem publish_unliveLaw {s : State} (h : UnliveLaw s) (figure : Nat) : UnliveLaw (publish figure s) := by
  rw [unliveLaw_iff] at *
  rw [publish_slots, (publish_frame figure s).2.2.1]
  exact ⟨passTable_unlive h.1, fun st hst => (request_of_arbiter (by simp) _).trans (h.2 st hst)⟩

theorem figureBand_eq_some {s : State} {b : Band} (h : figureBand s = some b) : s.supply.band = some b := by
  unfold figureBand at h
  split at h
  · exact h
  · cases h

/-- R35: a new figure is within Pmax, and 0 in CRITICAL and in safe stop. -/
theorem newFigure_le_pMax (s : State) (b : Band) : newFigure s b ≤ s.line.pMax := by
  unfold newFigure
  split
  · exact Nat.zero_le _
  · exact Nat.min_le_right _ _

theorem newFigure_critical (s : State) : newFigure s .critical = 0 := by
  unfold newFigure
  split
  · rfl
  · exact Nat.zero_min _

theorem newFigure_safeStop {s : State} (h : s.inSafeStop = true) (b : Band) : newFigure s b = 0 := if_pos h

/-- R38: a figure that is at most the new one of the band in force keeps the law of the figure. -/
theorem supplyLaw_of_le {s : State} {b : Band} (hb : figureBand s = some b) (h : s.supply.published ≤ newFigure s b) :
    SupplyLaw s := by
  refine ⟨h.trans (newFigure_le_pMax s b), fun hcritical => ?_, fun hstop => ?_, fun hnone => ?_⟩
  · obtain rfl : Band.critical = b := Option.some.inj (hcritical.symm.trans (figureBand_eq_some hb))
    rw [newFigure_critical] at h
    exact Nat.le_zero.mp h
  · rw [newFigure_safeStop hstop] at h
    exact Nat.le_zero.mp h
  · simp [hb] at hnone

theorem supplyLaw_of_zero {s : State} (h : s.supply.published = 0) : SupplyLaw s :=
  ⟨by omega, fun _ => h, fun _ => h, fun _ => h⟩

theorem publish_figureBand (figure : Nat) (s : State) : figureBand (publish figure s) = figureBand s :=
  figureBand_congr (by simp) (by simp) (by simp)

theorem publish_newFigure (figure : Nat) (s : State) (b : Band) : newFigure (publish figure s) b = newFigure s b := by
  simp [newFigure, keptCapacity, State.line, inSafeStop_congr (s := s) (t := publish figure s) (by simp)]

theorem publish_newFigure_supplyLaw {s : State} {b : Band} (hb : figureBand s = some b) :
    SupplyLaw (publish (newFigure s b) s) :=
  supplyLaw_of_le (b := b) (by rw [publish_figureBand, hb]) (by rw [publish_newFigure, publish_supply])

/-- R36, R38: a recomputation brings the three laws about. -/
theorem recompute_flowLaw {s : State} (h : FlowReady s) : FlowLaw (recompute s) := by
  rcases recompute_cases s with ⟨heq, hfigure⟩ | ⟨b, hb, heq⟩
  · rw [heq]
    refine ⟨?_, h.table, h.unlive⟩
    rcases hfigure with hnone | ⟨b, hb, hle⟩
    · exact supplyLaw_of_zero (h.unformed hnone)
    · exact supplyLaw_of_le hb hle
  · rw [heq]
    exact ⟨publish_newFigure_supplyLaw hb, publish_tableLaw h.table.values _, publish_unliveLaw h.unlive _⟩

theorem recompute_keepsFlow {s : State} (h : FlowLaw s) : FlowLaw (recompute s) := recompute_flowLaw h.ready

/-- R41: a forced publication brings the law of the figure about in every state. -/
theorem publishForced_flowLaw {s : State} (htable : TableValues s.slots) (hunlive : UnliveLaw s) :
    FlowLaw (publishForced s) := by
  unfold publishForced
  split
  · exact ⟨supplyLaw_of_zero (by simp), publish_tableLaw htable _, publish_unliveLaw hunlive _⟩
  · next b hb => exact ⟨publish_newFigure_supplyLaw hb, publish_tableLaw htable _, publish_unliveLaw hunlive _⟩

/-! ## Events of the table -/

theorem tableEvent_slots (f : PerSlot (Option Entry) → PerSlot (Option Entry)) (s : State) :
    (tableEvent f s).slots = passTable s.supply.published (f s.slots) := (tableEvent_passed f s).1

theorem tableEvent_supplyLaw {s : State} (h : SupplyLaw s) (f : PerSlot (Option Entry) → PerSlot (Option Entry)) :
    SupplyLaw (tableEvent f s) := by
  unfold SupplyLaw State.line figureBand State.inSafeStop
  simp only [tableEvent_frame]
  exact h

theorem tableEvent_tableLaw {f : PerSlot (Option Entry) → PerSlot (Option Entry)} {s : State}
    (h : TableValues (f s.slots)) : TableLaw (tableEvent f s) := by
  unfold TableLaw
  rw [tableEvent_slots]
  simp only [tableEvent_frame]
  exact passTable_law h

theorem tableEvent_unliveEntries {f : PerSlot (Option Entry) → PerSlot (Option Entry)} {s : State}
    (h : UnliveEntries s.watches (f s.slots)) :
    UnliveEntries (tableEvent f s).watches (tableEvent f s).slots := by
  rw [tableEvent_slots]
  simp only [tableEvent_frame]
  exact passTable_unlive h

/-- R13: an event of the table keeps the laws when its entries are fit for the pass. -/
theorem tableEvent_flowLaw {f : PerSlot (Option Entry) → PerSlot (Option Entry)} {s : State} (hsupply : SupplyLaw s)
    (hvalues : TableValues (f s.slots)) (hentries : UnliveEntries s.watches (f s.slots))
    (hrequests : ∀ st, (s.watches.get st).state ≠ .live → s.request (.station st) = none) :
    FlowLaw (tableEvent f s) := by
  refine ⟨tableEvent_supplyLaw hsupply f, tableEvent_tableLaw hvalues,
    (unliveLaw_iff _).mpr ⟨tableEvent_unliveEntries hentries, ?_⟩⟩
  simp only [tableEvent_frame]
  exact fun st hst => (request_of_arbiter (by simp) _).trans (hrequests st hst)

theorem get_onStationSlots (st : Station) (f : Option Entry → Option Entry) (t : PerSlot (Option Entry)) (sl : Slot) :
    (onStationSlots st f t).get sl =
      if sl = .station st .spindle ∨ sl = .station st .flood then f (t.get sl) else t.get sl := by
  rcases sl with ⟨a, c⟩ | _ | _
  · by_cases ha : a = st <;> cases c <;>
      simp [onStationSlots, PerSlot.get, PerStation.get_set, ha]
  · simp [onStationSlots, PerSlot.get]
  · simp [onStationSlots, PerSlot.get]

theorem tableValues_onStationSlots {st : Station} {f : Option Entry → Option Entry} {t : PerSlot (Option Entry)}
    (h : TableValues t)
    (hf : ∀ sl o e, f o = some e → (∀ e', o = some e' → e'.valuesFit sl) → e.valuesFit sl ∧
      (e.state = .suspended → e.granted = 0)) : TableValues (onStationSlots st f t) := by
  intro sl e he
  rw [get_onStationSlots] at he
  split at he
  · exact hf sl _ e he fun e' he' => (h sl e' he').1
  · exact h sl e he

theorem unliveEntries_set_onStationSlots {st : Station} {w : PerStation Watch} {x : Watch}
    {f : Option Entry → Option Entry} {t : PerSlot (Option Entry)} (h : UnliveEntries w t)
    (hf : x.state = .live ∨ ∀ o e, f o = some e → e.state = .suspended ∧ e.granted = 0) :
    UnliveEntries (w.set st x) (onStationSlots st f t) := by
  intro a ha c e he
  rw [get_onStationSlots] at he
  rw [PerStation.get_set] at ha
  by_cases hst : a = st
  · subst hst
    rw [if_pos rfl] at ha
    rw [if_pos (by cases c <;> simp)] at he
    exact hf.resolve_left ha _ e he
  · rw [if_neg hst] at ha
    rw [if_neg (by simp [hst])] at he
    exact h a ha c e he

theorem setWatch_supplyLaw {s : State} (h : SupplyLaw s) (st : Station) (w : Watch) : SupplyLaw (setWatch st w s) := h

/-- A table event of one station made with its watch: the requests of the stations that stay as they were are none. -/
theorem request_of_unlive_ne {s : State} (h : UnliveLaw s) {st : Station} {w : Watch} {a : Station} (hne : a ≠ st)
    (ha : ((setWatch st w s).watches.get a).state ≠ .live) : s.request (.station a) = none := by
  rw [setWatch_watches, PerStation.get_set_ne _ hne] at ha
  exact (h a ha).2

/-- R11: a station that is LIVE again has its entries back. -/
theorem returnStation_keepsFlow {s : State} (h : FlowLaw s) {st : Station} {w : Watch} (hw : w.state = .live) :
    FlowLaw (returnStation st (setWatch st w s)) := by
  obtain ⟨hsupply, htable, hunlive⟩ := h
  refine tableEvent_flowLaw hsupply (tableValues_onStationSlots htable.values ?_)
    (unliveEntries_set_onStationSlots ((unliveLaw_iff s).mp hunlive).1 (.inl hw)) fun a ha => ?_
  · intro sl o e he hvalues
    obtain ⟨e', rfl, rfl⟩ := Option.map_eq_some_iff.mp he
    split
    · exact ⟨hvalues e' rfl, nofun⟩
    · next hs => exact ⟨hvalues e' rfl, fun hs' => absurd hs' hs⟩
  · refine request_of_unlive_ne hunlive (fun hst => ?_) ha
    subst hst
    exact ha (by rw [setWatch_watches, PerStation.get_set_same, hw])

theorem setWatch_live_quiet (st : Station) {w : Watch} (hw : w.state = .live) (s : State) :
    FlowQuiet s (setWatch st w s) := by
  refine ⟨⟨rfl, rfl, fun a ha => ?_, fun _ h => h⟩, rfl, rfl, rfl, rfl, rfl⟩
  rw [setWatch_watches, PerStation.get_set]
  split
  · exact hw
  · exact ha

/-- R165: an accepted keep-alive keeps the laws. -/
theorem acceptKeepAlive_keepsFlow {s : State} (h : FlowLaw s) (st : Station) (ph : Phase) :
    FlowLaw (acceptKeepAlive st ph s) := by
  simp only [acceptKeepAlive]
  split
  · exact returnStation_keepsFlow h rfl
  · exact (setWatch_live_quiet st rfl s).keeps h

/-- R168: STATION_WATCH keeps the laws. -/
theorem applyWatch_keepsFlow {s : State} (h : FlowLaw s) (st : Station) : FlowLaw (applyWatch st s) := by
  simp only [applyWatch]
  split
  · exact returnStation_keepsFlow h rfl
  · exact (setWatch_live_quiet st rfl s).keeps h

end Sys2Proof.Machine
end

section
/-! The operations of the blocks under the laws of the figure, of the table and of the stations (O56). -/

namespace Sys2Proof.Machine

/-! ## Operations that leave the three laws alone -/

theorem arbitrate_flowQuiet (s : State) : FlowQuiet s (arbitrate s) :=
  .of_requests (arbitrate_noNew s).stations (by simp)

theorem chuteFreed_flowQuiet (s : State) : FlowQuiet s (chuteFreed s) :=
  .of_requests (chuteFreed_noNew s).stations (by simp)

theorem afterRequest_flowQuiet (src : Source) (urgency : Nat) (s : State) :
    FlowQuiet s (afterRequest src urgency s) :=
  .of_requests (afterRequest_noNew src urgency s).stations (by simp)

theorem feedEvaluation_flowQuiet (s : State) : FlowQuiet s (feedEvaluation s) := .of (by simp)

theorem tryIndexStart_flowQuiet (s : State) : FlowQuiet s (tryIndexStart s) := .of (by simp)

theorem finalise_flowQuiet (src : Source) (r : DischargeRequest) (k : Nat) (c : EndCause) (s : State) :
    FlowQuiet s (finalise src r k c s).1 :=
  .of_requests (finalise_noNew src r k c s).stations (by simp)

theorem removeRequest_flowQuiet (src : Source) (s : State) : FlowQuiet s (setPlace src none s) :=
  .of_requests (NoNewRequest.setPlace (.inl rfl)).stations (by simp)

theorem storeSludge_flowQuiet (s : State) : FlowQuiet s (storeSludge s) := by
  refine .of_requests (fun st hst => ?_) (by simp)
  rw [storeSludge, request_setPlace, if_neg (by simp)]
  exact hst

theorem withdrawOffer_flowQuiet {src : Source} {r : DischargeRequest} {s : State} (h : s.request src = some r) :
    FlowQuiet s (withdrawOffer src r s) :=
  .of_requests (withdrawOffer_noNew h).stations (by simp)

/-! ## Operations that recompute -/

theorem startBackwash_keepsFlow {s : State} (h : FlowLaw s) : FlowLaw (startBackwash s) :=
  recompute_flowLaw (h.ready_of (.of (by simp)) fun hband => by simpa [figureBand] using hband)

theorem tryPendingBackwash_keepsFlow {s : State} (h : FlowLaw s) : FlowLaw (tryPendingBackwash s) := by
  unfold tryPendingBackwash
  split
  · exact startBackwash_keepsFlow h
  · exact h

theorem testTrigger_keepsFlow {s : State} (h : FlowLaw s) : FlowLaw (testTrigger s) := by
  unfold testTrigger
  split
  · split
    · exact startBackwash_keepsFlow h
    · exact FlowQuiet.keeps (.of (by simp)) h
  · exact h

/-- A filter state replaced is followed by a recomputation. -/
theorem recompute_setFilterState_keepsFlow {s : State} (h : FlowLaw s) (f : FilterState) :
    FlowLaw (recompute (setFilterState f s)) :=
  recompute_keepsFlow (FlowQuiet.keeps (.of (by simp)) h)

theorem settleDecision_keepsFlow {s : State} (h : FlowLaw s) : FlowLaw (settleDecision s) := by
  have hfiltering := recompute_setFilterState_keepsFlow h .filtering
  unfold settleDecision
  split
  · exact hfiltering
  split
  · exact startBackwash_keepsFlow hfiltering
  split
  · exact hfiltering
  split
  · split
    · exact FlowQuiet.keeps (.of (by simp)) hfiltering
    · exact recompute_keepsFlow (FlowQuiet.keeps (.of (by simp)) h)
  · exact hfiltering

theorem filterDpSample_keepsFlow {s : State} (h : FlowLaw s) : FlowLaw (filterDpSample s) := by
  unfold filterDpSample
  split
  · exact testTrigger_keepsFlow h
  · exact settleDecision_keepsFlow h
  · exact h

theorem endFleeceIndex_keepsFlow {s : State} (h : FlowLaw s) : FlowLaw (endFleeceIndex s) :=
  tryPendingBackwash_keepsFlow (FlowQuiet.keeps (.of (by simp)) h)

theorem meterPulse_keepsFlow {s : State} (h : FlowLaw s) (length metered : Nat) :
    FlowLaw (meterPulse length metered s) := by
  simp only [meterPulse]
  split
  · exact endFleeceIndex_keepsFlow (FlowQuiet.keeps (.of (by simp)) h)
  split
  · exact endFleeceIndex_keepsFlow (FlowQuiet.keeps (.of (by simp)) h)
  · exact FlowQuiet.keeps (.of (by simp)) h

theorem filterStopEntry_keepsFlow {s : State} (h : FlowLaw s) : FlowLaw (filterStopEntry s) := by
  unfold filterStopEntry
  split
  · exact recompute_keepsFlow (FlowQuiet.keeps (.of (by simp)) h)
  · exact FlowQuiet.keeps (.of (by simp)) h
  · exact h

/-! ## Samples and the band -/

@[simp] theorem setBand_supply (b : Band) (s : State) : (setBand b s).supply = { s.supply with band := some b } := by
  simp only [setBand]
  split <;> simp

theorem takeFaultedDp_supply (s : State) :
    (takeFaultedDp s).supply = { s.supply with
      dpFaults := nextFaults (!s.supply.dpMark) s.supply.dpFaults, dpMark := true,
      dp := if nextFaults (!s.supply.dpMark) s.supply.dpFaults = Config.faultLimit then s.line.dpTrigger
        else s.supply.dp } := by
  simp [takeFaultedDp]

theorem takeGoodLevel_supply (level : Nat) (s : State) :
    (takeGoodLevel level s).supply = { s.supply with
      level := level, levelFaults := 0, levelMark := true, band := some (bandAfterLevel s level) } := by
  simp [takeGoodLevel]

theorem takeFaultedLevel_supply (s : State) :
    (takeFaultedLevel s).supply = { s.supply with
      levelFaults := nextFaults s.supply.band.isNone s.supply.levelFaults, levelMark := true,
      band := if nextFaults s.supply.band.isNone s.supply.levelFaults = Config.faultLimit then some .low
        else s.supply.band } := by
  simp [takeFaultedLevel]

/-- R37: a re-evaluation leaves the band as it is, or sets one where one was set. -/
theorem reevaluateBand_cases (s : State) : reevaluateBand s = s ∨ ∃ b,
    s.supply.band ≠ none ∧ reevaluateBand s = setBand b s := by
  unfold reevaluateBand
  split
  · exact .inl rfl
  · next b hb =>
    split
    · exact .inr ⟨_, by simp [hb], rfl⟩
    · exact .inl rfl

/-- R40: no figure can be formed before both marks and the band are set. -/
theorem figureBand_none_iff (s : State) :
    figureBand s = none ↔ s.supply.dpMark = false ∨ s.supply.levelMark = false ∨ s.supply.band = none := by
  refine ⟨fun h => ?_, figureBand_eq_none⟩
  by_contra hall
  simp only [not_or, Bool.not_eq_false] at hall
  obtain ⟨hdp, hlevel, hband⟩ := hall
  exact hband ((figureBand_eq_band hdp hlevel).symm.trans h)

/-- R26, R27: a DP sample is followed by a recomputation. -/
theorem dpCompletes_keepsFlow {s : State} (h : FlowLaw s) (raw : BitVec 12) (calibration : Int) :
    FlowLaw (dpCompletes raw calibration s) := by
  refine filterDpSample_keepsFlow (recompute_flowLaw ?_)
  split
  · refine h.ready_of (.of (by simp [takeFaultedDp_supply])) ?_
    simp only [figureBand_none_iff, takeFaultedDp_supply]
    simp +contextual
  · refine h.ready_of (.of (by simp)) ?_
    simp +contextual [figureBand_none_iff]

/-- R28, R29: a LEVEL sample is followed by a recomputation. -/
theorem levelCompletes_keepsFlow {s : State} (h : FlowLaw s) (raw : BitVec 12) (calibration : Int) :
    FlowLaw (levelCompletes raw calibration s) := by
  refine recompute_flowLaw ?_
  split
  · refine h.ready_of (.of (by simp [takeFaultedLevel_supply])) ?_
    simp only [figureBand_none_iff, takeFaultedLevel_supply]
    split <;> simp +contextual [or_imp]
  · refine h.ready_of (.of (by simp [takeGoodLevel_supply])) ?_
    simp only [figureBand_none_iff, takeGoodLevel_supply]
    simp +contextual

/-- R37: a re-evaluation of the band leaves what a recomputation needs. -/
theorem reevaluateBand_ready {s : State} (h : FlowReady s) : FlowReady (reevaluateBand s) := by
  rcases reevaluateBand_cases s with heq | ⟨b, hb, heq⟩
  · rwa [heq]
  · have q : TableQuiet s (setBand b s) := .of (by simp)
    rw [heq]
    refine ⟨fun hnone => ?_, q.tableLaw h.table, q.unliveLaw h.unlive⟩
    rw [q.published]
    refine h.unformed ?_
    simp only [figureBand_none_iff, setBand_supply] at hnone ⊢
    simpa [hb] using hnone

/-! ## The working copy -/

/-- R130: a write of the working copy, before its owners act on it. -/
theorem setWorking_ready {s : State} (h : FlowLaw s) (p : Profile) : FlowReady (setWorking p s) :=
  h.ready_of (.of (by simp)) fun hband => by simpa [figureBand] using hband

/-- R38: a write that leaves Pmax alone keeps the laws. -/
theorem setWorking_keepsFlow {s : State} (h : FlowLaw s) {p : Profile}
    (hp : p.line.pMax = s.store.working.line.pMax) : FlowLaw (setWorking p s) :=
  FlowQuiet.keeps (.of (by simp [hp])) h

theorem pMax_set_of_ne {i : LineItem} (h : i ≠ .pMax) (l : LineParams) (v : Int) : (l.set i v).pMax = l.pMax := by
  cases i <;> first | rfl | exact absurd rfl h

theorem withdrawRequest_flowQuiet (s : State) : FlowQuiet s (withdrawRequest s) := .of (by simp)

theorem withdrawEvent_flowQuiet (s : State) : FlowQuiet s (withdrawEvent s) := by
  unfold withdrawEvent
  split
  · exact ((withdrawRequest_flowQuiet s).trans (feedEvaluation_flowQuiet _)).trans (arbitrate_flowQuiet _)
  · exact .refl s

/-- R107, R112: capacities written are followed by the evaluation, with or without a withdrawal before it. -/
theorem capacitiesWritten_cases (bins : List Family) (s : State) :
    capacitiesWritten bins s = feedEvaluation s ∨
      s.requestNotStarted = true ∧ capacitiesWritten bins s = arbitrate (feedEvaluation (withdrawRequest s)) := by
  unfold capacitiesWritten
  extract_lets hit
  cases hhit : hit with
  | false => exact .inl rfl
  | true => exact .inr ⟨(Bool.and_eq_true_iff.mp hhit).1, rfl⟩

theorem capacitiesWritten_flowQuiet (bins : List Family) (s : State) : FlowQuiet s (capacitiesWritten bins s) := by
  rcases capacitiesWritten_cases bins s with heq | ⟨-, heq⟩ <;> rw [heq]
  · exact feedEvaluation_flowQuiet s
  · exact ((withdrawRequest_flowQuiet s).trans (feedEvaluation_flowQuiet _)).trans (arbitrate_flowQuiet _)

/-- R130: the owner of a line item recomputes where the item is Pmax, and keeps the laws for every other. -/
theorem handOverLine_keepsFlow {i : LineItem} {s : State} (hready : FlowReady s) (h : i ≠ .pMax → FlowLaw s) :
    FlowLaw (handOverLine i s) := by
  cases i with
  | crated | dpClean | dpLimit | bwKeep | bMax | pMax => exact recompute_flowLaw hready
  | lMin | lLo | lHi | hyst => exact recompute_flowLaw (reevaluateBand_ready hready)
  | bwGap => exact tryPendingBackwash_keepsFlow (h nofun)
  | mPocket | inService => exact (arbitrate_flowQuiet s).keeps (h nofun)
  | nRetry => exact FlowQuiet.keeps (t := retryLimitWritten s) (.of (by simp)) (h nofun)
  | cBinLight | cBinFerrous | cBinHard | cBinSludge => exact (capacitiesWritten_flowQuiet _ s).keeps (h nofun)
  | dpTrigger | supplyStep | lFull | dpIndex | bwTime | tSettle | mSludge | lIdx | lWarn | tSpray | tOffer | tGate
  | tDump | ppk | tIdx | tRunUp | tRunDown | tRev | tIdle | tTransit | ppr | dpCal | levelCal => exact h nofun

theorem levelWritten_flowQuiet (k : HallKind) (s : State) : FlowQuiet s (levelWritten k s) := .of (by simp)

/-- R128, R130: an item stored and handed to its owner keeps the laws. -/
theorem storeItem_keepsFlow {s : State} (h : FlowLaw s) (i : Item) (v : Int) : FlowLaw (storeItem i v s) := by
  have hready := setWorking_ready h (s.store.working.set i v)
  have hkeeps : (s.store.working.set i v).line.pMax = s.store.working.line.pMax →
      FlowLaw (setWorking (s.store.working.set i v) s) := setWorking_keepsFlow h
  cases i with
  | line i => exact handOverLine_keepsFlow hready fun hi => hkeeps (pMax_set_of_ne hi _ v)
  | station st f =>
    cases f with
    | watchEnable => exact applyWatch_keepsFlow (hkeeps rfl) st
    | floodLimit | spindleLimit | keepExponent => exact hkeeps rfl
  | vmax c => exact hkeeps rfl
  | level k => exact (levelWritten_flowQuiet k _).keeps (hkeeps rfl)
  | material m f => exact hkeeps rfl

theorem loadSupply_flowLaw {s : State} (h : FlowReady s) (old : LineParams) : FlowLaw (loadSupply old s) := by
  unfold loadSupply
  split
  · exact recompute_flowLaw (reevaluateBand_ready h)
  · exact recompute_flowLaw h

theorem loadArbiter_flowQuiet (old : LineParams) (s : State) : FlowQuiet s (loadArbiter old s) := by
  unfold loadArbiter
  split
  · exact arbitrate_flowQuiet s
  · exact .refl s

theorem loadCrusher_flowQuiet (s : State) : FlowQuiet s (loadCrusher s) :=
  FlowQuiet.trans (t := retryLimitWritten s) (.of (by simp)) (capacitiesWritten_flowQuiet _ _)

/-- What every member of a list of events keeps is kept by them all. -/
theorem foldl_keeps {α : Type} {P : State → Prop} {f : State → α → State} (hf : ∀ s a, P s → P (f s a)) (l : List α)
    {s : State} (h : P s) : P (l.foldl f s) := by
  induction l generalizing s with
  | nil => exact h
  | cons a l ih => exact ih (hf s a h)

theorem loadWatches_keepsFlow {s : State} (h : FlowLaw s) : FlowLaw (loadWatches s) :=
  foldl_keeps (P := FlowLaw) (f := fun s st => applyWatch st s) (fun _ st h => applyWatch_keepsFlow h st) _ h

theorem loadLevels_keepsFlow {s : State} (h : FlowLaw s) : FlowLaw (loadLevels s) :=
  foldl_keeps (P := FlowLaw) (f := fun s k => levelWritten k s) (fun s k h => (levelWritten_flowQuiet k s).keeps h) _ h

/-- R134: a load keeps the laws, whatever set it loads. -/
theorem loadProfile_keepsFlow {s : State} (h : FlowLaw s) (p : Profile) : FlowLaw (loadProfile p s) := by
  unfold loadProfile
  have hsupply := loadSupply_flowLaw (setWorking_ready h p) s.line
  have harbiter := (loadArbiter_flowQuiet s.line _).keeps (tryPendingBackwash_keepsFlow hsupply)
  have hcrusher := (loadCrusher_flowQuiet _).keeps harbiter
  exact loadLevels_keepsFlow (loadWatches_keepsFlow hcrusher)

end Sys2Proof.Machine
end

section
/-! The discharges, the station watch, safe stop and restart under the laws of the figure, of the table and of the
stations (O56). -/

namespace Sys2Proof.Machine

/-! ## Discharges -/

theorem postHall_flowQuiet (k : HallKind) (s : State) : FlowQuiet s (postHall k s) := .of (by simp)

theorem postStation_flowQuiet (st : Station) (k : StationKind) (s : State) :
    FlowQuiet s (postStation st k s) := .of (by simp)

theorem troughEmptied_keepsFlow {s : State} (h : FlowLaw s) (src : Source) : FlowLaw (troughEmptied src s) := by
  cases src with
  | station st => exact h
  | sludge => exact tryPendingBackwash_keepsFlow h

theorem headAppears_flowQuiet (wasEmpty : Bool) (s : State) : FlowQuiet s (headAppears wasEmpty s) := .of (by simp)

theorem finaliseEvent_keepsFlow {s : State} (h : FlowLaw s) (src : Source) (r : DischargeRequest) (k : Nat)
    (c : EndCause) : FlowLaw (finaliseEvent src r k c s).1 :=
  (chuteFreed_flowQuiet _).keeps (troughEmptied_keepsFlow
    ((headAppears_flowQuiet _ _).keeps ((finalise_flowQuiet src r k c s).keeps h)) src)

theorem keepLate_flowQuiet (src : Source) (o : Outcome) (s : State) : FlowQuiet s (keepLate src o s) :=
  .of_requests (fun _ hst => by rwa [request_keepLate]) (by simp)

theorem finaliseLate_keepsFlow {s : State} (h : FlowLaw s) (src : Source) (r : DischargeRequest) (k : Nat)
    (c : EndCause) : FlowLaw (finaliseLate src r k c s) :=
  (keepLate_flowQuiet src _ _).keeps (finaliseEvent_keepsFlow h src r k c)

/-- R77: a station's discharge finalised late leaves the three laws' parts of the state alone. -/
theorem finaliseLate_station_flowQuiet (st : Station) (r : DischargeRequest) (k : Nat) (c : EndCause) (s : State) :
    FlowQuiet s (finaliseLate (.station st) r k c s) :=
  (finalise_flowQuiet (.station st) r k c s).trans ((headAppears_flowQuiet s.carousel.queue.isEmpty _).trans
    ((chuteFreed_flowQuiet _).trans (keepLate_flowQuiet (.station st) _ _)))

theorem arbiterLapse_flowQuiet (st : Station) (s : State) : FlowQuiet s (arbiterLapse st s) := by
  unfold arbiterLapse
  split
  · exact arbitrate_flowQuiet s
  · split
    · exact (removeRequest_flowQuiet _ s).trans (arbitrate_flowQuiet _)
    · exact (removeRequest_flowQuiet _ s).trans (chuteFreed_flowQuiet _)
    · exact finaliseLate_station_flowQuiet st _ _ _ s

theorem postGateTimedOut_flowQuiet (src : Source) (s : State) : FlowQuiet s (postGateTimedOut src s) := by
  cases src with
  | station st => exact postStation_flowQuiet st _ s
  | sludge => exact .refl s

theorem backwashEnds_keepsFlow {s : State} (h : FlowLaw s) : FlowLaw (backwashEnds s) := by
  unfold backwashEnds
  split
  · refine (afterRequest_flowQuiet _ _ _).keeps ((storeSludge_flowQuiet _).keeps ?_)
    exact FlowQuiet.keeps (.of (by simp)) h
  · exact h

theorem setLate_flowQuiet (st : Station) (o : Option Outcome) (s : State) : FlowQuiet s (setLate st o s) :=
  .of_requests (fun _ hst => hst) (by simp)

/-! ## The station watch -/

/-- R10, R77: a lapse suspends the station's entries and removes its request. -/
theorem lapse_keepsFlow {s : State} (h : FlowLaw s) (st : Station) : FlowLaw (lapse st s) := by
  obtain ⟨hsupply, htable, hunlive⟩ := h
  have hsuspended : ∀ o e, suspendEntry o = some e → e.state = .suspended ∧ e.granted = 0 := by
    intro o e he
    obtain ⟨e', -, rfl⟩ := Option.map_eq_some_iff.mp he
    exact ⟨rfl, rfl⟩
  have hvalues : TableValues (onStationSlots st suspendEntry s.slots) := by
    refine tableValues_onStationSlots htable.values fun sl o e he hvalues => ?_
    obtain ⟨e', rfl, rfl⟩ := Option.map_eq_some_iff.mp he
    exact ⟨hvalues e' rfl, fun _ => rfl⟩
  let u := suspendStation st (setWatch st ⟨.lapsed, (s.watches.get st).phase, some (s.watchPeriod st)⟩ s)
  have hentries : UnliveEntries u.watches u.slots := tableEvent_unliveEntries
    (unliveEntries_set_onStationSlots ((unliveLaw_iff s).mp hunlive).1 (.inr hsuspended))
  have hrequests : ∀ a, a ≠ st → (u.watches.get a).state ≠ .live → u.request (.station a) = none := by
    intro a hne ha
    have hwatches : u.watches = (setWatch st ⟨.lapsed, (s.watches.get st).phase, some (s.watchPeriod st)⟩ s).watches :=
      (suspendStation_frame st _).2.2.1
    rw [hwatches] at ha
    exact (request_of_arbiter (by simp [u]) _).trans (request_of_unlive_ne hunlive hne ha)
  have q := arbiterLapse_flowQuiet st u
  have hlapse : UnliveLaw (arbiterLapse st u) := by
    refine (unliveLaw_iff _).mpr ⟨?_, fun a ha => ?_⟩
    · intro a ha
      rw [q.slots]
      exact hentries a (mt (q.watches a) ha)
    · by_cases hst : a = st
      · exact hst ▸ request_arbiterLapse_self st u
      · exact q.requests a (hrequests a hst (mt (q.watches a) ha))
  refine ((postStation_flowQuiet st .keepaliveLapsed _).trans (postHall_flowQuiet .stationLapsed _)).keeps
    ⟨q.supplyLaw ?_, q.tableLaw ?_, hlapse⟩
  · exact tableEvent_supplyLaw (setWatch_supplyLaw hsupply st _) _
  · exact tableEvent_tableLaw hvalues

/-- R12, R77: a loss removes the station's entries, its request being gone with the lapse before it. -/
theorem loss_keepsFlow {s : State} (h : FlowLaw s) {st : Station} (hst : (s.watches.get st).state ≠ .live) :
    FlowLaw (loss st s) := by
  obtain ⟨hsupply, htable, hunlive⟩ := h
  have hremove : FlowLaw (removeStation st (setWatch st ⟨.lost, none, none⟩ s)) := by
    refine tableEvent_flowLaw (setWatch_supplyLaw hsupply st _) (tableValues_onStationSlots htable.values nofun)
      (unliveEntries_set_onStationSlots ((unliveLaw_iff s).mp hunlive).1 (.inr nofun)) fun a ha => ?_
    by_cases hne : a = st
    · exact hne ▸ (hunlive st hst).2
    · exact request_of_unlive_ne hunlive hne ha
  exact ((setLate_flowQuiet st none _).trans (postHall_flowQuiet .stationLost _)).keeps hremove

/-! ## Safe stop -/

theorem closeValves_flowQuiet (s : State) : FlowQuiet s (closeValves s) := .of (by simp)

theorem carouselStopEntry_flowQuiet (s : State) : FlowQuiet s (carouselStopEntry s) := .of (by simp)

theorem crusherStopEntry_flowQuiet (s : State) : FlowQuiet s (crusherStopEntry s) := .of (by simp)

theorem crusherGoOn_flowQuiet (s : State) : FlowQuiet s (crusherGoOn s) := .of (by simp)

theorem arbiterStopEntry_keepsFlow {s : State} (h : FlowLaw s) : FlowLaw (arbiterStopEntry s) := by
  unfold arbiterStopEntry
  split
  · exact h
  · next src r hcurrent =>
    split
    · exact h
    · exact (withdrawOffer_flowQuiet (current_some hcurrent).1).keeps h
    · exact finaliseLate_keepsFlow h _ _ _ _

theorem enterSafeStop_flowLaw {s : State} (htable : TableValues s.slots) (hunlive : UnliveLaw s) :
    FlowLaw (enterSafeStop s) := by
  have hpost : TableQuiet s (postHall .safeStop s) := .of (by simp)
  have hpublished : FlowLaw (publish 0 (postHall .safeStop s)) :=
    ⟨supplyLaw_of_zero (by simp), publish_tableLaw (by rwa [hpost.slots]) 0,
      publish_unliveLaw (hpost.unliveLaw hunlive) 0⟩
  have harbiter := arbiterStopEntry_keepsFlow ((closeValves_flowQuiet _).keeps hpublished)
  exact filterStopEntry_keepsFlow
    (((carouselStopEntry_flowQuiet _).trans (crusherStopEntry_flowQuiet _)).keeps harbiter)

theorem inSafeStop_of_has {s : State} {k : StopCause} (h : s.stop.has k = true) : s.inSafeStop = true := by
  cases k <;> simp_all [StopCauses.has, State.inSafeStop]

/-- R173: a cause added to a set that is not empty, or to an empty one, keeps the laws. -/
theorem addCause_keepsFlow {s : State} (h : FlowLaw s) (k : StopCause) : FlowLaw (addCause k s) := by
  obtain ⟨hsupply, htable, hunlive⟩ := h
  unfold addCause
  split
  · exact ⟨hsupply, htable, hunlive⟩
  · simp only
    split
    · next hstop => exact ⟨supplyLaw_of_zero (hsupply.2.2.1 hstop), htable, hunlive⟩
    · exact enterSafeStop_flowLaw htable.values hunlive

theorem lastStepMade_flowQuiet (s : State) : FlowQuiet s (lastStepMade s) := by
  unfold lastStepMade
  split
  · exact FlowQuiet.trans (t := setFlap .crusher _) (.of (by simp)) (arbitrate_flowQuiet _)
  · unfold completeIndex
    split
    · exact .of (by simp)
    · exact FlowQuiet.trans (.of (by simp)) (arbitrate_flowQuiet _)

theorem carouselStopExit_flowQuiet (s : State) : FlowQuiet s (carouselStopExit s) := by
  unfold carouselStopExit
  split
  · split
    · exact lastStepMade_flowQuiet s
    · exact .of (by simp)
  · exact tryIndexStart_flowQuiet s
  · exact .refl s

theorem exitSafeStop_keepsFlow {s : State} (h : FlowReady s) : FlowLaw (exitSafeStop s) := by
  have harbiter := (arbitrate_flowQuiet _).keeps (recompute_flowLaw h)
  exact tryPendingBackwash_keepsFlow
    (((carouselStopExit_flowQuiet _).trans (crusherGoOn_flowQuiet _)).keeps harbiter)

theorem removeCause_keepsFlow {s : State} (h : FlowLaw s) (k : StopCause) : FlowLaw (removeCause k s) := by
  unfold removeCause
  split
  · next hpresent =>
    simp only
    split
    · exact ⟨supplyLaw_of_zero (h.1.2.2.1 (inSafeStop_of_has hpresent)), h.2.1, h.2.2⟩
    · exact exitSafeStop_keepsFlow (h.ready_of (.of (by simp)) id)
  · exact h

/-! ## Restart and power -/

theorem finalise_arbiterRestartEnd_flowQuiet (s : State) : FlowQuiet s (arbiterRestartEnd s) := by
  unfold arbiterRestartEnd
  split
  · exact .refl s
  · split
    · exact finalise_flowQuiet _ _ _ _ s
    · exact .refl s

/-- R79, R176: with every station LOST, the table empty and every request gone, the laws hold. -/
theorem arbiterRestart_restartStations_flowLaw {s : State} (h : FlowLaw s) :
    FlowLaw (arbiterRestart (restartStations s)) := by
  have hempty : ∀ sl, (restartStations s).slots.get sl = none := fun sl => PerSlot.get_same none sl
  have htable : TableLaw (restartStations s) := by
    refine ⟨fun sl e he => ?_, ?_⟩
    · exact nomatch (hempty sl).symm.trans he
    · simp only [grantedSum, hempty, grantOf]
      exact Nat.zero_le _
  have q := finalise_arbiterRestartEnd_flowQuiet (restartStations s)
  refine ⟨q.supplyLaw h.1, q.tableLaw htable, (unliveLaw_iff _).mpr ⟨fun st _ c e he => ?_, fun st _ => ?_⟩⟩
  · have hslots : (arbiterRestart (restartStations s)).slots = (restartStations s).slots := q.slots
    rw [hslots, hempty] at he
    cases he
  · exact request_arbiterRestart _ _

theorem repostSludge_flowQuiet (s : State) : FlowQuiet s (repostSludge s) := by
  unfold repostSludge
  split
  · exact storeSludge_flowQuiet s
  · exact .refl s

theorem filterRestart_flowQuiet (s : State) : FlowQuiet s (filterRestart s) := .of (by simp)

/-- R176: what ends the first half of a restart, from the carousel on. -/
theorem restartTail_flowQuiet (s : State) :
    FlowQuiet s (emptyEventSets (clearDiscards (crusherRestart (carouselRestart s)))) := .of (by simp)

theorem restartEnd_keepsFlow {s : State} (h : FlowLaw s) : FlowLaw (restartEnd s) := by
  have hreposted := ((filterRestart_flowQuiet _).trans (repostSludge_flowQuiet _)).keeps
    (arbiterRestart_restartStations_flowLaw h)
  have hpending :
      FlowLaw (restartPendingStart s (repostSludge (filterRestart (arbiterRestart (restartStations s))))) := by
    unfold restartPendingStart
    split
    · exact tryPendingBackwash_keepsFlow hreposted
    · exact hreposted
  exact (restartTail_flowQuiet _).keeps hpending

theorem crusherAfterRestart_flowQuiet (s : State) : FlowQuiet s (crusherAfterRestart s) := .of (by simp)

theorem lineRestart_keepsFlow {s : State} (h : FlowLaw s) : FlowLaw (lineRestart s) := by
  obtain ⟨-, htable, hunlive⟩ := restartEnd_keepsFlow h
  exact (crusherAfterRestart_flowQuiet _).keeps
    ((arbitrate_flowQuiet _).keeps (publishForced_flowLaw htable.values hunlive))

/-- R175: the laws hold in every state that power-on makes. -/
theorem powerOnState_flowLaw (n : NonVolatile) (good made : Bool) (ties : Nat) (queue : List Instr) :
    FlowLaw (powerOnState n good made ties queue) := by
  have hempty : ∀ sl, (powerOnState n good made ties queue).slots.get sl = none := fun sl => PerSlot.get_same none sl
  refine ⟨supplyLaw_of_zero rfl, ⟨fun sl e he => ?_, ?_⟩, fun st _ => ⟨fun c e he => ?_, PerSource.get_same none _⟩⟩
  · exact nomatch (hempty sl).symm.trans he
  · simp only [grantedSum, hempty, grantOf]
    exact Nat.zero_le _
  · exact nomatch (hempty _).symm.trans he

theorem powerUp_flowLaw (v : Nat) (made : Bool) (s : State) : FlowLaw (powerUp v made s) := by
  have hon := powerOnState_flowLaw s.store.nonVolatile (supplyReading v false) made s.ties s.pending
  simp only [powerUp]
  split
  · exact hon
  · exact addCause_keepsFlow hon _

end Sys2Proof.Machine
end

section
/-! Every step keeps the laws of the figure, of the table and of the stations (O56). -/

namespace Sys2Proof.Machine

/-! ## Requests about coolant -/

theorem unliveEntries_set {w : PerStation Watch} {t : PerSlot (Option Entry)} (h : UnliveEntries w t) {sl : Slot}
    (hsl : ∀ st c, sl = .station st c → (w.get st).state = .live) (e : Option Entry) :
    UnliveEntries w (t.set sl e) := by
  intro st hst c g hg
  rw [PerSlot.get_set_ne _ fun heq => hst (hsl st c heq.symm)] at hg
  exact h st hst c g hg

theorem tableValues_set {t : PerSlot (Option Entry)} (h : TableValues t) {sl : Slot} {o : Option Entry}
    (ho : ∀ e, o = some e → e.valuesFit sl ∧ (e.state = .suspended → e.granted = 0)) : TableValues (t.set sl o) := by
  intro a e he
  rw [PerSlot.get_set] at he
  split at he
  · next heq => exact heq ▸ ho e he
  · exact h a e he

/-- R125: a station's limits lie in the ranges of Table 01-2. -/
theorem ceiling_le_askedMost {s : State} (h : s.store.working.fits) (sl : Slot) : s.ceiling sl ≤ askedMost sl := by
  obtain ⟨hrange, -⟩ := h
  rcases sl with ⟨st, c⟩ | _ | _
  · cases c with
    | spindle =>
      have hspindle : ((s.store.working.stations.get st).spindleLimit : Int) ≤ 60 :=
        (hrange (.station st .spindleLimit)).2
      exact Int.ofNat_le.mp hspindle
    | flood =>
      have hflood : ((s.store.working.stations.get st).floodLimit : Int) ≤ 250 := (hrange (.station st .floodLimit)).2
      exact Int.ofNat_le.mp hflood
  all_goals exact Nat.le_refl _

/-- R5: the clamped values of an accepted COOLANT_ASK fit their slot. -/
theorem askedEntry_fits {sl : Slot} {ceiling asked floor urgency : Nat} (hc : 1 ≤ ceiling)
    (hmost : ceiling ≤ askedMost sl) (ha : 1 ≤ asked) (old : Option Entry) :
    (askedEntry old (clampAsk sl ceiling asked floor urgency)).valuesFit sl := by
  have hvalues : ∀ e : Entry, e.asked = min ceiling asked →
      e.floor = (if hasFloor sl then some (min (min ceiling asked) floor) else none) →
      e.urgency = clampUrgency urgency → e.valuesFit sl := by
    intro e hasked hfloor hurgency
    unfold Entry.valuesFit
    rw [hasked, hfloor, hurgency]
    unfold clampUrgency
    cases hasFloor sl <;> simp <;> omega
  cases old <;> refine hvalues _ ?_ ?_ ?_ <;> cases hfloor : hasFloor sl <;> simp [askedEntry, clampAsk, hfloor]

/-- R6, R7: an ask that its port's slot takes keeps the laws. -/
theorem applyAsk_keepsFlow {s : State} (h : FlowLaw s) {sl : Slot}
    (hlive : SlotLive sl s) {ceiling asked floor urgency : Nat}
    (hc : 1 ≤ ceiling) (hmost : ceiling ≤ askedMost sl) (ha : 1 ≤ asked) :
    FlowLaw (applyAsk sl (clampAsk sl ceiling asked floor urgency) s) := by
  obtain ⟨hsupply, htable, hunlive⟩ := h
  obtain ⟨hentries, hrequests⟩ := (unliveLaw_iff s).mp hunlive
  refine tableEvent_flowLaw hsupply (tableValues_set htable.values fun e he => ?_)
    (unliveEntries_set hentries hlive _) hrequests
  obtain rfl := Option.some.inj he
  refine ⟨askedEntry_fits hc hmost ha _, ?_⟩
  cases hold : s.slots.get sl with
  | none => exact nofun
  | some old => exact (htable.values sl old hold).2

/-! ## Requests about discharges -/

/-- R9: an entry that its port's slot gives up keeps the laws. -/
theorem endEntry_keepsFlow {s : State} (h : FlowLaw s) {sl : Slot} (hlive : SlotLive sl s) :
    FlowLaw (endEntry sl s) := by
  obtain ⟨hsupply, htable, hunlive⟩ := h
  obtain ⟨hentries, hrequests⟩ := (unliveLaw_iff s).mp hunlive
  exact tableEvent_flowLaw hsupply (tableValues_set htable.values nofun) (unliveEntries_set hentries hlive none)
    hrequests

/-- R77: a request of a LIVE station is stored. -/
theorem setPlace_keepsFlow {s : State} (h : FlowLaw s) {st : Station} (hst : (s.watches.get st).state = .live)
    (r : Option DischargeRequest) : FlowLaw (setPlace (.station st) r s) := by
  refine ⟨h.1, h.2.1, fun a ha => ⟨(h.2.2 a ha).1, ?_⟩⟩
  have hne : a ≠ st := fun heq => ha (heq ▸ hst)
  rw [request_setPlace, if_neg (by simpa using hne)]
  exact (h.2.2 a ha).2

theorem acceptAsk_keepsFlow {s : State} (h : FlowLaw s) {st : Station} (hst : (s.watches.get st).state = .live)
    (r : DischargeRequest) : FlowLaw (acceptAsk st r s) :=
  (afterRequest_flowQuiet _ _ _).keeps ((setLate_flowQuiet st none _).keeps (setPlace_keepsFlow h hst _))

theorem openGate_flowQuiet {src : Source} {r : DischargeRequest} {s : State} (h : s.request src = some r) (k : Nat)
    (dump : Option Nat) : FlowQuiet s (openGate src r k dump s) := by
  refine .of_requests (fun st hst => ?_) (by simp)
  have hne : Source.station st ≠ src := fun heq => by simp [← heq, hst] at h
  rw [request_openGate, if_neg hne]
  exact hst

/-! ## Other work -/

theorem setMode_flowQuiet (m : Mode) (s : State) : FlowQuiet s (setMode m s) := .of (by simp)

theorem startStep_flowQuiet (n : Nat) (s : State) : FlowQuiet s (startStep n s) := .of (by simp)

theorem setSlot_flowQuiet (x : Option SlotLot) (s : State) : FlowQuiet s (setSlot x s) := .of (by simp)

theorem loadFleece_keepsFlow {s : State} (h : FlowLaw s) (n : Nat) : FlowLaw (loadFleece n s) := by
  have hset : FlowLaw { s with filter := { s.filter with fleece := some n } } := h
  simp only [loadFleece]
  split
  · split
    · exact endFleeceIndex_keepsFlow hset
    · exact hset
  · exact hset

theorem enterStopped_flowQuiet (s : State) : FlowQuiet s (enterStopped s) := .of (by simp)

theorem enterRunUp_flowQuiet (s : State) : FlowQuiet s (enterRunUp s) := .of (by simp)

theorem clearRetry_flowQuiet (x : SlotLot) (s : State) : FlowQuiet s (clearRetry x s) := by
  simp only [clearRetry]
  split
  · exact (setSlot_flowQuiet _ s).trans (enterStopped_flowQuiet _)
  · exact (setSlot_flowQuiet _ s).trans (enterRunUp_flowQuiet _)

theorem clearReject_flowQuiet (x : SlotLot) (s : State) : FlowQuiet s (clearReject x s) :=
  .of (by simp [clearReject])

theorem emptyBin_flowQuiet (b : BinOperand) (s : State) : FlowQuiet s (emptyBin b s) := by
  cases b with
  | bin f =>
    exact FlowQuiet.trans
        (t := { s with crusher := { s.crusher with fills := s.crusher.fills.set f 0 } }) (.of (by simp))
      (feedEvaluation_flowQuiet _)
  | reject =>
    exact FlowQuiet.trans (t := { s with crusher := { s.crusher with reject := 0 } }) (.of (by simp))
      (feedEvaluation_flowQuiet _)

theorem indexEdge_flowQuiet (s : State) : FlowQuiet s (indexEdge s) := by
  unfold indexEdge
  split
  · split
    · exact FlowQuiet.trans (t := setStep false s) (.of (by simp)) (lastStepMade_flowQuiet _)
    · exact FlowQuiet.trans (t := setStep false s) (.of (by simp)) (startStep_flowQuiet _ _)
  · exact .of (by simp)
  · exact .refl s

theorem conversionCompletes_keepsFlow {s : State} (h : FlowLaw s) (raw : BitVec 12) :
    FlowLaw (conversionCompletes raw s) := by
  simp only [conversionCompletes]
  have hnext : ∀ c t, FlowQuiet t (startConversion c t) := fun c t => .of (by simp)
  split
  · exact (hnext _ _).keeps (dpCompletes_keepsFlow h raw _)
  · exact (hnext _ _).keeps (levelCompletes_keepsFlow h raw _)

theorem saveDone_flowQuiet (s : State) : FlowQuiet s (saveDone s) := by
  unfold saveDone
  split <;> exact .of (by simp)

/-- R38, R19, R10: every piece of work keeps the three laws. -/
theorem Work.keepsFlow {s t : State} (h : FlowLaw s) (hstore : StoreLaw s) (w : Work s t) : FlowLaw t := by
  cases w with
  | none => exact h
  | dropStation st k => exact FlowQuiet.keeps (t := Machine.dropStation st k s) (.of (by simp)) h
  | dropHall k => exact FlowQuiet.keeps (t := Machine.dropHall k s) (.of (by simp)) h
  | keepAlive st ph => exact acceptKeepAlive_keepsFlow h st ph
  | ask sl asked floor urgency hlive hceiling hasked =>
    exact applyAsk_keepsFlow h hlive (Nat.pos_of_ne_zero hceiling) (ceiling_le_askedMost hstore.1 sl)
      (Nat.pos_of_ne_zero hasked)
  | endEntry sl hlive => exact endEntry_keepsFlow h hlive
  | storeRequest st m estimate urgency hlive => exact acceptAsk_keepsFlow h hlive _
  | go st r k w hr => exact (openGate_flowQuiet hr k _).keeps h
  | lateDelivered st => exact (setLate_flowQuiet st _ s).keeps h
  | done st r k => exact finaliseEvent_keepsFlow h _ r k .done
  | cancelPending st => exact ((removeRequest_flowQuiet _ s).trans (arbitrate_flowQuiet _)).keeps h
  | cancelOffered st => exact ((removeRequest_flowQuiet _ s).trans (chuteFreed_flowQuiet _)).keeps h
  | storeItem i v => exact storeItem_keepsFlow h i v
  | load n => exact loadProfile_keepsFlow h _
  | selectFactory => exact FlowQuiet.keeps (t := Machine.selectFactory s) (.of (by simp)) h
  | startSave n => exact FlowQuiet.keeps (t := Machine.startSave n s) (.of (by simp)) h
  | backwash => exact startBackwash_keepsFlow h
  | waitBackwash => exact FlowQuiet.keeps (t := setPendingFlag true s) (.of (by simp)) h
  | fleeceIndex => exact FlowQuiet.keeps (t := startFleeceIndex s) (.of (by simp)) h
  | loadFleece n => exact loadFleece_keepsFlow h n
  | hold => exact ((setMode_flowQuiet _ s).trans (withdrawEvent_flowQuiet _)).keeps h
  | modeSet m => exact ((setMode_flowQuiet m s).trans (tryIndexStart_flowQuiet _)).keeps h
  | modeFed m =>
    exact (((setMode_flowQuiet m s).trans (feedEvaluation_flowQuiet _)).trans (tryIndexStart_flowQuiet _)).keeps h
  | survey => exact (arbitrate_flowQuiet _).keeps h
  | flush => exact (startStep_flowQuiet _ _).keeps h
  | retryStep n => exact (startStep_flowQuiet n s).keeps h
  | clearRetry x => exact (clearRetry_flowQuiet x s).keeps h
  | clearReject x => exact (clearReject_flowQuiet x s).keeps h
  | emptyBin b => exact (emptyBin_flowQuiet b s).keeps h
  | addCause => exact addCause_keepsFlow h .hall
  | removeCause => exact removeCause_keepsFlow h .hall
  | lineRestart => exact lineRestart_keepsFlow h
  | conversion raw => exact conversionCompletes_keepsFlow h raw
  | arbitration => exact (arbitrate_flowQuiet s).keeps h
  | offerLapses st =>
    exact (((removeRequest_flowQuiet _ s).trans (postStation_flowQuiet _ _ _)).trans (chuteFreed_flowQuiet _)).keeps h
  | gateTimesOut src r k => exact finaliseLate_keepsFlow ((postGateTimedOut_flowQuiet src s).keeps h) src r k _
  | dumpEnds r k => exact finaliseEvent_keepsFlow h .sludge r k .done
  | indexStart => exact (tryIndexStart_flowQuiet s).keeps h
  | sensor x => exact h
  | edge x => exact (indexEdge_flowQuiet (setSensor x s)).keeps h
  | stepFails => exact FlowQuiet.keeps (t := Machine.stepFails s) (.of (by simp)) h
  | feed => exact (feedEvaluation_flowQuiet s).keeps h
  | runUpCrush => exact FlowQuiet.keeps (t := enterCrushing s) (.of (by simp)) h
  | runUpAwait => exact FlowQuiet.keeps (t := enterIdleRun s) (.of (by simp)) h
  | runUpFeed =>
    exact FlowQuiet.keeps (FlowQuiet.trans (t := enterIdleRun s) (.of (by simp)) (feedEvaluation_flowQuiet _)) h
  | purge n target =>
    exact FlowQuiet.keeps (FlowQuiet.trans (t := finishPurge target s) (.of (by simp)) (feedEvaluation_flowQuiet _)) h
  | idle => exact FlowQuiet.keeps (t := enterRunDown s) (.of (by simp)) h
  | runDownRest => exact (enterStopped_flowQuiet s).keeps h
  | runDownUp => exact ((enterStopped_flowQuiet s).trans (enterRunUp_flowQuiet _)).keeps h
  | runDownFeed => exact ((enterStopped_flowQuiet s).trans (feedEvaluation_flowQuiet _)).keeps h
  | reverse => exact (enterRunUp_flowQuiet s).keeps h
  | feedEnd x => exact FlowQuiet.keeps (t := endOfFeed x s) (.of (by simp)) h
  | transitEnd x => exact FlowQuiet.keeps (t := endOfTransit x s) (.of (by simp)) h
  | shaftTurn => exact h
  | shaftWindow n ppr =>
    exact FlowQuiet.keeps (t := windowDone _ (setShaft (.counting 0 s.line.ppr Config.shaftWindow) s)) (.of (by simp)) h
  | chutePulse =>
    unfold chuteCounts
    split <;> exact h
  | fleeceTurn l m => exact meterPulse_keepsFlow h l m
  | fleeceStall => exact endFleeceIndex_keepsFlow ((postHall_flowQuiet _ s).keeps h)
  | backwashTimer => exact backwashEnds_keepsFlow h
  | settleTimer => exact h
  | gapTimer => exact tryPendingBackwash_keepsFlow h
  | pendingBackwash => exact tryPendingBackwash_keepsFlow h
  | sprayToggle =>
    unfold sprayToggles
    split <;> exact h
  | periodEnd => exact h
  | saveDone => exact (saveDone_flowQuiet s).keeps h
  | lapse st => exact lapse_keepsFlow h st
  | loss st hwatch => exact loss_keepsFlow h (by simp [hwatch])
  | monitor m good => exact h
  | dip m good => exact addCause_keepsFlow (s := setMonitor m good s) h .fieldSupply
  | recovery m good => exact removeCause_keepsFlow (s := setMonitor m good s) h .fieldSupply
  | powerOn v made => exact powerUp_flowLaw v made s
  | powerLoss => exact h
  | dutyElapsed sl =>
    simp only [dutyElapses]
    split <;> exact h

theorem request_tick (src : Source) (s : State) :
    (tick s).request src = (s.request src).map tickRequest :=
  PerSource.get_mapKeys (fun _ (r : Option DischargeRequest) => r.map tickRequest) s.arbiter.requests src

/-- The laws read no timer that a millisecond changes. -/
theorem tick_flowQuiet (s : State) : FlowQuiet s (tick s) where
  slots := rfl
  published := rfl
  watches st hst := by simpa [tick] using hst
  requests st hst := by
    rw [request_tick, hst]
    rfl
  band := rfl
  dpMark := rfl
  levelMark := rfl
  stop := rfl
  pMax := rfl

/-- Settles O56, by the induction over a step: every piece of work and a tick keep the three laws. -/
theorem stepKeepsTableLaw : Obligations.StepKeepsTableLaw := by
  unfold Obligations.StepKeepsTableLaw
  intro s t hsupply htable hunlive hstore hstep
  exact step_keeps (P := fun s => FlowLaw s ∧ StoreLaw s) (R := FlowLaw) (fun _ _ _ _ h => h) (fun _ _ _ _ h => h)
    (fun s t h w => w.keepsFlow h.1 h.2) (fun s h => (tick_flowQuiet s).keeps h.1)
    ⟨⟨hsupply, htable, hunlive⟩, hstore⟩ hstep

end Sys2Proof.Machine
end

section
/-! The profile store (O57): every value that is stored lies in its range and keeps the two orders. -/

namespace Sys2Proof.Machine

/-! ## One item replaced -/

theorem lineRange_nonneg {i : LineItem} {v : Int} (h : (lineItemRange i).least ≤ v) :
    i = .dpCal ∨ i = .levelCal ∨ 0 ≤ v := by
  cases i <;> simp [lineItemRange] at h ⊢ <;> omega

theorem LineParams.get_set {i : LineItem} {v : Int} (h : (lineItemRange i).least ≤ v) (j : LineItem) (l : LineParams) :
    (l.set i v).get j = if j = i then v else l.get j := by
  have hv := lineRange_nonneg h
  by_cases hj : j = i
  · subst hj
    rw [if_pos rfl]
    cases j <;> simp [LineParams.set, LineParams.get] at hv ⊢ <;> omega
  · rw [if_neg hj]
    cases i <;> cases j <;> first | rfl | exact absurd rfl hj

theorem chipFamilyCode_ofCode {v : Int} (h : 1 ≤ v ∧ v ≤ 3) : (chipFamilyCode (chipFamilyOfCode v) : Int) = v := by
  obtain rfl | rfl | rfl : v = 1 ∨ v = 2 ∨ v = 3 := by omega
  all_goals rfl

theorem formCode_ofCode {v : Int} (h : 1 ≤ v ∧ v ≤ 3) : (formCode (formOfCode v) : Int) = v := by
  obtain rfl | rfl | rfl : v = 1 ∨ v = 2 ∨ v = 3 := by omega
  all_goals rfl

theorem boolCode_decide {v : Int} (h : 0 ≤ v ∧ v ≤ 1) : (boolCode (decide (v ≠ 0)) : Int) = v := by
  obtain rfl | rfl : v = 0 ∨ v = 1 := by omega
  all_goals rfl

theorem StationItems.get_set {f : StationField} {v : Int}
    (h : (stationFieldRange f).least ≤ v ∧ v ≤ (stationFieldRange f).greatest) (g : StationField) (x : StationItems) :
    (x.set f v).get g = if g = f then v else x.get g := by
  by_cases hg : g = f
  · subst hg
    rw [if_pos rfl]
    cases g with
    | watchEnable => exact boolCode_decide h
    | floodLimit | spindleLimit | keepExponent => exact Int.toNat_of_nonneg h.1
  · rw [if_neg hg]
    cases f <;> cases g <;> first | rfl | exact absurd rfl hg

theorem MaterialEntry.get_set {m : Material} {f : MaterialField} {v : Int}
    (h : (materialFieldRange m f).least ≤ v ∧ v ≤ (materialFieldRange m f).greatest) (g : MaterialField)
    (x : MaterialEntry) : (x.set f v).get g = if g = f then v else x.get g := by
  by_cases hg : g = f
  · subst hg
    rw [if_pos rfl]
    cases g with
    | inUse => exact boolCode_decide h
    | family => exact chipFamilyCode_ofCode h
    | form => exact formCode_ofCode h
    | rate | speed | stall | purge => exact Int.toNat_of_nonneg (le_trans (by simp [materialFieldRange]) h.1)
  · rw [if_neg hg]
    cases f <;> cases g <;> first | rfl | exact absurd rfl hg

/-- R129: an item written reads as the value stored, and every other item as before. -/
theorem Profile.get_set {i : Item} {v : Int} (h : (itemRange i).least ≤ v ∧ v ≤ (itemRange i).greatest) (j : Item)
    (p : Profile) : (p.set i v).get j = if j = i then v else p.get j := by
  cases i with
  | line i =>
    cases j with
    | line j => simpa [Profile.set, Profile.get] using LineParams.get_set h.1 j p.line
    | station | vmax | level | material => rfl
  | station st f =>
    cases j with
    | station st' g =>
      simp only [Profile.set, Profile.get, PerStation.get_set]
      split
      · next hst => simpa [hst] using StationItems.get_set h g _
      · next hst => simp [hst]
    | line | vmax | level | material => rfl
  | vmax c =>
    cases j with
    | vmax c' =>
      have hv : (v.toNat : Int) = v := Int.toNat_of_nonneg (le_trans (by simp [itemRange]) h.1)
      simp only [Profile.set, Profile.get, PerSlot.get_set]
      split <;> simp_all
    | line | station | level | material => rfl
  | level k =>
    cases j with
    | level k' =>
      have hv : (v.toNat : Int) = v := Int.toNat_of_nonneg h.1
      simp only [Profile.set, Profile.get, PerHallKind.get_set]
      split <;> simp_all
    | line | station | vmax | material => rfl
  | material m f =>
    cases j with
    | material m' g =>
      simp only [Profile.set, Profile.get, PerMaterial.get_set]
      split
      · next hm => simpa [hm] using MaterialEntry.get_set h g _
      · next hm => simp [hm]
    | line | station | vmax | level => rfl

/-- R129: a write keeps the order of the items before Lmin. -/
theorem dpOrdered_set {i : Item} {v : Int} {p : Profile} (hfits : p.line.dpOrdered = true)
    (h : orderKept i (p.set i v) = true) : (p.set i v).line.dpOrdered = true := by
  cases i with
  | line i => cases i <;> first | exact h | exact hfits
  | station | vmax | level | material => exact hfits

theorem levelOrdered_set {i : Item} {v : Int} {p : Profile} (hfits : p.line.levelOrdered = true)
    (h : orderKept i (p.set i v) = true) : (p.set i v).line.levelOrdered = true := by
  cases i with
  | line i => cases i <;> first | exact h | exact hfits
  | station | vmax | level | material => exact hfits

/-- R125, R129: a profile fits with an item written in its range, the order of its group kept. -/
theorem Profile.fits_set {i : Item} {v : Int} {p : Profile} (hfits : p.fits)
    (h : (itemRange i).least ≤ v ∧ v ≤ (itemRange i).greatest) (horder : orderKept i (p.set i v) = true) :
    (p.set i v).fits := by
  obtain ⟨hranges, hdp, hlevel⟩ := hfits
  refine ⟨fun j => ?_, dpOrdered_set hdp horder, levelOrdered_set hlevel horder⟩
  rw [Profile.get_set h]
  split
  · next hj => exact hj ▸ h
  · exact hranges j

/-- R125: a line item of a fitting profile lies in its range. -/
theorem Profile.fits.line {p : Profile} (h : p.fits) (i : LineItem) :
    (lineItemRange i).least ≤ p.line.get i ∧ p.line.get i ≤ (lineItemRange i).greatest := h.1 (.line i)

/-- Table 07-3: the range of Mpocket. -/
theorem Profile.fits.mPocket {p : Profile} (h : p.fits) : 10 ≤ p.line.mPocket ∧ p.line.mPocket ≤ 80 := by
  simpa [lineItemRange, LineParams.get] using h.line .mPocket

/-- Table 07-3: the range of Msludge. -/
theorem Profile.fits.mSludge {p : Profile} (h : p.fits) : 10 ≤ p.line.mSludge ∧ p.line.mSludge ≤ 160 := by
  simpa [lineItemRange, LineParams.get] using h.line .mSludge

/-- Table 07-3: the range of Nretry. -/
theorem Profile.fits.nRetry {p : Profile} (h : p.fits) : 1 ≤ p.line.nRetry ∧ p.line.nRetry ≤ 5 := by
  simpa [lineItemRange, LineParams.get] using h.line .nRetry

/-- R125, R133: set 0 lies in the ranges and keeps the orders. -/
theorem factoryProfile_fits : factoryProfile.fits := by
  refine ⟨fun i => ?_, rfl, rfl⟩
  rw [← itemRange_factory]
  cases i with
  | line i => cases i <;> decide
  | station st f => cases f <;> simp [itemRange, stationFieldRange]
  | vmax c =>
    cases c with
    | station st c => cases st <;> cases c <;> decide
    | wash1 | wash2 => decide
  | level k => cases k <;> decide
  | material m f => cases m <;> cases f <;> decide

/-! ## The store -/

theorem StoreLaw.of_store {s t : State} (h : StoreLaw s) (heq : t.store = s.store) : StoreLaw t := by
  unfold StoreLaw
  rw [heq]
  exact h

theorem StoreLaw.profile {s : State} (h : StoreLaw s) (n : SetNumber) : (s.store.nonVolatile.profile n).fits := by
  obtain ⟨-, hset1, hset2, -⟩ := h
  cases n with
  | set0 => exact factoryProfile_fits
  | set1 => exact hset1
  | set2 => exact hset2

/-- R129, R134: a working copy that fits. -/
theorem setWorking_storeLaw {s : State} (h : StoreLaw s) {p : Profile} (hp : p.fits) : StoreLaw (setWorking p s) :=
  ⟨hp, h.2⟩

/-- R135: the two sets after a save. -/
theorem NonVolatile.write_fits {v : NonVolatile} {p : Profile} (hset1 : v.set1.fits) (hset2 : v.set2.fits)
    (hp : p.fits) (n : UserSet) : (v.write n p).set1.fits ∧ (v.write n p).set2.fits := by
  cases n with
  | set1 => exact ⟨hp, hset2⟩
  | set2 => exact ⟨hset1, hp⟩

theorem saveDone_storeLaw {s : State} (h : StoreLaw s) : StoreLaw (saveDone s) := by
  have hkept := h
  obtain ⟨hworking, hset1, hset2, hsave⟩ := h
  unfold saveDone
  split
  · exact hkept
  · next n content left hs =>
    obtain ⟨h1, h2⟩ := NonVolatile.write_fits hset1 hset2 (hsave n content left hs) n
    unfold StoreLaw
    simp only [postHall_store]
    exact ⟨hworking, h1, h2, fun _ _ _ hs => nomatch hs⟩

theorem powerUp_storeLaw {s : State} (h : StoreLaw s) (v : Nat) (made : Bool) : StoreLaw (powerUp v made s) := by
  have hfits := h.profile s.store.nonVolatile.selector
  have hon : StoreLaw (powerOnState s.store.nonVolatile (supplyReading v false) made s.ties s.pending) := by
    obtain ⟨-, hset1, hset2, -⟩ := h
    exact ⟨hfits, hset1, hset2, fun _ _ _ hs => nomatch hs⟩
  simp only [powerUp]
  split
  · exact hon
  · exact hon.of_store (by simp)

/-- R125: every piece of work keeps the profile store. -/
theorem Work.keepsStore {s t : State} (h : StoreLaw s) (w : Work s t) : StoreLaw t := by
  have hstore := h
  obtain ⟨hworking, hset1, hset2, hsave⟩ := h
  cases w with
  | storeItem i v hrange horder hring =>
    exact (setWorking_storeLaw hstore (Profile.fits_set hworking hrange horder)).of_store
      (by simp [Machine.storeItem])
  | load n hring => exact (setWorking_storeLaw hstore (hstore.profile n)).of_store (by simp [loadProfile])
  | selectFactory => exact ⟨hworking, hset1, hset2, hsave⟩
  | startSave n =>
    exact ⟨hworking, hset1, hset2, fun m p left hs => by
      obtain ⟨-, rfl, -⟩ := SaveState.saving.inj hs
      exact hworking⟩
  | saveDone => exact saveDone_storeLaw hstore
  | powerOn v made => exact powerUp_storeLaw hstore v made
  | powerLoss => exact ⟨hworking, hset1, hset2, fun _ _ _ hs => nomatch hs⟩
  | ask | endEntry => exact hstore.of_store (by simp [applyAsk, Machine.endEntry])
  | storeRequest => exact hstore.of_store (by simp [acceptAsk])
  | flush => exact hstore.of_store (by simp [startFlush])
  | clearRetry x =>
    refine hstore.of_store ?_
    simp only [Machine.clearRetry]
    split <;> simp
  | clearReject => exact hstore.of_store (by simp [Machine.clearReject])
  | emptyBin b => cases b <;> exact hstore.of_store (by simp [Machine.emptyBin])
  | conversion =>
    refine hstore.of_store ?_
    simp only [conversionCompletes]
    split <;> simp
  | gateTimesOut src => cases src <;> exact hstore.of_store (by simp [postGateTimedOut])
  | chutePulse =>
    refine hstore.of_store ?_
    unfold chuteCounts
    split <;> rfl
  | backwashTimer n hstate => exact hstore.of_store (by simp [backwashEnds, hstate])
  | gapTimer => exact hstore.of_store (by simp [gapEnds])
  | sprayToggle b n hspray => exact hstore.of_store (by simp [sprayToggles, hspray])
  | periodEnd => exact hstore.of_store rfl
  | dutyElapsed sl =>
    refine hstore.of_store ?_
    simp only [dutyElapses]
    split <;> rfl
  | _ => exact hstore.of_store (by simp)

theorem tick_storeLaw {s : State} (h : StoreLaw s) : StoreLaw (tick s) := by
  obtain ⟨hworking, hset1, hset2, hsave⟩ := h
  refine ⟨hworking, hset1, hset2, fun n p left hs => ?_⟩
  simp only [tick] at hs
  split at hs
  · next hs' =>
    obtain ⟨-, rfl, -⟩ := SaveState.saving.inj hs
    exact hsave _ _ _ hs'
  · cases hs

end Sys2Proof.Machine
end

section
/-! SUPPORT. What a step can do to discharges, ring, crusher, filter and drives, as a sequence of single acts: the
law of a block is checked once on each act, whatever rule or event performs it. -/

namespace Sys2Proof.Machine

/-! ## What the laws do not read -/

/-- What the laws of discharges, ring, crusher, filter and drives read is as it was; the channels keep their own law. -/
structure Quiet (s t : State) : Prop where
  requests : t.arbiter.requests = s.arbiter.requests
  queue : t.carousel.queue = s.carousel.queue
  counter : t.carousel.counter = s.carousel.counter
  requested : t.carousel.requested = s.carousel.requested
  index : t.carousel.index = s.carousel.index
  survey : t.carousel.survey = s.carousel.survey
  crusher : t.crusher.state = s.crusher.state
  slot : t.crusher.slot = s.crusher.slot
  awaited : t.crusher.awaited = s.crusher.awaited
  family : t.crusher.family = s.crusher.family
  filter : t.filter.state = s.filter.state
  flag : t.filter.pending = s.filter.pending
  trough : t.filter.troughFull = s.filter.troughFull
  fleece : t.filter.fleece = s.filter.fleece
  gates : t.drive.gates = s.drive.gates
  dumpValve : t.drive.dumpValve = s.drive.dumpValve
  binGate : t.drive.binGate = s.drive.binGate
  direction : t.drive.direction = s.drive.direction
  fleeceMotor : t.drive.fleeceMotor = s.drive.fleeceMotor
  step : t.drive.step = s.drive.step
  spray : t.drive.spray = s.drive.spray
  shaft : t.measure.shaft = s.measure.shaft
  chute : t.measure.chute.enabled = s.measure.chute.enabled
  stop : t.stop = s.stop
  working : t.store.working = s.store.working
  channels : (∀ sl, ChannelFits (s.drive.channels.get sl)) → ∀ sl, ChannelFits (t.drive.channels.get sl)

/-- The fields of the blocks that the laws read, the channels apart. -/
def SameBlocks (s t : State) : Prop :=
  t.arbiter.requests = s.arbiter.requests ∧ t.carousel.queue = s.carousel.queue ∧
    t.carousel.counter = s.carousel.counter ∧ t.carousel.requested = s.carousel.requested ∧
    t.carousel.index = s.carousel.index ∧ t.carousel.survey = s.carousel.survey ∧
    t.crusher.state = s.crusher.state ∧ t.crusher.slot = s.crusher.slot ∧ t.crusher.awaited = s.crusher.awaited ∧
    t.crusher.family = s.crusher.family ∧ t.filter.state = s.filter.state ∧ t.filter.pending = s.filter.pending ∧
    t.filter.troughFull = s.filter.troughFull ∧ t.filter.fleece = s.filter.fleece ∧ t.drive.gates = s.drive.gates ∧
    t.drive.dumpValve = s.drive.dumpValve ∧ t.drive.binGate = s.drive.binGate ∧
    t.drive.direction = s.drive.direction ∧ t.drive.fleeceMotor = s.drive.fleeceMotor ∧ t.drive.step = s.drive.step ∧
    t.drive.spray = s.drive.spray ∧ t.measure.shaft = s.measure.shaft ∧
    t.measure.chute.enabled = s.measure.chute.enabled ∧ t.stop = s.stop ∧ t.store.working = s.store.working

theorem Quiet.of_channels {s t : State} (h : SameBlocks s t)
    (hc : (∀ sl, ChannelFits (s.drive.channels.get sl)) → ∀ sl, ChannelFits (t.drive.channels.get sl)) : Quiet s t := by
  obtain ⟨h1, h2, h3, h4, h5, h6, h7, h8, h9, h10, h11, h12, h13, h14, h15, h16, h17, h18, h19, h20, h21, h22, h23, h24,
    h25⟩ := h
  exact ⟨h1, h2, h3, h4, h5, h6, h7, h8, h9, h10, h11, h12, h13, h14, h15, h16, h17, h18, h19, h20, h21, h22, h23, h24,
    h25, hc⟩

theorem Quiet.of {s t : State} (h : SameBlocks s t ∧ t.drive.channels = s.drive.channels) : Quiet s t :=
  .of_channels h.1 fun hc => h.2 ▸ hc

theorem Quiet.refl (s : State) : Quiet s s := .of (by simp [SameBlocks])

theorem Quiet.trans {s t u : State} (h : Quiet s t) (h' : Quiet t u) : Quiet s u :=
  .of_channels
    ⟨h'.requests.trans h.requests, h'.queue.trans h.queue, h'.counter.trans h.counter,
      h'.requested.trans h.requested, h'.index.trans h.index, h'.survey.trans h.survey, h'.crusher.trans h.crusher,
      h'.slot.trans h.slot, h'.awaited.trans h.awaited, h'.family.trans h.family, h'.filter.trans h.filter,
      h'.flag.trans h.flag, h'.trough.trans h.trough, h'.fleece.trans h.fleece, h'.gates.trans h.gates,
      h'.dumpValve.trans h.dumpValve, h'.binGate.trans h.binGate, h'.direction.trans h.direction,
      h'.fleeceMotor.trans h.fleeceMotor, h'.step.trans h.step, h'.spray.trans h.spray, h'.shaft.trans h.shaft,
      h'.chute.trans h.chute, h'.stop.trans h.stop, h'.working.trans h.working⟩
    fun hc => h'.channels (h.channels hc)

/-! ## The acts -/

/-- R106, R111: the crusher awaits a lot, and the index request stands. -/
def requestIndex (l : LotRecord) (s : State) : State :=
  { s with
    carousel := { s.carousel with requested := true }
    crusher := { s.crusher with awaited := some l.number } }

/-- R118: a rejected lot leaves the slot, the crusher stops, and the bin gate goes to REJECT. -/
def rejectSlot (s : State) : State :=
  let s' := enterStopped (setBinGate .reject (setSlot none s))
  { s' with crusher := { s'.crusher with family := none } }

/-- R90, R99: the last step of an index or of a flush: its edge ends it, or it was made in SUSPENDED. -/
inductive LastStep (s : State) : State → Prop
  | made (n t : Nat) (hindex : s.carousel.index = .indexing n t) : LastStep s (setStep false s)
  | before (n : Nat) (b : Bool) (hindex : s.carousel.index = .suspended n b) : LastStep s s

/-- A single act on the blocks of the line, with what is known where it is performed. -/
inductive Act (s : State) : State → Prop
  | quiet {t : State} (q : Quiet s t) : Act s t
  | startIndex (l : LotRecord) (rest : List LotRecord) (hmay : s.indexMayStart = true)
      (hqueue : s.carousel.queue = l :: rest) :
      Act s (startStep l.span
        { s with
          carousel := { s.carousel with
            queue := { l with stage := .tipping } :: rest, mode := s.carousel.mode.useRelease } })
  | askChips (l : LotRecord) (f : ChipFamily) (hhead : s.headLot = some l) (hstage : l.stage = .queued)
      (hmay : s.mayFeed = true) (hstate : ∃ n, s.crusher.state = .idleRun n) (hlot : l.family = .chip f)
      (hfamily : s.crusher.family = some f) : Act s (requestIndex l s)
  | askSludge (l : LotRecord) (hhead : s.headLot = some l) (hstage : l.stage = .queued) (hmay : s.mayFeed = true)
      (hstate : s.crusher.state = .stopped) (hlot : l.content = .sludge) : Act s (requestIndex l s)
  | withdraw (h : s.requestNotStarted = true) : Act s (withdrawRequest s)
  | nextStep (n t : Nat) (hindex : s.carousel.index = .indexing n t) : Act s (startStep (n - 1) (setStep false s))
  | resumeStep (n : Nat) (b : Bool) (hindex : s.carousel.index = .suspended n b) (hstop : s.inSafeStop = false) :
      Act s (startStep n s)
  | retryStep (n : Nat) (hindex : s.carousel.index = .faulted n) (hstop : s.inSafeStop = false) : Act s (startStep n s)
  | runOn (n : Nat) (hindex : s.carousel.index = .suspended n false) :
      Act s { s with carousel := { s.carousel with index := .suspended (n - 1) true } }
  | stepFails (n t : Nat) (hindex : s.carousel.index = .indexing n t) :
      Act s (setStep false { s with carousel := { s.carousel with index := .faulted n } })
  | arrive {u : State} (l : LotRecord) (rest : List LotRecord) (hlast : LastStep s u)
      (hsurvey : s.carousel.survey ≠ .flushing) (hqueue : s.carousel.queue = l :: rest) :
      Act s (lotArrives l (takeHead u))
  | noLot {u : State} (hlast : LastStep s u) (hsurvey : s.carousel.survey ≠ .flushing)
      (hqueue : s.carousel.queue = []) : Act s (takeHead u)
  | flushEnd {u : State} (hlast : LastStep s u) (hsurvey : s.carousel.survey = .flushing) :
      Act s (setFlap .crusher { u with carousel := { u.carousel with index := .idle, survey := .surveyed } })
  | survey (hsurvey : s.carousel.survey = .unsurveyed) :
      Act s { s with carousel := { s.carousel with survey := .surveyed } }
  | flush (hsurvey : s.carousel.survey = .unsurveyed) (hstop : s.inSafeStop = false) : Act s (startFlush s)
  | runUp (hstate : s.crusher.state ≠ .blocked)
      (hawait : ∀ l, s.crusher.awaited.bind s.queuedLot = some l → l.isSludge = true →
        s.crusher.slot ≠ none ∨ ∃ n, s.crusher.state = .reversing n) : Act s (enterRunUp s)
  | idleRun (n : Nat) (hstate : s.crusher.state = .runUp n) (hslot : s.crusher.slot = none) : Act s (enterIdleRun s)
  | runDown (n : Nat) (hstate : s.crusher.state = .idleRun n) : Act s (enterRunDown s)
  | stopped (hstate : s.crusher.state ≠ .blocked) : Act s (enterStopped s)
  | haltBlocked (hstate : s.crusher.state = .blocked) : Act s (driveCrusher .stopped none s)
  | crush (n : Nat) (x : SlotLot) (hstate : s.crusher.state = .runUp n) (hslot : s.crusher.slot = some x)
      (hlot : x.lot.isSludge = false) : Act s (enterCrushing s)
  | passThrough (x : SlotLot) (hstate : s.crusher.state = .stopped) (hslot : s.crusher.slot = some x)
      (hlot : x.lot.isSludge = true) : Act s (enterPassThrough s)
  | purge (n time : Nat) (target : ChipFamily) (hstate : s.crusher.state = .idleRun n) (hmay : s.mayFeed = true) :
      Act s (enterPurge time target s)
  | finishPurge (target : ChipFamily)
      (h : (∃ n, s.crusher.state = .purge n target) ∨ (∃ n, s.crusher.state = .idleRun n) ∧ s.mayFeed = true) :
      Act s (finishPurge target s)
  | jam (x : SlotLot) (hstate : s.crusher.state = .crushing) (hslot : s.crusher.slot = some x) : Act s (jam x s)
  | emptyCrushing (hstate : s.crusher.state = .crushing) : Act s (enterIdleRun (setSlot none s))
  | emptyPassThrough (hstate : s.crusher.state = .passThrough) : Act s (enterStopped (setSlot none s))
  | reject (hstate : s.crusher.state = .blocked) : Act s (rejectSlot s)
  | clearRetry (x : SlotLot) (hstate : s.crusher.state = .blocked) (hslot : s.crusher.slot = some x) :
      Act s (clearRetry x s)
  | shaft (n ppr left n' ppr' left' : Nat) (hshaft : s.measure.shaft = .counting n ppr left) :
      Act s (setShaft (.counting n' ppr' left') s)
  | choose (src : Source) (r : DischargeRequest) (hmay : s.mayArbitrate = true) (hr : s.request src = some r)
      (hstate : r.state = .pending) (hfree : requestSpan r.estimate s.line.mPocket ≤ s.freePockets) :
      Act s (choose src r (requestSpan r.estimate s.line.mPocket) s)
  | storeRequest (st : Station) (m : Material) (estimate urgency : Nat)
      (hcurrent : s.isCurrentSource (.station st) = false) (hestimate : estimate ≠ 0) :
      Act s (setPlace (.station st) (some ⟨.chips m, estimate, urgency, .pending⟩) s)
  | removeRequest (st : Station) (h : s.isOpen (.station st) = false) : Act s (setPlace (.station st) none s)
  | withdrawOffer (src : Source) (r : DischargeRequest) (k w : Nat) (hr : s.request src = some r)
      (hstate : r.state = .offered k w) : Act s (withdrawOffer src r s)
  | openGate (st : Station) (r : DischargeRequest) (k w : Nat) (hr : s.request (.station st) = some r)
      (hstate : r.state = .offered k w) : Act s (openGate (.station st) r k none s)
  | finalise (src : Source) (r : DischargeRequest) (k g : Nat) (d : Option Nat) (c : EndCause)
      (hr : s.request src = some r) (hstate : r.state = .opened k g d) : Act s (finalise src r k c s).1
  | backwashStarts (n : Nat) (hstate : s.filter.state = .filtering) (hallowed : s.backwashAllowed = true) :
      Act s (sprayOn { s with filter := { s.filter with state := .backwash n, pending := false } })
  | backwashEnds (n m : Nat) (hstate : s.filter.state = .backwash n) :
      Act s (storeSludge (sprayOff
        { s with filter := { s.filter with state := .settle (some m), troughFull := true, gap := 0 } }))
  | settle (n m : Option Nat) (hstate : s.filter.state = .settle n) : Act s (setFilterState (.settle m) s)
  | settled (n : Option Nat) (hstate : s.filter.state = .settle n) : Act s (setFilterState .filtering s)
  | flag (hstate : s.filter.state = .filtering ∨ ∃ n, s.filter.state = .settle n) : Act s (setPendingFlag true s)
  | fleeceIndex (hstate : s.filter.state = .filtering ∨ ∃ n, s.filter.state = .settle n)
      (hfleece : s.filter.fleece ≠ some 0) (hstop : s.inSafeStop = false) : Act s (startFleeceIndex s)
  | fleeceTurn (l m n m' n' : Nat) (f : Option Nat) (hstate : s.filter.state = .indexing l m n) (hf : f ≠ some 0) :
      Act s { s with filter := { s.filter with state := .indexing l m' n', fleece := f } }
  | fleeceEnds (l m n : Nat) (f : Option Nat) (hstate : s.filter.state = .indexing l m n) :
      Act s (setFleeceMotor false { s with filter := { s.filter with state := .filtering, fleece := f } })
  | fleeceLoaded (n : Nat) (h : n ≠ 0 ∨ ∀ l m k, s.filter.state ≠ .indexing l m k) :
      Act s { s with filter := { s.filter with fleece := some n } }
  | sprayTurn (b b' : Bool) (n n' : Nat) (hspray : s.drive.spray = .on b n) :
      Act s { s with drive := { s.drive with spray := .on b' n' } }
  | causes (c : StopCauses) (h : ({ s with stop := c } : State).inSafeStop = true → s.inSafeStop = true) :
      Act s { s with stop := c }
  | stopEntry (c : StopCauses) (hstop : s.inSafeStop = false) (hc : ({ s with stop := c } : State).inSafeStop = true) :
      Act s (enterSafeStop { s with stop := c })
  | restart : Act s (repostSludge (filterRestart (arbiterRestart (restartStations s))))

/-- A sequence of acts. -/
abbrev Acts : State → State → Prop := Relation.ReflTransGen Act

/-- What every act keeps is kept by a sequence of them. -/
theorem Acts.keeps {L : State → Prop} (hact : ∀ s t, L s → Act s t → L t) {s t : State} (h : Acts s t) (hs : L s) :
    L t := by
  induction h with
  | refl => exact hs
  | tail _ hlast ih => exact hact _ _ ih hlast

theorem Act.acts {s t : State} (h : Act s t) : Acts s t := .single h

theorem Quiet.acts {s t : State} (q : Quiet s t) : Acts s t := .single (.quiet q)

/-! ## Figure, stations and events -/

theorem targetDuty_le (granted vmax : Nat) : targetDuty granted vmax ≤ 1000 := Nat.min_le_left _ _

/-- R154: a channel whose target has been compared holds the change on its own side. -/
theorem stageChannel_fits {target : Nat} (htarget : target ≤ 1000) {c : Channel} (h : ChannelFits c) :
    ChannelFits (stageChannel target c) := by
  refine ⟨h.1, ?_⟩
  simp only [stageChannel]
  split_ifs with hlt hgt
  · exact hlt
  · exact ⟨hgt, htarget⟩
  · trivial

/-- R13, R20: a pass touches the table, the channels and the events alone. -/
theorem Passed.quiet {before table : PerSlot (Option Entry)} {s t : State} (h : Passed before table s t)
    (hframe : t.arbiter = s.arbiter ∧ t.carousel = s.carousel ∧ t.crusher = s.crusher ∧ t.filter = s.filter ∧
      t.measure = s.measure ∧ t.stop = s.stop ∧ t.store = s.store) : Quiet s t := by
  obtain ⟨-, hchannels, hdrive, -, -⟩ := h
  obtain ⟨harbiter, hcarousel, hcrusher, hfilter, hmeasure, hstop, hstore⟩ := hframe
  refine .of_channels ?_ fun hfits sl => ?_
  · unfold SameBlocks
    rw [hdrive]
    simp [harbiter, hcarousel, hcrusher, hfilter, hmeasure, hstop, hstore]
  · rw [hchannels]
    exact stageChannel_fits (targetDuty_le _ _) (hfits sl)

theorem publish_quiet (figure : Nat) (s : State) : Quiet s (publish figure s) :=
  (publish_passed figure s).quiet (by simp)

theorem recompute_quiet (s : State) : Quiet s (recompute s) := by
  rcases recompute_cases s with ⟨heq, -⟩ | ⟨b, -, heq⟩ <;> rw [heq]
  · exact .refl s
  · exact publish_quiet _ s

theorem publishForced_quiet (s : State) : Quiet s (publishForced s) := by
  unfold publishForced
  split <;> exact publish_quiet _ s

end Sys2Proof.Machine
end

section
/-! SUPPORT. The operations of the blocks as sequences of acts. -/

namespace Sys2Proof.Machine

/-! ## Events, and the table -/

theorem postHall_quiet (k : HallKind) (s : State) : Quiet s (postHall k s) := .of (by simp [SameBlocks])

theorem postStation_quiet (st : Station) (k : StationKind) (s : State) : Quiet s (postStation st k s) :=
  .of (by simp [SameBlocks])

theorem setWatch_quiet (st : Station) (w : Watch) (s : State) : Quiet s (setWatch st w s) := .of (by simp [SameBlocks])

theorem setLate_quiet (st : Station) (o : Option Outcome) (s : State) : Quiet s (setLate st o s) :=
  .of (by simp [SameBlocks])

theorem tableEvent_quiet (f : PerSlot (Option Entry) → PerSlot (Option Entry)) (s : State) :
    Quiet s (tableEvent f s) := (tableEvent_passed f s).quiet (by simp)

theorem acceptKeepAlive_quiet (st : Station) (ph : Phase) (s : State) : Quiet s (acceptKeepAlive st ph s) := by
  simp only [acceptKeepAlive]
  split
  · exact (setWatch_quiet _ _ s).trans (tableEvent_quiet _ _)
  · exact setWatch_quiet _ _ s

theorem applyWatch_quiet (st : Station) (s : State) : Quiet s (applyWatch st s) := by
  simp only [applyWatch]
  split
  · exact (setWatch_quiet _ _ s).trans (tableEvent_quiet _ _)
  · exact setWatch_quiet _ _ s

/-! ## Carousel and crusher -/

theorem tryIndexStart_acts (s : State) : Acts s (tryIndexStart s) := by
  unfold tryIndexStart
  split
  · next hmay =>
    split
    · exact .refl
    · next l rest hqueue => exact (Act.startIndex l rest hmay hqueue).acts
  · exact .refl

theorem askForIndex_eq {l : LotRecord} {s : State} (hhead : s.headLot = some l) (hstage : l.stage = .queued) :
    askForIndex l s = tryIndexStart (requestIndex l s) := by
  have hhead' : ({ s with crusher := { s.crusher with awaited := some l.number } } : State).headLot = some l := hhead
  simp only [askForIndex, takeIndexRequest, hhead', if_pos hstage]
  rfl

theorem askForIndex_acts {l : LotRecord} {s : State} (hhead : s.headLot = some l) (hstage : l.stage = .queued)
    (hact : Act s (requestIndex l s)) : Acts s (askForIndex l s) := by
  rw [askForIndex_eq hhead hstage]
  exact hact.acts.trans (tryIndexStart_acts _)

theorem askForChips_acts {l : LotRecord} {c : ChipCopies} {s : State} (hhead : s.headLot = some l)
    (hstage : l.stage = .queued) (hmay : s.mayFeed = true) (hstate : ∃ n, s.crusher.state = .idleRun n)
    (hlot : l.family = .chip c.family) (hfamily : s.crusher.family = some c.family) : Acts s (askForChips l c s) := by
  have q : Quiet s (setSpeed (some c.speed) (setFlap .crusher s)) := .of (by simp [SameBlocks])
  exact q.acts.trans (askForIndex_acts hhead hstage (.askChips l c.family hhead hstage hmay hstate hlot hfamily))

theorem finishPurge_crusher (target : ChipFamily) (s : State) :
    (finishPurge target s).crusher.family = some target ∧
      (∃ n, (finishPurge target s).crusher.state = .idleRun n) ∧
      (finishPurge target s).crusher.slot = s.crusher.slot ∧
      (finishPurge target s).crusher.awaited = s.crusher.awaited ∧
      (finishPurge target s).drive.binGate = .bin target := by
  simp [finishPurge, enterIdleRun]

theorem finishPurge_mayFeed (target : ChipFamily) (s : State) : (finishPurge target s).mayFeed = s.mayFeed := by
  obtain ⟨-, -, hslot, hawaited, -⟩ := finishPurge_crusher target s
  simp [State.mayFeed, State.inSafeStop, hslot, hawaited]

theorem feedChips_acts {l : LotRecord} {m : Material} {c : ChipCopies} {s : State} (hhead : s.headLot = some l)
    (hstage : l.stage = .queued) (hmay : s.mayFeed = true) (hfree : s.crusher.state.isFree = true)
    (hcontent : l.content = .chips m c) : Acts s (feedChips l c s) := by
  have hlot : l.family = .chip c.family := by simp [LotRecord.family, hcontent]
  obtain ⟨-, hawaited, -⟩ := (mayFeed_iff s).mp (by simp [hmay, hfree])
  unfold feedChips
  split
  · next hstate => exact (Act.runUp (by simp [hstate]) (by simp [hawaited])).acts
  · next n hstate =>
    split_ifs with hfamily htime
    · exact askForChips_acts hhead hstage hmay ⟨n, hstate⟩ hlot hfamily
    · obtain ⟨hfamily', hstate', -⟩ := finishPurge_crusher c.family s
      have hhead' : (finishPurge c.family s).headLot = some l := by simpa [State.headLot] using hhead
      have hmay' : (finishPurge c.family s).mayFeed = true := (finishPurge_mayFeed _ s).trans hmay
      exact (Act.finishPurge c.family (.inr ⟨⟨n, hstate⟩, hmay⟩)).acts.trans
        (askForChips_acts hhead' hstage hmay' hstate' hlot hfamily')
    · exact (Act.purge n _ _ hstate hmay).acts
  · exact .refl

theorem feedSludge_acts {l : LotRecord} {s : State} (hhead : s.headLot = some l)
    (hstage : l.stage = .queued) (hmay : s.mayFeed = true) (hcontent : l.content = .sludge) :
    Acts s (feedSludge l s) := by
  unfold feedSludge
  split
  · next hstate =>
    have q : Quiet s (setFlap .sludge s) := .of (by simp [SameBlocks])
    exact q.acts.trans (askForIndex_acts hhead hstage (.askSludge l hhead hstage hmay hstate hcontent))
  · next n hstate => exact (Act.runDown n hstate).acts
  · exact .refl

theorem feedEvaluation_acts (s : State) : Acts s (feedEvaluation s) := by
  unfold feedEvaluation
  split
  next hmay =>
    obtain ⟨hmay, hfree⟩ := Bool.and_eq_true_iff.mp hmay
    split
    · exact .refl
    next l hhead =>
      split_ifs with hstage hfull
      · have q : Quiet s (waitForBin l.family s) := by
          unfold waitForBin
          split
          · exact .refl s
          · exact .of (by simp [SameBlocks])
        exact q.acts
      · have q : Quiet s (endBinWait s) := .of (by simp [SameBlocks])
        split
        · next m c hcontent => exact q.acts.trans (feedChips_acts hhead hstage hmay hfree hcontent)
        · next hcontent => exact q.acts.trans (feedSludge_acts hhead hstage hmay hcontent)
      · exact .refl
  · exact .refl

/-! ## Arbiter -/

theorem arbitrate_acts (s : State) : Acts s (arbitrate s) := by
  rcases arbitrate_cases s with h | ⟨src, r, hmay, hr, hstate, hfree, h⟩ <;> rw [h]
  exact (Act.choose src r hmay hr hstate hfree).acts

theorem chuteFreed_acts (s : State) : Acts s (chuteFreed s) := (tryIndexStart_acts s).trans (arbitrate_acts _)

/-- R70: only an offer is displaced. -/
theorem displaced_offered {src : Source} {urgency : Nat} {c : Source × DischargeRequest}
    (h : displaced src urgency c = true) : ∃ k w, c.2.state = .offered k w := by
  unfold displaced at h
  split at h
  · next k w hstate => exact ⟨k, w, hstate⟩
  · cases h

theorem afterRequest_acts (src : Source) (urgency : Nat) (s : State) : Acts s (afterRequest src urgency s) := by
  unfold afterRequest
  split
  · next c hc =>
    split
    · next hdisplaced =>
      obtain ⟨k, w, hstate⟩ := displaced_offered hdisplaced
      exact (Act.withdrawOffer _ _ k w (current_some hc).1 hstate).acts.trans (chuteFreed_acts _)
    · exact arbitrate_acts s
  · exact arbitrate_acts s

/-! ## Filter -/

theorem startBackwash_acts {s : State} (hstate : s.filter.state = .filtering) (hallowed : s.backwashAllowed = true) :
    Acts s (startBackwash s) := by
  have q : ∀ t, Quiet t (recompute (copyBackwashDp t)) := fun t =>
    Quiet.trans (t := copyBackwashDp t) (.of (by simp [SameBlocks])) (recompute_quiet _)
  exact (Act.backwashStarts _ hstate hallowed).acts.trans (q _).acts

theorem tryPendingBackwash_acts (s : State) : Acts s (tryPendingBackwash s) := by
  unfold tryPendingBackwash
  split
  · next h =>
    simp only [Bool.and_eq_true, decide_eq_true_eq] at h
    obtain ⟨⟨⟨hstate, -⟩, -⟩, hallowed⟩ := h
    exact startBackwash_acts hstate hallowed
  · exact .refl

theorem testTrigger_acts {s : State} (hstate : s.filter.state = .filtering) : Acts s (testTrigger s) := by
  unfold testTrigger
  split_ifs with htrigger hallowed
  · exact startBackwash_acts hstate (Bool.and_eq_true_iff.mp hallowed).2
  · unfold deferBackwash
    split
    · exact (Act.flag (.inl hstate)).acts
    · exact (postHall_quiet _ s).acts.trans (Act.flag (.inl (by simpa using hstate))).acts
  · exact .refl

theorem settleDecision_acts {s : State} (hstate : s.filter.state = .settle none) : Acts s (settleDecision s) := by
  have hsettled : Acts s (recompute (setFilterState .filtering s)) :=
    (Act.settled none hstate).acts.trans (recompute_quiet _).acts
  unfold settleDecision
  split_ifs with hstop hpending hdegraded hindex hfleece
  · exact hsettled
  · refine hsettled.trans (startBackwash_acts (by simp) ?_)
    simp only [Bool.and_eq_true, Bool.not_eq_true'] at hpending
    obtain ⟨⟨-, htrough⟩, -⟩ := hpending
    simpa [State.backwashAllowed, State.inSafeStop, htrough] using hstop
  · exact hsettled
  · exact hsettled.trans (postHall_quiet _ _).acts
  · exact (Act.fleeceIndex (.inr ⟨_, hstate⟩) hfleece (Bool.eq_false_iff.mpr hstop)).acts.trans (recompute_quiet _).acts
  · exact hsettled

theorem filterDpSample_acts (s : State) : Acts s (filterDpSample s) := by
  unfold filterDpSample
  split
  · next hstate => exact testTrigger_acts hstate
  · next hstate => exact settleDecision_acts hstate
  · exact .refl

/-- R51: an index that ends, whatever fleece remains. -/
theorem endFleeceIndex_acts {l m n : Nat} {s t : State} (f : Option Nat) (hstate : s.filter.state = .indexing l m n)
    (q : Quiet (setFleeceMotor false { s with filter := { s.filter with state := .filtering, fleece := f } })
      (setFleeceMotor false (setFilterState .filtering t))) : Acts s (endFleeceIndex t) :=
  ((Act.fleeceEnds l m n f hstate).acts.trans q.acts).trans (tryPendingBackwash_acts _)

theorem meterPulse_acts {l m n : Nat} {s : State} (hstate : s.filter.state = .indexing l m n) :
    Acts s (meterPulse l m s) := by
  simp only [meterPulse]
  split_ifs with hout hlength
  · exact endFleeceIndex_acts (fleeceAfterPulse s.filter.fleece) hstate (.of (by simp [SameBlocks]))
  · exact endFleeceIndex_acts (fleeceAfterPulse s.filter.fleece) hstate (.of (by simp [SameBlocks]))
  · refine (Act.fleeceTurn l m n (m + 1) Config.fleeceStall _ hstate hout).acts.trans (Quiet.acts ?_)
    exact .of (by simp [SameBlocks])

theorem loadFleece_acts (n : Nat) (s : State) : Acts s (loadFleece n s) := by
  simp only [loadFleece]
  split
  · next l m k hstate =>
    split
    · exact endFleeceIndex_acts (some n) hstate (.refl _)
    · next hn => exact (Act.fleeceLoaded n (.inl hn)).acts
  · next hstate => exact (Act.fleeceLoaded n (.inr hstate)).acts

/-! ## Finalisation -/

theorem headAppears_acts (wasEmpty : Bool) (s : State) : Acts s (headAppears wasEmpty s) := by
  unfold headAppears
  split
  · exact feedEvaluation_acts s
  · exact .refl

theorem troughEmptied_acts (src : Source) (s : State) : Acts s (troughEmptied src s) := by
  cases src with
  | station st => exact .refl
  | sludge => exact tryPendingBackwash_acts s

theorem afterFinalise_acts (src : Source) (wasEmpty : Bool) (s : State) : Acts s (afterFinalise src wasEmpty s) :=
  ((headAppears_acts wasEmpty s).trans (troughEmptied_acts src _)).trans (chuteFreed_acts _)

theorem finaliseEvent_acts {src : Source} {r : DischargeRequest} {k g : Nat} {d : Option Nat} {s : State}
    (hr : s.request src = some r) (hstate : r.state = .opened k g d) (c : EndCause) :
    Acts s (finaliseEvent src r k c s).1 :=
  (Act.finalise src r k g d c hr hstate).acts.trans (afterFinalise_acts _ _ _)

theorem keepLate_quiet (src : Source) (o : Outcome) (s : State) : Quiet s (keepLate src o s) := by
  cases src with
  | station st => exact setLate_quiet _ _ s
  | sludge => exact .refl s

theorem finaliseLate_acts {src : Source} {r : DischargeRequest} {k g : Nat} {d : Option Nat} {s : State}
    (hr : s.request src = some r) (hstate : r.state = .opened k g d) (c : EndCause) :
    Acts s (finaliseLate src r k c s) :=
  (finaliseEvent_acts hr hstate c).trans (keepLate_quiet _ _ _).acts

theorem isOpen_of_request {src : Source} {r : DischargeRequest} {s : State} (hr : s.request src = some r)
    (hstate : ∀ k g d, r.state ≠ .opened k g d) : s.isOpen src = false := by
  unfold State.isOpen
  split
  · next k g d hopen =>
    simp only [hr, Option.map_some, Option.some.injEq] at hopen
    exact absurd hopen (hstate k g d)
  · rfl

theorem arbiterLapse_acts (st : Station) (s : State) : Acts s (arbiterLapse st s) := by
  unfold arbiterLapse
  split
  · exact arbitrate_acts s
  · next r hr =>
    split
    · next hstate =>
        exact (Act.removeRequest st (isOpen_of_request hr (by simp [hstate]))).acts.trans (arbitrate_acts _)
    · next hstate =>
        exact (Act.removeRequest st (isOpen_of_request hr (by simp [hstate]))).acts.trans (chuteFreed_acts _)
    · next hstate => exact finaliseLate_acts hr hstate _

/-! ## Ring -/

theorem completeIndex_acts {s u : State} (hlast : LastStep s u) (hsurvey : s.carousel.survey ≠ .flushing) :
    Acts s (completeIndex u) := by
  have hqueue : u.carousel.queue = s.carousel.queue := by cases hlast <;> rfl
  unfold completeIndex
  split
  · next hnone => exact (Act.noLot hlast hsurvey (hqueue ▸ hnone)).acts
  · next l rest hsome =>
    exact ((Act.arrive l rest hlast hsurvey (hqueue ▸ hsome)).acts.trans (feedEvaluation_acts _)).trans
      (arbitrate_acts _)

theorem lastStepMade_acts {s u : State} (hlast : LastStep s u) : Acts s (lastStepMade u) := by
  have hsurvey : u.carousel.survey = s.carousel.survey := by cases hlast <;> rfl
  unfold lastStepMade
  split
  · next h => exact (Act.flushEnd hlast (hsurvey ▸ h)).acts.trans (arbitrate_acts _)
  · next h => exact completeIndex_acts hlast (hsurvey ▸ h)

theorem indexEdge_acts (s : State) : Acts s (indexEdge s) := by
  unfold indexEdge
  split
  · next n t hindex =>
    split
    · exact lastStepMade_acts (.made n t hindex)
    · exact (Act.nextStep n t hindex).acts
  · next n hindex => exact (Act.runOn n hindex).acts
  · exact .refl

theorem withdrawRequest_acts (s : State) : Acts s (withdrawRequest s) := by
  by_cases h : s.requestNotStarted = true
  · exact (Act.withdraw h).acts
  · rw [withdrawRequest, if_neg h]

theorem withdrawn_acts (s : State) : Acts s (arbitrate (feedEvaluation (withdrawRequest s))) :=
  ((withdrawRequest_acts s).trans (feedEvaluation_acts _)).trans (arbitrate_acts _)

theorem withdrawEvent_acts (s : State) : Acts s (withdrawEvent s) := by
  unfold withdrawEvent
  split
  · exact withdrawn_acts s
  · exact .refl

theorem capacitiesWritten_acts (bins : List Family) (s : State) : Acts s (capacitiesWritten bins s) := by
  rcases capacitiesWritten_cases bins s with h | ⟨-, h⟩ <;> rw [h]
  · exact feedEvaluation_acts s
  · exact withdrawn_acts s

/-! ## Safe stop and restart -/

theorem carouselStopExit_acts {s : State} (hstop : s.inSafeStop = false) : Acts s (carouselStopExit s) := by
  unfold carouselStopExit
  split
  · next n b hindex =>
    split
    · exact lastStepMade_acts (.before n b hindex)
    · exact (Act.resumeStep n b hindex hstop).acts
  · exact tryIndexStart_acts s
  · exact .refl

theorem crusherGoOn_acts (s : State) : Acts s (crusherGoOn s) := by
  unfold crusherGoOn
  split
  · next hstate =>
    have hrun := fun h => (Act.runUp (s := s) (by simp [hstate]) h).acts
    split
    · next x hslot =>
      split
      · next hlot => exact (Act.passThrough x hstate hslot hlot).acts
      · exact hrun fun _ _ _ => .inl (by simp [hslot])
    · split
      · next n hawaited =>
        split
        · next l hl =>
          split
          · exact .refl
          · next hlot =>
            refine hrun fun l' hl' hsludge => ?_
            simp only [hawaited, Option.bind_some, hl, Option.some.injEq] at hl'
            exact absurd (hl' ▸ hsludge) hlot
        · exact .refl
      · exact feedEvaluation_acts s
  · exact .refl

theorem exitSafeStop_acts {s : State} (hstop : s.inSafeStop = false) : Acts s (exitSafeStop s) := by
  have hstop' : (arbitrate (recompute s)).inSafeStop = false := by simpa [State.inSafeStop] using hstop
  exact ((((recompute_quiet s).acts.trans (arbitrate_acts _)).trans (carouselStopExit_acts hstop')).trans
    (crusherGoOn_acts _)).trans (tryPendingBackwash_acts _)

/-- R173: the line is in safe stop where a cause is present. -/
theorem StopCauses.inSafeStop_put (k : StopCause) (o : Option StopCause) (s : State) :
    ({ s with stop := { s.stop.put k true with last := o } } : State).inSafeStop = true := by
  cases k <;> simp [State.inSafeStop, StopCauses.put]

theorem addCause_acts (k : StopCause) (s : State) : Acts s (addCause k s) := by
  simp only [addCause]
  split_ifs with hhas hstop
  · exact .refl
  · exact (Act.causes _ fun _ => hstop).acts
  · exact (Act.stopEntry _ (Bool.eq_false_iff.mpr hstop) (StopCauses.inSafeStop_put k _ s)).acts

theorem removeCause_acts (k : StopCause) (s : State) : Acts s (removeCause k s) := by
  simp only [removeCause]
  split_ifs with hhas hstop
  · exact (Act.causes _ fun _ => inSafeStop_of_has hhas).acts
  · exact (Act.causes _ fun _ => inSafeStop_of_has hhas).acts.trans (exitSafeStop_acts (Bool.eq_false_iff.mpr hstop))
  · exact .refl

theorem crusherHalt_acts (s : State) : Acts s (crusherHalt s) := by
  unfold crusherHalt
  split
  · next h => exact (Act.haltBlocked h).acts
  · next h => exact (Act.stopped h).acts

theorem restartPendingStart_acts (before s : State) : Acts s (restartPendingStart before s) := by
  unfold restartPendingStart
  split
  · exact tryPendingBackwash_acts s
  · exact .refl

theorem restartEnd_acts (s : State) : Acts s (restartEnd s) := by
  have hmode : ∀ u : State, Acts u (carouselRestart u) := fun u => by
    have q : Quiet u { u with carousel := { u.carousel with mode := .run } } := .of (by simp [SameBlocks])
    exact q.acts.trans (withdrawRequest_acts _)
  have hhalt : ∀ u : State, Acts u (crusherRestart u) := fun u => by
    have q : Quiet u { u with crusher := { u.crusher with stallCount := 0, binWait := none } } :=
      .of (by simp [SameBlocks])
    exact q.acts.trans (crusherHalt_acts _)
  have hclear : ∀ u : State, Quiet u (emptyEventSets (clearDiscards u)) := fun u => .of (by simp [SameBlocks])
  exact ((((Act.restart.acts.trans (restartPendingStart_acts s _)).trans (hmode _)).trans (hhalt _)).trans
    (hclear _).acts)

theorem lineRestart_acts (s : State) : Acts s (lineRestart s) := by
  have hgoOn : ∀ u : State, Acts u (crusherAfterRestart u) := fun u => by
    unfold crusherAfterRestart
    split
    · exact .refl
    · exact crusherGoOn_acts u
  exact (((restartEnd_acts s).trans (publishForced_quiet _).acts).trans (arbitrate_acts _)).trans (hgoOn _)

end Sys2Proof.Machine
end

section
/-! SUPPORT. Every piece of work as a sequence of acts, but for a write of the working copy and for power-on, which
come first where they come; and what a law needs to be kept by a step. -/

namespace Sys2Proof.Machine

/-! ## The working copy -/

/-- R130: the hand-over of a line item, but for the retry limit. -/
theorem handOverLine_acts {i : LineItem} (hi : i ≠ .nRetry) (s : State) : Acts s (handOverLine i s) := by
  have hband : Quiet s (reevaluateBand s) := .of (by simp [SameBlocks])
  cases i with
  | crated | dpClean | dpLimit | bwKeep | bMax | pMax => exact (recompute_quiet s).acts
  | lMin | lLo | lHi | hyst => exact (hband.trans (recompute_quiet _)).acts
  | bwGap => exact tryPendingBackwash_acts s
  | mPocket | inService => exact arbitrate_acts s
  | nRetry => exact absurd rfl hi
  | cBinLight | cBinFerrous | cBinHard | cBinSludge => exact capacitiesWritten_acts _ s
  | dpTrigger | supplyStep | lFull | dpIndex | bwTime | tSettle | mSludge | lIdx | lWarn | tSpray | tOffer | tGate
  | tDump | ppk | tIdx | tRunUp | tRunDown | tRev | tIdle | tTransit | ppr | dpCal | levelCal => exact .refl

theorem levelWritten_quiet (k : HallKind) (s : State) : Quiet s (levelWritten k s) := .of (by simp [SameBlocks])

theorem handOver_acts {i : Item} (hi : i ≠ .line .nRetry) (s : State) : Acts s (handOver i s) := by
  cases i with
  | line i => exact handOverLine_acts (fun h => hi (h ▸ rfl)) s
  | station st f =>
    cases f with
    | watchEnable => exact (applyWatch_quiet st s).acts
    | floodLimit | spindleLimit | keepExponent => exact .refl
  | level k => exact (levelWritten_quiet k s).acts
  | vmax | material => exact .refl

/-- R134: what a load does before the retry limit acts. -/
def loadBefore (p : Profile) (s : State) : State :=
  loadArbiter s.line (tryPendingBackwash (loadSupply s.line (setWorking p s)))

theorem loadSupply_acts (old : LineParams) (s : State) : Acts s (loadSupply old s) := by
  have hband : Quiet s (reevaluateBand s) := .of (by simp [SameBlocks])
  unfold loadSupply
  split
  · exact (hband.trans (recompute_quiet _)).acts
  · exact (recompute_quiet s).acts

theorem loadArbiter_acts (old : LineParams) (s : State) : Acts s (loadArbiter old s) := by
  unfold loadArbiter
  split
  · exact arbitrate_acts s
  · exact .refl

theorem loadBefore_acts (p : Profile) (s : State) : Acts (setWorking p s) (loadBefore p s) :=
  ((loadSupply_acts _ _).trans (tryPendingBackwash_acts _)).trans (loadArbiter_acts _ _)

/-- A fold of quiet events is quiet. -/
theorem foldl_quiet {α : Type} {f : State → α → State} (hf : ∀ s a, Quiet s (f s a)) (l : List α) (s : State) :
    Quiet s (l.foldl f s) := by
  induction l generalizing s with
  | nil => exact .refl s
  | cons a l ih => exact (hf s a).trans (ih _)

/-- R134: a load goes on from the retry limit. -/
theorem loadProfile_acts (p : Profile) (s : State) :
    Acts (retryLimitWritten (loadBefore p s)) (loadProfile p s) := by
  have hwatches : ∀ u, Quiet u (loadWatches u) := foldl_quiet (f := fun s st => applyWatch st s) (fun u st =>
    applyWatch_quiet st u) _
  have hlevels : ∀ u, Quiet u (loadLevels u) := foldl_quiet (f := fun s k => levelWritten k s) (fun u k =>
    levelWritten_quiet k u) _
  exact (capacitiesWritten_acts _ _).trans ((hwatches _).trans (hlevels _)).acts

/-! ## Measurement -/

theorem dpCompletes_acts (raw : BitVec 12) (calibration : Int) (s : State) :
    Acts s (dpCompletes raw calibration s) := by
  have q : Quiet s (if onRail raw then takeFaultedDp s
      else takeGoodDp (sampleValue .dp s.line.lFull (correctedCode raw calibration)) s) := by
    split <;> exact .of (by simp [SameBlocks])
  exact (q.trans (recompute_quiet _)).acts.trans (filterDpSample_acts _)

theorem levelCompletes_quiet (raw : BitVec 12) (calibration : Int) (s : State) :
    Quiet s (levelCompletes raw calibration s) := by
  refine Quiet.trans ?_ (recompute_quiet _)
  split <;> exact .of (by simp [SameBlocks])

theorem conversionCompletes_acts (raw : BitVec 12) (s : State) : Acts s (conversionCompletes raw s) := by
  have hnext : ∀ c u, Quiet u (startConversion c u) := fun c u => .of (by simp [SameBlocks])
  simp only [conversionCompletes]
  split
  · exact (dpCompletes_acts raw _ s).trans (hnext _ _).acts
  · exact ((levelCompletes_quiet raw _ s).trans (hnext _ _)).acts

theorem windowDone_acts (rpm : Nat) (s : State) : Acts s (windowDone rpm s) := by
  unfold windowDone
  split
  · next x hstate hslot =>
    split
    · next c _ =>
      unfold testWindow
      split_ifs
      · exact Quiet.acts (.of (by simp [SameBlocks]))
      · exact (Act.jam x hstate hslot).acts
      · exact Quiet.acts (.of (by simp [SameBlocks]))
    · exact .refl
  · exact .refl

theorem chuteCounts_quiet (s : State) : Quiet s (chuteCounts s) := by
  unfold chuteCounts
  split
  · exact .of (by simp [SameBlocks])
  · exact .refl s

/-! ## Valve channels -/

theorem loadChannel_fits {c : Channel} (h : ChannelFits c) (reductions : Bool) :
    ChannelFits (loadChannel reductions c) := by
  obtain ⟨happlied, hpending⟩ := h
  unfold loadChannel
  split
  · next d hd =>
    rw [hd] at hpending
    exact ⟨le_trans (le_of_lt hpending) happlied, trivial⟩
  · next d hd =>
    split
    · exact ⟨happlied, hpending⟩
    · rw [hd] at hpending
      exact ⟨hpending.2, trivial⟩
  · exact ⟨happlied, hpending⟩

theorem periodEnds_quiet (s : State) : Quiet s (periodEnds s) := by
  refine .of_channels (by simp [SameBlocks, periodEnds]) fun h sl => ?_
  have hchannel : (periodEnds s).drive.channels.get sl =
      switchOn (loadChannel (anyReduction s.drive.channels) (s.drive.channels.get sl)) := by
    simp [periodEnds, loadPending]
  rw [hchannel]
  exact loadChannel_fits (h sl) _

theorem dutyElapses_quiet (sl : Slot) (s : State) : Quiet s (dutyElapses sl s) := by
  simp only [dutyElapses]
  split
  · refine .of_channels (by simp [SameBlocks]) fun h sl' => ?_
    simp only [PerSlot.get_set]
    split
    · exact h sl
    · exact h sl'
  · exact .refl s

/-! ## The work of a step -/

theorem acceptAsk_acts (st : Station) (m : Material) (estimate urgency : Nat) {s : State}
    (hcurrent : s.isCurrentSource (.station st) = false) (hestimate : estimate ≠ 0) :
    Acts s (acceptAsk st ⟨.chips m, estimate, urgency, .pending⟩ s) :=
  ((Act.storeRequest st m estimate urgency hcurrent hestimate).acts.trans (setLate_quiet _ _ _).acts).trans
    (afterRequest_acts _ _ _)

theorem postGateTimedOut_quiet (src : Source) (s : State) : Quiet s (postGateTimedOut src s) := by
  cases src with
  | station st => exact postStation_quiet _ _ s
  | sludge => exact .refl s

theorem reportLot_quiet (l : LotRecord) (o : LastOutcome) (k : StationKind) (s : State) :
    Quiet s (reportLot l o k s) := by
  unfold reportLot
  split
  · exact .of (by simp [SameBlocks])
  · exact .refl s

theorem endOfFeed_acts {x : SlotLot} {s : State} (hstate : s.crusher.state = .crushing) : Acts s (endOfFeed x s) := by
  have q : Quiet s (reportLot x.lot .crushed .lotCrushed (addFill x.lot.family x.lot.mass s)) :=
    Quiet.trans (t := addFill x.lot.family x.lot.mass s) (.of (by simp [SameBlocks])) (reportLot_quiet _ _ _ _)
  exact (q.acts.trans (Act.emptyCrushing (q.crusher.trans hstate)).acts).trans (feedEvaluation_acts _)

theorem endOfTransit_acts {x : SlotLot} {s : State} (hstate : s.crusher.state = .passThrough) :
    Acts s (endOfTransit x s) := by
  have q : Quiet s (setFlap .crusher (addFill .sludge x.lot.mass s)) := .of (by simp [SameBlocks])
  exact (q.acts.trans (Act.emptyPassThrough (q.crusher.trans hstate)).acts).trans (feedEvaluation_acts _)

theorem clearReject_acts {x : SlotLot} {s : State} (hstate : s.crusher.state = .blocked) :
    Acts s (clearReject x s) := by
  have q : Quiet s (reportLot x.lot .rejected .lotRejected
      { s with crusher := { s.crusher with reject := addMass s.crusher.reject x.lot.mass } }) :=
    Quiet.trans (t := { s with crusher := { s.crusher with reject := addMass s.crusher.reject x.lot.mass } })
      (.of (by simp [SameBlocks])) (reportLot_quiet _ _ _ _)
  exact (q.acts.trans (Act.reject (q.crusher.trans hstate)).acts).trans (feedEvaluation_acts _)

theorem emptyBin_acts (b : BinOperand) (s : State) : Acts s (emptyBin b s) := by
  have q : ∀ f : Fills, ∀ n : Nat, Quiet s { s with crusher := { s.crusher with fills := f, reject := n } } :=
    fun f n => .of (by simp [SameBlocks])
  cases b with
  | bin f => exact (q (s.crusher.fills.set f 0) s.crusher.reject).acts.trans (feedEvaluation_acts _)
  | reject => exact (q s.crusher.fills 0).acts.trans (feedEvaluation_acts _)

theorem fleeceReady_iff (s : State) : s.fleeceReady = true → s.filter.fleece ≠ some 0 ∧ s.inSafeStop = false := by
  intro h
  obtain ⟨hstop, hfleece⟩ := Bool.and_eq_true_iff.mp h
  refine ⟨fun hzero => ?_, by simpa using hstop⟩
  simp [hzero] at hfleece

/-- A piece of work that writes the working copy, or powers the module on. -/
inductive Rewrites (s : State) : State → Prop
  | item (i : Item) (v : Int) (hrange : (itemRange i).least ≤ v ∧ v ≤ (itemRange i).greatest)
      (horder : orderKept i (s.store.working.set i v) = true)
      (hring : i.needsEmptyRing = true → s.carouselEmpty = true) : Rewrites s (storeItem i v s)
  | load (n : SetNumber)
      (hring : ringDiffers (s.store.nonVolatile.profile n).line s.line = true → s.carouselEmpty = true) :
      Rewrites s (loadProfile (s.store.nonVolatile.profile n) s)
  | power (v : Nat) (made : Bool) : Rewrites s (powerUp v made s)

/-- Every other piece of work is a sequence of acts. -/
theorem Work.acts {s t : State} (w : Work s t) : Rewrites s t ∨ Acts s t := by
  have hq : ∀ {u : State}, Quiet s u → Rewrites s u ∨ Acts s u := fun q => .inr q.acts
  have hmode : ∀ m, Quiet s (setMode m s) := fun m => .of (by simp [SameBlocks])
  cases w with
  | none => exact .inr .refl
  | dropStation | dropHall | selectFactory | startSave | sensor | monitor =>
    exact hq (.of (by simp [SameBlocks]))
  | powerLoss => exact hq (.of (by simp [SameBlocks, powerDown]))
  | keepAlive st ph => exact hq (acceptKeepAlive_quiet st ph s)
  | ask => exact hq (tableEvent_quiet _ s)
  | endEntry => exact hq (tableEvent_quiet _ s)
  | storeRequest st m estimate urgency hlive hcurrent hestimate =>
    exact .inr (acceptAsk_acts st m estimate urgency hcurrent hestimate)
  | go st r k w hr hstate => exact .inr (Act.openGate st r k w hr hstate).acts
  | lateDelivered st => exact hq (setLate_quiet st Option.none s)
  | done st r k g d hr hstate => exact .inr (finaliseEvent_acts hr hstate _)
  | cancelPending st r hr hstate =>
    exact .inr ((Act.removeRequest st (isOpen_of_request hr (by simp [hstate]))).acts.trans (arbitrate_acts _))
  | cancelOffered st r k w hr hstate =>
    exact .inr ((Act.removeRequest st (isOpen_of_request hr (by simp [hstate]))).acts.trans (chuteFreed_acts _))
  | storeItem i v hrange horder hring => exact .inl (.item i v hrange horder hring)
  | load n hring => exact .inl (.load n hring)
  | backwash hstate hallowed => exact .inr (startBackwash_acts hstate hallowed)
  | waitBackwash hstate =>
    refine .inr (Act.flag ?_).acts
    rcases hstate with h | ⟨n, h⟩
    · exact .inl h
    · exact .inr ⟨_, h⟩
  | fleeceIndex hstate hready =>
    obtain ⟨hfleece, hstop⟩ := fleeceReady_iff s hready
    exact .inr (Act.fleeceIndex (.inl hstate) hfleece hstop).acts
  | loadFleece n => exact .inr (loadFleece_acts n s)
  | hold => exact .inr ((hmode _).acts.trans (withdrawEvent_acts _))
  | modeSet m => exact .inr ((hmode m).acts.trans (tryIndexStart_acts _))
  | modeFed m => exact .inr (((hmode m).acts.trans (feedEvaluation_acts _)).trans (tryIndexStart_acts _))
  | survey hsurvey => exact .inr ((Act.survey hsurvey).acts.trans (arbitrate_acts _))
  | flush hsurvey hstop => exact .inr (Act.flush hsurvey hstop).acts
  | retryStep n hindex hstop => exact .inr (Act.retryStep n hindex hstop).acts
  | clearRetry x hstate hslot => exact .inr (Act.clearRetry x hstate hslot).acts
  | clearReject x hstate => exact .inr (clearReject_acts hstate)
  | emptyBin b => exact .inr (emptyBin_acts b s)
  | addCause => exact .inr (addCause_acts _ s)
  | removeCause => exact .inr (removeCause_acts _ s)
  | lineRestart => exact .inr (lineRestart_acts s)
  | conversion raw => exact .inr (conversionCompletes_acts raw s)
  | arbitration => exact .inr (arbitrate_acts s)
  | offerLapses st r k w hcurrent hstate =>
    have hr := (current_some hcurrent).1
    exact .inr (((Act.removeRequest st (isOpen_of_request hr (by simp [hstate]))).acts.trans
      (postStation_quiet _ _ _).acts).trans (chuteFreed_acts _))
  | gateTimesOut src r k g d hcurrent hstate =>
    have q := postGateTimedOut_quiet src s
    have hr : (postGateTimedOut src s).request src = some r := by
      rw [State.request, q.requests]
      exact (current_some hcurrent).1
    exact .inr (q.acts.trans (finaliseLate_acts hr hstate _))
  | dumpEnds r k g d hcurrent hstate => exact .inr (finaliseEvent_acts (current_some hcurrent).1 hstate _)
  | indexStart => exact .inr (tryIndexStart_acts s)
  | edge x =>
    have q : Quiet s (setSensor x s) := .of (by simp [SameBlocks])
    exact .inr (q.acts.trans (indexEdge_acts _))
  | stepFails n t hindex =>
    rw [Machine.stepFails, hindex]
    exact .inr ((Act.stepFails n t hindex).acts.trans (postHall_quiet _ _).acts)
  | feed => exact .inr (feedEvaluation_acts s)
  | runUpCrush n x hstate hslot hlot => exact .inr (Act.crush n x hstate hslot hlot).acts
  | runUpAwait n hstate hslot => exact .inr (Act.idleRun n hstate hslot).acts
  | runUpFeed n hstate hslot => exact .inr ((Act.idleRun n hstate hslot).acts.trans (feedEvaluation_acts _))
  | purge n target hstate =>
    exact .inr ((Act.finishPurge target (.inl ⟨n, hstate⟩)).acts.trans (feedEvaluation_acts _))
  | idle n hstate => exact .inr (Act.runDown n hstate).acts
  | runDownRest n hstate => exact .inr (Act.stopped (by simp [hstate])).acts
  | runDownUp n x hstate hslot hlot =>
    refine .inr ((Act.stopped (by simp [hstate])).acts.trans (Act.runUp (by simp [enterStopped]) ?_).acts)
    exact fun _ _ _ => .inl (by simp [enterStopped, hslot])
  | runDownFeed n hstate => exact .inr ((Act.stopped (by simp [hstate])).acts.trans (feedEvaluation_acts _))
  | reverse n hstate => exact .inr (Act.runUp (by simp [hstate]) fun _ _ _ => .inr ⟨n, hstate⟩).acts
  | feedEnd x hstate => exact .inr (endOfFeed_acts hstate)
  | transitEnd x hstate => exact .inr (endOfTransit_acts hstate)
  | shaftTurn n ppr left n' hshaft => exact .inr (Act.shaft n ppr left n' ppr left hshaft).acts
  | shaftWindow n ppr left hshaft => exact .inr ((Act.shaft n ppr left 0 _ _ hshaft).acts.trans (windowDone_acts _ _))
  | chutePulse => exact hq (chuteCounts_quiet s)
  | fleeceTurn l m n hstate => exact .inr (meterPulse_acts hstate)
  | fleeceStall l m n hstate =>
    exact .inr (endFleeceIndex_acts s.filter.fleece hstate (.of (by simp [SameBlocks])))
  | backwashTimer n hstate =>
    rw [backwashEnds, hstate]
    exact .inr ((Act.backwashEnds n _ hstate).acts.trans (afterRequest_acts _ _ _))
  | settleTimer n hstate => exact .inr (Act.settle _ _ hstate).acts
  | gapTimer =>
    have q : Quiet s { s with filter := { s.filter with gap := max s.filter.gap (sec s.line.bwGap) } } :=
      .of (by simp [SameBlocks])
    exact .inr (q.acts.trans (tryPendingBackwash_acts _))
  | pendingBackwash => exact .inr (tryPendingBackwash_acts s)
  | sprayToggle b n hspray =>
    rw [sprayToggles, hspray]
    exact .inr (Act.sprayTurn b _ n _ hspray).acts
  | periodEnd => exact hq (periodEnds_quiet s)
  | saveDone n content left hsave =>
    rw [Machine.saveDone, hsave]
    exact hq (.of (by simp [SameBlocks]))
  | lapse st hwatch =>
    exact .inr ((((setWatch_quiet _ _ s).trans (tableEvent_quiet _ _)).acts.trans (arbiterLapse_acts _ _)).trans
      ((postStation_quiet _ _ _).trans (postHall_quiet _ _)).acts)
  | loss st hwatch =>
    exact hq ((((setWatch_quiet _ _ s).trans (tableEvent_quiet _ _)).trans (setLate_quiet _ _ _)).trans
      (postHall_quiet _ _))
  | dip m good =>
    have q : Quiet s (setMonitor m good s) := .of (by simp [SameBlocks])
    exact .inr (q.acts.trans (addCause_acts _ _))
  | recovery m good =>
    have q : Quiet s (setMonitor m good s) := .of (by simp [SameBlocks])
    exact .inr (q.acts.trans (removeCause_acts _ _))
  | powerOn v made => exact .inl (.power v made)
  | dutyElapsed sl => exact hq (dutyElapses_quiet sl s)

end Sys2Proof.Machine
end

section
/-! SUPPORT. What the acts leave of the drive and measurement units, and safe stop, in which nothing starts. -/

namespace Sys2Proof.Machine

/-! ## Drive and measurement units -/

/-- R158: the crusher's states move the direction and the speed of the drive alone. -/
@[simp] theorem actOnArrival_drive (l : LotRecord) (s : State) :
    (actOnArrival l s).drive.gates = s.drive.gates ∧ (actOnArrival l s).drive.dumpValve = s.drive.dumpValve ∧
      (actOnArrival l s).drive.binGate = s.drive.binGate ∧ (actOnArrival l s).drive.step = s.drive.step ∧
      (actOnArrival l s).drive.fleeceMotor = s.drive.fleeceMotor ∧ (actOnArrival l s).drive.spray = s.drive.spray ∧
      (actOnArrival l s).drive.channels = s.drive.channels ∧
      (actOnArrival l s).measure.chute = s.measure.chute := by
  unfold actOnArrival
  split
  · split <;> simp [enterCrushing]
  · split_ifs <;> simp [enterPassThrough, enterRunUp]
  · simp

@[simp] theorem lotArrives_drive (l : LotRecord) (s : State) :
    (lotArrives l s).drive.gates = s.drive.gates ∧ (lotArrives l s).drive.dumpValve = s.drive.dumpValve ∧
      (lotArrives l s).drive.binGate = s.drive.binGate ∧ (lotArrives l s).drive.step = s.drive.step ∧
      (lotArrives l s).drive.fleeceMotor = s.drive.fleeceMotor ∧ (lotArrives l s).drive.spray = s.drive.spray ∧
      (lotArrives l s).drive.channels = s.drive.channels ∧ (lotArrives l s).measure.chute = s.measure.chute := by
  simp [lotArrives]

@[simp] theorem crusherHalt_drive (s : State) :
    (crusherHalt s).drive.gates = s.drive.gates ∧ (crusherHalt s).drive.dumpValve = s.drive.dumpValve ∧
      (crusherHalt s).drive.binGate = s.drive.binGate ∧ (crusherHalt s).drive.step = s.drive.step ∧
      (crusherHalt s).drive.fleeceMotor = s.drive.fleeceMotor ∧ (crusherHalt s).drive.spray = s.drive.spray ∧
      (crusherHalt s).drive.channels = s.drive.channels ∧ (crusherHalt s).measure.chute = s.measure.chute := by
  unfold crusherHalt
  split <;> simp [enterStopped]

@[simp] theorem crusherStopEntry_drive (s : State) :
    (crusherStopEntry s).drive.gates = s.drive.gates ∧ (crusherStopEntry s).drive.dumpValve = s.drive.dumpValve ∧
      (crusherStopEntry s).drive.binGate = s.drive.binGate ∧ (crusherStopEntry s).drive.step = s.drive.step ∧
      (crusherStopEntry s).drive.fleeceMotor = s.drive.fleeceMotor ∧
      (crusherStopEntry s).drive.spray = s.drive.spray ∧
      (crusherStopEntry s).drive.channels = s.drive.channels ∧
      (crusherStopEntry s).measure.chute = s.measure.chute := by
  unfold crusherStopEntry
  split <;> simp

/-- R116: a jam moves the drive's direction and speed alone, and the crusher's state, slot and stall count. -/
@[simp] theorem jam_drive (x : SlotLot) (s : State) :
    (jam x s).drive.gates = s.drive.gates ∧ (jam x s).drive.dumpValve = s.drive.dumpValve ∧
      (jam x s).drive.binGate = s.drive.binGate ∧ (jam x s).drive.step = s.drive.step ∧
      (jam x s).drive.fleeceMotor = s.drive.fleeceMotor ∧ (jam x s).drive.spray = s.drive.spray ∧
      (jam x s).drive.channels = s.drive.channels ∧ (jam x s).measure.chute = s.measure.chute := by
  simp only [jam]
  split <;> simp [enterReversing, enterBlocked]

@[simp] theorem clearRetry_drive (x : SlotLot) (s : State) :
    (clearRetry x s).drive.gates = s.drive.gates ∧ (clearRetry x s).drive.dumpValve = s.drive.dumpValve ∧
      (clearRetry x s).drive.binGate = s.drive.binGate ∧ (clearRetry x s).drive.step = s.drive.step ∧
      (clearRetry x s).drive.fleeceMotor = s.drive.fleeceMotor ∧ (clearRetry x s).drive.spray = s.drive.spray ∧
      (clearRetry x s).drive.channels = s.drive.channels ∧ (clearRetry x s).measure.chute = s.measure.chute := by
  simp only [clearRetry]
  split <;> simp [enterStopped, enterRunUp]

@[simp] theorem clearRetry_frame (x : SlotLot) (s : State) :
    (clearRetry x s).filter = s.filter ∧ (clearRetry x s).arbiter = s.arbiter ∧
      (clearRetry x s).carousel = s.carousel ∧ (clearRetry x s).store = s.store ∧ (clearRetry x s).stop = s.stop := by
  simp only [clearRetry]
  split <;> simp

/-- R75: a finalisation moves one gate of the drive unit, and the chute counter of the measurement unit. -/
@[simp] theorem finalise_drive (src : Source) (r : DischargeRequest) (k : Nat) (c : EndCause) (s : State) :
    (finalise src r k c s).1.drive.binGate = s.drive.binGate ∧
      (finalise src r k c s).1.drive.direction = s.drive.direction ∧
      (finalise src r k c s).1.drive.step = s.drive.step ∧
      (finalise src r k c s).1.drive.fleeceMotor = s.drive.fleeceMotor ∧
      (finalise src r k c s).1.drive.spray = s.drive.spray ∧
      (finalise src r k c s).1.drive.channels = s.drive.channels ∧
      (finalise src r k c s).1.measure.shaft = s.measure.shaft := by
  simp only [finalise]
  split <;> cases src <;> simp [closeDischarge]

/-- R75: a finalisation adds at most a lot to the carousel, at its tail. -/
@[simp] theorem finalise_carousel (src : Source) (r : DischargeRequest) (k : Nat) (c : EndCause) (s : State) :
    (finalise src r k c s).1.carousel.index = s.carousel.index ∧
      (finalise src r k c s).1.carousel.survey = s.carousel.survey ∧
      (finalise src r k c s).1.carousel.requested = s.carousel.requested ∧
      (finalise src r k c s).1.carousel.mode = s.carousel.mode := by
  simp only [finalise]
  split <;> simp

/-- R49, R75: a finalisation of source 7 empties the trough, and no other does. -/
@[simp] theorem finalise_filter (src : Source) (r : DischargeRequest) (k : Nat) (c : EndCause) (s : State) :
    (finalise src r k c s).1.filter =
      { s.filter with troughFull := s.filter.troughFull && decide (src ≠ .sludge) } := by
  simp only [finalise]
  split <;> cases src <;> simp [closeDischarge]

@[simp] theorem withdrawOffer_drive (src : Source) (r : DischargeRequest) (s : State) :
    (withdrawOffer src r s).drive = s.drive ∧ (withdrawOffer src r s).measure = s.measure := by
  cases src <;> simp [withdrawOffer]

@[simp] theorem openGate_drive (src : Source) (r : DischargeRequest) (k : Nat) (d : Option Nat) (s : State) :
    (openGate src r k d s).drive.binGate = s.drive.binGate ∧
      (openGate src r k d s).drive.direction = s.drive.direction ∧
      (openGate src r k d s).drive.step = s.drive.step ∧
      (openGate src r k d s).drive.fleeceMotor = s.drive.fleeceMotor ∧
      (openGate src r k d s).drive.spray = s.drive.spray ∧ (openGate src r k d s).drive.channels = s.drive.channels ∧
      (openGate src r k d s).measure.shaft = s.measure.shaft := by
  cases src <;> simp [openGate]

/-- R67, R76: a choice moves at most the dump valve and the chute counter. -/
@[simp] theorem choose_drive (src : Source) (r : DischargeRequest) (k : Nat) (s : State) :
    (choose src r k s).drive.gates = s.drive.gates ∧ (choose src r k s).drive.binGate = s.drive.binGate ∧
      (choose src r k s).drive.direction = s.drive.direction ∧ (choose src r k s).drive.step = s.drive.step ∧
      (choose src r k s).drive.fleeceMotor = s.drive.fleeceMotor ∧ (choose src r k s).drive.spray = s.drive.spray ∧
      (choose src r k s).drive.channels = s.drive.channels ∧
      (choose src r k s).measure.shaft = s.measure.shaft := by
  cases src <;> simp [choose, offerTo, openGate]

@[simp] theorem finishPurge_drive (target : ChipFamily) (s : State) :
    (finishPurge target s).drive.gates = s.drive.gates ∧ (finishPurge target s).drive.dumpValve = s.drive.dumpValve ∧
      (finishPurge target s).drive.step = s.drive.step ∧
      (finishPurge target s).drive.fleeceMotor = s.drive.fleeceMotor ∧
      (finishPurge target s).drive.spray = s.drive.spray ∧ (finishPurge target s).drive.channels = s.drive.channels ∧
      (finishPurge target s).measure.chute = s.measure.chute := by
  simp [finishPurge, enterIdleRun]

/-! ## Safe stop, in which nothing starts -/

theorem tryIndexStart_of_stop {s : State} (h : s.inSafeStop = true) : tryIndexStart s = s := by
  rw [tryIndexStart, if_neg (by simp [State.indexMayStart, h])]

theorem arbitrate_of_stop {s : State} (h : s.inSafeStop = true) : arbitrate s = s := by
  rw [arbitrate, if_neg (by simp [State.mayArbitrate, h])]

theorem feedEvaluation_of_stop {s : State} (h : s.inSafeStop = true) : feedEvaluation s = s := by
  rw [feedEvaluation, if_neg (by simp [State.mayFeed, h])]

theorem tryPendingBackwash_of_stop {s : State} (h : s.inSafeStop = true) : tryPendingBackwash s = s := by
  rw [tryPendingBackwash, if_neg (by simp [State.backwashAllowed, h])]

/-- R78: in safe stop nothing follows a finalisation. -/
theorem afterFinalise_of_stop {s : State} (h : s.inSafeStop = true) (src : Source) (wasEmpty : Bool) :
    afterFinalise src wasEmpty s = s := by
  have hhead : headAppears wasEmpty s = s := by rw [headAppears, feedEvaluation_of_stop h, ite_self]
  have htrough : troughEmptied src s = s := by
    cases src with
    | station st => rfl
    | sludge => exact tryPendingBackwash_of_stop h
  rw [afterFinalise, hhead, htrough, chuteFreed, tryIndexStart_of_stop h, arbitrate_of_stop h]

theorem finaliseLate_of_stop {s : State} (h : s.inSafeStop = true) (src : Source) (r : DischargeRequest) (k : Nat)
    (c : EndCause) : finaliseLate src r k c s = keepLate src (finalise src r k c s).2 (finalise src r k c s).1 := by
  have hstop : (finalise src r k c s).1.inSafeStop = true := by simpa [State.inSafeStop] using h
  simp only [finaliseLate, finaliseEvent, afterFinalise_of_stop hstop]

/-- R78: what entry into safe stop does to the current discharge. -/
theorem arbiterStopEntry_cases {s : State} (h : s.inSafeStop = true) :
    (s.current = none ∧ arbiterStopEntry s = s) ∨
      (∃ src r k w, s.current = some (src, r) ∧ r.state = .offered k w ∧ arbiterStopEntry s = withdrawOffer src r s) ∨
      ∃ src r k g d, s.current = some (src, r) ∧ r.state = .opened k g d ∧
        arbiterStopEntry s = keepLate src (finalise src r k .cutShort s).2 (finalise src r k .cutShort s).1 := by
  unfold arbiterStopEntry
  split
  · next hnone => exact .inl ⟨hnone, rfl⟩
  · next src r hcurrent =>
    split
    · next hpending =>
      have hr := (current_some hcurrent).2
      simp [DischargeRequest.isCurrent, hpending] at hr
    · next k w hstate => exact .inr (.inl ⟨src, r, k, w, hcurrent, hstate, rfl⟩)
    · next k g d hstate => exact .inr (.inr ⟨src, r, k, g, d, hcurrent, hstate, finaliseLate_of_stop h src r k _⟩)

/-- R79: a restart finalises the OPEN request, if there is one, and removes every other. -/
theorem arbiterRestart_cases (s : State) :
    ((∀ src r, s.current = some (src, r) → ∀ k g d, r.state ≠ .opened k g d) ∧
        arbiterRestart s = { s with arbiter := arbiterPowerOn }) ∨
      ∃ src r k g d, s.current = some (src, r) ∧ r.state = .opened k g d ∧
        arbiterRestart s = { (finalise src r k .cutShort s).1 with arbiter := arbiterPowerOn } := by
  simp only [arbiterRestart, arbiterRestartEnd]
  split
  · next hnone => exact .inl ⟨fun src r h => by simp [hnone] at h, rfl⟩
  · next src r hcurrent =>
    split
    · next k g d hstate => exact .inr ⟨src, r, k, g, d, hcurrent, hstate, rfl⟩
    · next hstate =>
      refine .inl ⟨fun src' r' h => ?_, rfl⟩
      obtain ⟨rfl, rfl⟩ := Prod.mk.inj (Option.some.inj (hcurrent.symm.trans h))
      exact hstate

theorem closeValves_quiet (s : State) : Quiet s (closeValves s) := by
  refine .of_channels (by simp [SameBlocks, closeValves]) fun _ sl => ?_
  have hoff : (closeValves s).drive.channels.get sl = ⟨0, none, false⟩ := PerSlot.get_same _ sl
  rw [hoff]
  exact ⟨Nat.zero_le _, trivial⟩

/-- R174: what the figure and the valves do at the entry. -/
theorem stopFigure_quiet (s : State) : Quiet s (closeValves (publish 0 (postHall .safeStop s))) :=
  ((postHall_quiet _ s).trans (publish_quiet _ _)).trans (closeValves_quiet _)

theorem Quiet.inSafeStop {s t : State} (q : Quiet s t) : t.inSafeStop = s.inSafeStop := by
  rw [State.inSafeStop, State.inSafeStop, q.stop]

/-- R174: a law is kept by the entry into safe stop where each block's part keeps it in safe stop. -/
theorem enterSafeStop_keeps {L : State → Prop} {s : State} (hs : L s) (hstop : s.inSafeStop = true)
    (hquiet : ∀ u v, L u → Quiet u v → L v)
    (harbiter : ∀ u, u.inSafeStop = true → L u → L (arbiterStopEntry u))
    (hcarousel : ∀ u, L u → L (carouselStopEntry u)) (hcrusher : ∀ u, L u → L (crusherStopEntry u))
    (hfilter : ∀ u, L u → L (filterStopEntry u)) : L (enterSafeStop s) := by
  have q := stopFigure_quiet s
  exact hfilter _ (hcrusher _ (hcarousel _ (harbiter _ (q.inSafeStop.trans hstop) (hquiet _ _ hs q))))

end Sys2Proof.Machine
end

section
/-! The filter under its law (O58): the outputs of the filter run with its state, and the trough is FULL exactly
while the arbiter holds a request of source 7. -/

namespace Sys2Proof.Machine

def FilterState.isIndexing : FilterState → Bool
  | .indexing _ _ _ => true
  | _ => false

def FilterState.isBackwash : FilterState → Bool
  | .backwash _ => true
  | _ => false

theorem FilterState.isIndexing_iff (f : FilterState) : f.isIndexing = true ↔ ∃ l m n, f = .indexing l m n := by
  cases f <;> simp [FilterState.isIndexing]

theorem FilterState.isBackwash_iff (f : FilterState) : f.isBackwash = true ↔ ∃ n, f = .backwash n := by
  cases f <;> simp [FilterState.isBackwash]

/-- The law of the filter, but for what it says of safe stop. -/
structure FilterFits (s : State) : Prop where
  fleece : s.filter.state.isIndexing = true → s.filter.fleece ≠ some 0
  motor : s.drive.fleeceMotor = s.filter.state.isIndexing
  backwash : s.filter.state.isBackwash = true → s.filter.pending = false ∧ s.filter.troughFull = false
  spray : s.drive.spray ≠ .off ↔ s.filter.state.isBackwash = true
  trough : s.filter.troughFull = true ↔ s.request .sludge ≠ none

/-- R57: in safe stop the filter runs neither an index nor a backwash. -/
def FilterRests (s : State) : Prop :=
  s.inSafeStop = true → s.filter.state.isIndexing = false ∧ s.filter.state.isBackwash = false

theorem filterLaw_iff (s : State) : FilterLaw s ↔ FilterFits s ∧ FilterRests s := by
  have hi := s.filter.state.isIndexing_iff
  have hb := s.filter.state.isBackwash_iff
  constructor
  · rintro ⟨hindexing, hmotor, hbackwash, hspray, htrough⟩
    refine ⟨⟨fun h => ?_, ?_, fun h => ?_, hspray.trans hb.symm, htrough⟩, fun hstop => ⟨?_, ?_⟩⟩
    · obtain ⟨l, m, n, h⟩ := hi.mp h
      exact (hindexing l m n h).1
    · exact Bool.eq_iff_iff.mpr (hmotor.trans hi.symm)
    · obtain ⟨n, h⟩ := hb.mp h
      exact ⟨(hbackwash n h).1, (hbackwash n h).2.1⟩
    · refine Bool.eq_false_iff.mpr fun h => ?_
      obtain ⟨l, m, n, h⟩ := hi.mp h
      simp [(hindexing l m n h).2] at hstop
    · refine Bool.eq_false_iff.mpr fun h => ?_
      obtain ⟨n, h⟩ := hb.mp h
      simp [(hbackwash n h).2.2] at hstop
  · rintro ⟨⟨hfleece, hmotor, hbackwash, hspray, htrough⟩, hrests⟩
    refine ⟨fun l m n h => ?_, ?_, fun n h => ?_, hspray.trans hb, htrough⟩
    · have h := hi.mpr ⟨l, m, n, h⟩
      exact ⟨hfleece h, Bool.eq_false_iff.mpr fun hstop => by simp [(hrests hstop).1] at h⟩
    · rw [hmotor]
      exact hi
    · have h := hb.mpr ⟨n, h⟩
      obtain ⟨hpending, htrough⟩ := hbackwash h
      exact ⟨hpending, htrough, Bool.eq_false_iff.mpr fun hstop => by simp [(hrests hstop).2] at h⟩

/-! ## What leaves the law alone -/

/-- What the law reads, but for safe stop, is as it was. -/
def SameFilter (s t : State) : Prop :=
  t.filter.state = s.filter.state ∧ t.filter.fleece = s.filter.fleece ∧ t.filter.pending = s.filter.pending ∧
    t.filter.troughFull = s.filter.troughFull ∧ t.drive.fleeceMotor = s.drive.fleeceMotor ∧
    t.drive.spray = s.drive.spray ∧ (t.request .sludge = none ↔ s.request .sludge = none)

theorem FilterFits.congr {s t : State} (h : FilterFits s) (heq : SameFilter s t) : FilterFits t := by
  obtain ⟨hstate, hfleece, hpending, htrough, hmotor, hspray, hsludge⟩ := heq
  obtain ⟨h1, h2, h3, h4, h5⟩ := h
  constructor
  · rwa [hstate, hfleece]
  · rwa [hmotor, hstate]
  · rwa [hstate, hpending, htrough]
  · rwa [hspray, hstate]
  · rwa [htrough, ne_eq, hsludge]

theorem FilterRests.congr {s t : State} (h : FilterRests s) (hstate : t.filter.state = s.filter.state)
    (hstop : t.stop = s.stop) : FilterRests t := by
  unfold FilterRests State.inSafeStop
  rw [hstate, hstop]
  exact h

theorem sameFilter_of_arbiter {s t : State} (h : t.filter = s.filter ∧ t.drive.fleeceMotor = s.drive.fleeceMotor ∧
    t.drive.spray = s.drive.spray ∧ t.arbiter = s.arbiter) : SameFilter s t := by
  obtain ⟨hfilter, hmotor, hspray, harbiter⟩ := h
  unfold SameFilter
  rw [request_of_arbiter harbiter]
  simp [hfilter, hmotor, hspray]

theorem Quiet.sameFilter {s t : State} (q : Quiet s t) : SameFilter s t :=
  ⟨q.filter, q.fleece, q.flag, q.trough, q.fleeceMotor, q.spray, by rw [State.request, q.requests]; rfl⟩

/-! ## The operations that touch it -/

theorem finalise_filterFits {src : Source} {s : State} (h : FilterFits s) (r : DischargeRequest) (k : Nat)
    (c : EndCause) : FilterFits (finalise src r k c s).1 := by
  obtain ⟨hfleece, hmotor, hbackwash, hspray, htrough⟩ := h
  constructor
  · simpa using hfleece
  · simpa using hmotor
  · simp only [finalise_filter, Bool.and_eq_false_iff]
    exact fun hstate => ⟨(hbackwash hstate).1, .inl (hbackwash hstate).2⟩
  · simpa using hspray
  · rw [request_finalise, finalise_filter]
    by_cases hsrc : src = .sludge
    · simp [hsrc]
    · simpa [hsrc, Ne.symm hsrc] using htrough

theorem sludge_choose {src : Source} {r : DischargeRequest} {s : State} (hr : s.request src = some r) (k : Nat) :
    (choose src r k s).request .sludge = none ↔ s.request .sludge = none := by
  rw [request_choose]
  split
  · next heq => simp [heq, hr]
  · rfl

theorem sludge_withdrawOffer {src : Source} {r : DischargeRequest} {s : State} (hr : s.request src = some r) :
    (withdrawOffer src r s).request .sludge = none ↔ s.request .sludge = none := by
  rw [request_withdrawOffer]
  split
  · next heq => simp [heq, hr]
  · rfl

theorem sludge_setPlace (st : Station) (r : Option DischargeRequest) (s : State) :
    (setPlace (.station st) r s).request .sludge = s.request .sludge := by
  rw [request_setPlace, if_neg (by simp)]

/-- R78: the arbiter's part of the entry into safe stop. -/
theorem arbiterStopEntry_filterFits {s : State} (hstop : s.inSafeStop = true) (h : FilterFits s) :
    FilterFits (arbiterStopEntry s) := by
  rcases arbiterStopEntry_cases hstop with
      ⟨-, heq⟩ | ⟨src, r, k, w, hcurrent, -, heq⟩ | ⟨src, r, k, g, d, -, -, heq⟩ <;>
    rw [heq]
  · exact h
  · exact h.congr (by simp [SameFilter, sludge_withdrawOffer (current_some hcurrent).1])
  · exact (finalise_filterFits h r k _).congr (keepLate_quiet _ _ _).sameFilter

/-- R57: the filter's part of the entry into safe stop. -/
theorem filterStopEntry_filterFits {s : State} (h : FilterFits s) : FilterFits (filterStopEntry s) := by
  obtain ⟨hfleece, hmotor, hbackwash, hspray, htrough⟩ := h
  unfold filterStopEntry
  split
  · next hstate =>
    simp only [hstate, FilterState.isIndexing, FilterState.isBackwash] at hmotor hbackwash
    refine FilterFits.congr ?_ (recompute_quiet _).sameFilter
    exact ⟨nofun, hmotor, nofun, by simp [FilterState.isBackwash], htrough⟩
  · next hstate =>
    simp only [hstate, FilterState.isBackwash] at hspray
    exact ⟨nofun, rfl, nofun, hspray, htrough⟩
  · exact ⟨hfleece, hmotor, hbackwash, hspray, htrough⟩

/-- R57: the filter rests after its part of the entry. -/
theorem filterStopEntry_state (s : State) : (filterStopEntry s).filter.state.isIndexing = false ∧
    (filterStopEntry s).filter.state.isBackwash = false := by
  unfold filterStopEntry
  split
  · simp [FilterState.isIndexing, FilterState.isBackwash]
  · simp [FilterState.isIndexing, FilterState.isBackwash]
  · next hb hi =>
    exact ⟨Bool.eq_false_iff.mpr fun h => by
      obtain ⟨l, m, n, h⟩ := (FilterState.isIndexing_iff _).mp h
      exact hi l m n h, Bool.eq_false_iff.mpr fun h => by
      obtain ⟨n, h⟩ := (FilterState.isBackwash_iff _).mp h
      exact hb n h⟩

theorem stopEntry_filterLaw {s : State} (h : FilterFits s) (hstop : s.inSafeStop = true) :
    FilterLaw (enterSafeStop s) := by
  refine (filterLaw_iff _).mpr ⟨enterSafeStop_keeps h hstop (fun u v hu q => hu.congr q.sameFilter)
    (fun u hu h => arbiterStopEntry_filterFits hu h) (fun u hu => ?_) (fun u hu => ?_)
    fun u hu => filterStopEntry_filterFits hu, fun _ => filterStopEntry_state _⟩
  · refine hu.congr (sameFilter_of_arbiter ?_)
    unfold carouselStopEntry
    split <;> simp
  · exact hu.congr (sameFilter_of_arbiter (by simp))

/-- R58: after the filter's part of a restart it runs neither an index nor a backwash. -/
theorem filterRestart_rests {s : State} (hmotor : s.drive.fleeceMotor = s.filter.state.isIndexing)
    (hspray : s.drive.spray ≠ .off ↔ s.filter.state.isBackwash = true) :
    (filterRestart s).filter.state.isIndexing = false ∧ (filterRestart s).filter.state.isBackwash = false ∧
      (filterRestart s).drive.fleeceMotor = false ∧ (filterRestart s).drive.spray = .off := by
  unfold filterRestart
  split
  · next hstate =>
    rw [hstate] at hmotor
    exact ⟨rfl, rfl, hmotor, rfl⟩
  · next hstate =>
    rw [hstate] at hspray
    exact ⟨rfl, rfl, rfl, by simpa [FilterState.isBackwash] using hspray⟩
  · next hb hi =>
    have hindexing : s.filter.state.isIndexing = false := Bool.eq_false_iff.mpr fun h => by
      obtain ⟨l, m, n, h⟩ := (FilterState.isIndexing_iff _).mp h
      exact hi l m n h
    have hbackwash : s.filter.state.isBackwash = false := Bool.eq_false_iff.mpr fun h => by
      obtain ⟨n, h⟩ := (FilterState.isBackwash_iff _).mp h
      exact hb n h
    exact ⟨hindexing, hbackwash, hmotor.trans hindexing, by simpa [hbackwash] using hspray⟩

/-- R58, R79: a restart abandons a backwash and an index, and the request of a trough still FULL is posted again. -/
theorem restart_filterLaw {s : State} (h : FilterFits s) :
    FilterLaw (repostSludge (filterRestart (arbiterRestart (restartStations s)))) := by
  have hu : (arbiterRestart (restartStations s)).drive.fleeceMotor = s.drive.fleeceMotor ∧
      (arbiterRestart (restartStations s)).drive.spray = s.drive.spray ∧
      (arbiterRestart (restartStations s)).filter.state = s.filter.state := by
    rcases arbiterRestart_cases (restartStations s) with ⟨-, heq⟩ | ⟨src, r, k, g, d, -, -, heq⟩ <;> rw [heq] <;> simp
  obtain ⟨hmotor, hspray, hstate⟩ := hu
  obtain ⟨hindexing, hbackwash, hmotor', hspray'⟩ := filterRestart_rests (s := arbiterRestart (restartStations s))
    (by rw [hmotor, hstate, h.motor]) (by rw [hspray, hstate]; exact h.spray)
  have hnone : (filterRestart (arbiterRestart (restartStations s))).request .sludge = none :=
    (request_of_arbiter (s := arbiterRestart (restartStations s)) (by simp) _).trans (request_arbiterRestart _ _)
  refine (filterLaw_iff _).mpr ⟨?_, fun _ => ?_⟩
  · constructor <;> simp only [repostSludge] <;> split <;>
      simp_all [storeSludge, request_setPlace]
  · simp [hindexing, hbackwash]

/-! ## Every act -/

/-- R43 to R59, R159, R160: every act keeps the law of the filter. -/
theorem Act.keepsFilter {s t : State} (h : FilterLaw s) (a : Act s t) : FilterLaw t := by
  obtain ⟨hfits, hrests⟩ := (filterLaw_iff s).mp h
  obtain ⟨hfleece, hmotor, hbackwash, hspray, htrough⟩ := id hfits
  have same : ∀ {u : State}, SameFilter s u → u.stop = s.stop → FilterLaw u := fun hsame hstop =>
    (filterLaw_iff _).mpr ⟨hfits.congr hsame, hrests.congr hsame.1 hstop⟩
  have other : ∀ {u : State}, u.filter = s.filter ∧ u.drive.fleeceMotor = s.drive.fleeceMotor ∧
      u.drive.spray = s.drive.spray ∧ u.arbiter = s.arbiter → u.stop = s.stop → FilterLaw u := fun hsame hstop =>
    same (sameFilter_of_arbiter hsame) hstop
  cases a with
  | quiet q => exact same q.sameFilter q.stop
  | startIndex | withdraw | nextStep | resumeStep | retryStep | runOn | stepFails | survey | haltBlocked | shaft =>
    exact other (by simp) (by simp)
  | askChips | askSludge => exact other (by simp [requestIndex]) rfl
  | arrive l rest hlast | noLot hlast | flushEnd hlast => cases hlast <;> exact other (by simp) (by simp)
  | flush => exact other (by simp [startFlush]) (by simp [startFlush])
  | runUp | idleRun | runDown | stopped | crush | passThrough | purge | finishPurge | jam | emptyCrushing
  | emptyPassThrough | reject | clearRetry =>
    exact other (by simp [enterRunUp, enterIdleRun, enterRunDown, enterStopped, enterCrushing, enterPassThrough,
      enterPurge, rejectSlot]) (by simp [rejectSlot])
  | choose src r hmay hr => exact same (by simp [SameFilter, sludge_choose hr]) (by simp)
  | storeRequest | removeRequest => exact same (by simp [SameFilter, sludge_setPlace]) rfl
  | withdrawOffer src r k w hr => exact same (by simp [SameFilter, sludge_withdrawOffer hr]) (by simp)
  | openGate st r k w hr =>
    exact same (by simp [SameFilter, request_openGate]) (by simp)
  | finalise src r k g d c hr =>
    exact (filterLaw_iff _).mpr ⟨finalise_filterFits hfits r k c, hrests.congr (by simp) (by simp)⟩
  | backwashStarts n hstate hallowed =>
    obtain ⟨htrough', hstop⟩ : s.filter.troughFull = false ∧ s.inSafeStop = false := by
      simpa [State.backwashAllowed] using hallowed
    rw [hstate] at hmotor
    exact (filterLaw_iff _).mpr ⟨⟨nofun, hmotor, fun _ => ⟨rfl, htrough'⟩, by simp [FilterState.isBackwash], htrough⟩,
      fun h => absurd (hstop.symm.trans h) (by simp)⟩
  | backwashEnds n m hstate =>
    rw [hstate] at hmotor
    exact (filterLaw_iff _).mpr ⟨⟨nofun, hmotor, nofun, by simp [FilterState.isBackwash],
      by simp [storeSludge, request_setPlace]⟩, fun _ => ⟨rfl, rfl⟩⟩
  | settle n m hstate | settled n hstate =>
    rw [hstate] at hmotor hspray
    exact (filterLaw_iff _).mpr ⟨⟨nofun, hmotor, nofun, hspray, htrough⟩, fun _ => ⟨rfl, rfl⟩⟩
  | flag hstate =>
    have hno : s.filter.state.isBackwash = false := by
      rcases hstate with hstate | ⟨n, hstate⟩ <;> rw [hstate] <;> rfl
    exact (filterLaw_iff _).mpr ⟨⟨hfleece, hmotor, fun h => absurd (hno.symm.trans h) (by simp), hspray, htrough⟩,
      hrests⟩
  | fleeceIndex hstate hremains hstop =>
    have hno : s.filter.state.isBackwash = false := by
      rcases hstate with hstate | ⟨n, hstate⟩ <;> rw [hstate] <;> rfl
    rw [hno] at hspray
    exact (filterLaw_iff _).mpr ⟨⟨fun _ => hremains, rfl, nofun, hspray, htrough⟩,
      fun h => absurd (hstop.symm.trans h) (by simp)⟩
  | fleeceTurn l m n m' n' f hstate hf =>
    unfold FilterRests at hrests
    rw [hstate] at hmotor hspray hrests
    exact (filterLaw_iff _).mpr ⟨⟨fun _ => hf, hmotor, nofun, hspray, htrough⟩, hrests⟩
  | fleeceEnds l m n f hstate =>
    rw [hstate] at hspray
    exact (filterLaw_iff _).mpr ⟨⟨nofun, rfl, nofun, hspray, htrough⟩, fun _ => ⟨rfl, rfl⟩⟩
  | fleeceLoaded n hn =>
    refine (filterLaw_iff _).mpr ⟨⟨fun hindexing hzero => ?_, hmotor, hbackwash, hspray, htrough⟩, hrests⟩
    obtain ⟨l, m, k, hstate⟩ := (FilterState.isIndexing_iff _).mp hindexing
    exact hn.elim (fun hn => hn (Option.some.inj hzero)) fun hn => hn l m k hstate
  | sprayTurn b b' n n' hon =>
    have hbackwash' := hspray.mp (by simp [hon])
    exact (filterLaw_iff _).mpr ⟨⟨hfleece, hmotor, hbackwash, by simp [hbackwash'], htrough⟩, hrests⟩
  | causes c hc =>
    exact (filterLaw_iff _).mpr ⟨⟨hfleece, hmotor, hbackwash, hspray, htrough⟩, fun h => hrests (hc h)⟩
  | stopEntry c hstop hc => exact stopEntry_filterLaw (hfits.congr (sameFilter_of_arbiter (by simp))) hc
  | restart => exact restart_filterLaw hfits

end Sys2Proof.Machine
end

section
/-! The drives under their law, and the step of both laws (O58). -/

namespace Sys2Proof.Machine

def IndexState.isIndexing : IndexState → Bool
  | .indexing _ _ => true
  | _ => false

theorem IndexState.isIndexing_iff (i : IndexState) : i.isIndexing = true ↔ ∃ n t, i = .indexing n t := by
  cases i <;> simp [IndexState.isIndexing]

/-- R104, R142: the drive runs as the crusher's state says, and shaft windows are counted while it runs forward. -/
def CrusherDriven (s : State) : Prop :=
  s.drive.direction = s.crusher.state.direction ∧ (s.measure.shaft ≠ .idle ↔ s.drive.direction = .forward)

/-- R159: the step output runs while a step is in motion. -/
def StepDriven (s : State) : Prop := s.drive.step = s.carousel.index.isIndexing

/-- R152, R154: every channel holds its pending change on its own side. -/
def ChannelsFit (s : State) : Prop := ∀ sl, ChannelFits (s.drive.channels.get sl)

theorem driveLaw_iff (s : State) : DriveLaw s ↔ CrusherDriven s ∧ StepDriven s ∧ ChannelsFit s := by
  have hstep : StepDriven s ↔ (s.drive.step = true ↔ ∃ n t, s.carousel.index = .indexing n t) := by
    rw [StepDriven, Bool.eq_iff_iff, IndexState.isIndexing_iff]
  rw [hstep]
  unfold DriveLaw CrusherDriven ChannelsFit
  rw [and_assoc]

/-! ## The crusher drive -/

/-- R142: after a drive command shaft windows are counted exactly while the drive runs forward. -/
theorem driveCrusher_shaft {s : State} (h : CrusherDriven s) {u : State} (hshaft : u.measure = s.measure)
    (hdrive : u.drive.direction = s.drive.direction) (d : Direction) (v : Option Nat) :
    (driveCrusher d v u).measure.shaft ≠ .idle ↔ d = .forward := by
  obtain ⟨-, h⟩ := h
  simp only [driveCrusher_measure, hshaft, hdrive, shaftOnDirection]
  split_ifs with hsame hforward
  · rw [h, hsame]
  · simp [hforward]
  · simp [hforward]

/-- R104: a drive command in the direction of the crusher's state. -/
theorem driveCrusher_driven {s u : State} {d : Direction} {v : Option Nat} (h : CrusherDriven s)
    (hstate : u.crusher.state.direction = d) (hshaft : u.measure = s.measure)
    (hdrive : u.drive.direction = s.drive.direction) : CrusherDriven (driveCrusher d v u) :=
  ⟨hstate.symm, driveCrusher_shaft h hshaft hdrive d v⟩

theorem CrusherDriven.congr {s t : State} (h : CrusherDriven s) (hcrusher : t.crusher.state = s.crusher.state)
    (hdrive : t.drive.direction = s.drive.direction) (hshaft : t.measure.shaft = s.measure.shaft) :
    CrusherDriven t := by
  unfold CrusherDriven
  rw [hcrusher, hdrive, hshaft]
  exact h

theorem StepDriven.congr {s t : State} (h : StepDriven s) (hindex : t.carousel.index = s.carousel.index)
    (hstep : t.drive.step = s.drive.step) : StepDriven t := by
  unfold StepDriven
  rw [hindex, hstep]
  exact h

theorem ChannelsFit.congr {s t : State} (h : ChannelsFit s) (heq : t.drive.channels = s.drive.channels) :
    ChannelsFit t := fun sl => heq ▸ h sl

/-- What leaves the crusher's drive alone. -/
theorem CrusherDriven.of_same {s t : State} (h : CrusherDriven s)
    (heq : t.crusher.state = s.crusher.state ∧ t.drive.direction = s.drive.direction ∧
      t.measure.shaft = s.measure.shaft) : CrusherDriven t := h.congr heq.1 heq.2.1 heq.2.2

section
variable {s : State} (h : CrusherDriven s)
include h

theorem enterRunUp_driven : CrusherDriven (enterRunUp s) := driveCrusher_driven h rfl rfl rfl
theorem enterIdleRun_driven : CrusherDriven (enterIdleRun s) := driveCrusher_driven h rfl rfl rfl
theorem enterRunDown_driven : CrusherDriven (enterRunDown s) := driveCrusher_driven h rfl rfl rfl
theorem enterStopped_driven : CrusherDriven (enterStopped s) := driveCrusher_driven h rfl rfl rfl
theorem enterCrushing_driven : CrusherDriven (enterCrushing s) := driveCrusher_driven h rfl rfl rfl
theorem enterReversing_driven : CrusherDriven (enterReversing s) := driveCrusher_driven h rfl rfl rfl
theorem enterBlocked_driven : CrusherDriven (enterBlocked s) := driveCrusher_driven h rfl rfl rfl
theorem enterPassThrough_driven : CrusherDriven (enterPassThrough s) := driveCrusher_driven h rfl rfl rfl
theorem enterPurge_driven (n : Nat) (f : ChipFamily) : CrusherDriven (enterPurge n f s) :=
  driveCrusher_driven h rfl rfl rfl

theorem haltBlocked_driven (hstate : s.crusher.state = .blocked) : CrusherDriven (driveCrusher .stopped none s) :=
  driveCrusher_driven h (by rw [hstate]; rfl) rfl rfl

theorem crusherHalt_driven : CrusherDriven (crusherHalt s) := by
  unfold crusherHalt
  split
  · next hstate => exact haltBlocked_driven h hstate
  · exact enterStopped_driven h

end

theorem finishPurge_driven {s : State} (h : CrusherDriven s) (f : ChipFamily) : CrusherDriven (finishPurge f s) := by
  unfold finishPurge
  exact enterIdleRun_driven (h.of_same ⟨rfl, rfl, rfl⟩)

theorem crusherStopEntry_driven {s : State} (h : CrusherDriven s) : CrusherDriven (crusherStopEntry s) := by
  unfold crusherStopEntry
  split
  · exact crusherHalt_driven (h.of_same ⟨rfl, rfl, rfl⟩)
  · exact crusherHalt_driven h

/-- R116: the slot lot with one jam more, before the drive is commanded. -/
def countJam (x : SlotLot) (s : State) : State :=
  postHall .jam { s with crusher := { s.crusher with stallCount := 0, slot := some { x with jams := x.jams + 1 } } }

theorem jam_eq (x : SlotLot) (s : State) : jam x s =
    if x.jams + 1 ≤ s.line.nRetry then enterReversing (countJam x s)
    else postHall .crusherBlocked (enterBlocked (countJam x s)) := rfl

theorem jam_driven {s : State} (h : CrusherDriven s) (x : SlotLot) : CrusherDriven (jam x s) := by
  have hcount : CrusherDriven (countJam x s) := h.of_same (by simp [countJam])
  rw [jam_eq]
  split
  · exact enterReversing_driven hcount
  · exact (enterBlocked_driven hcount).of_same (by simp)

theorem actOnArrival_driven {s : State} (h : CrusherDriven s) (l : LotRecord) : CrusherDriven (actOnArrival l s) := by
  unfold actOnArrival
  split
  · split
    · exact h
    · exact enterCrushing_driven h
  · split_ifs
    · exact h
    · exact enterPassThrough_driven h
    · exact enterRunUp_driven h
  · exact h

theorem lotArrives_driven {s : State} (h : CrusherDriven s) (l : LotRecord) : CrusherDriven (lotArrives l s) :=
  actOnArrival_driven (s := placeInSlot l s) (h.of_same ⟨rfl, rfl, rfl⟩) l

theorem clearRetry_driven {s : State} (h : CrusherDriven s) (x : SlotLot) : CrusherDriven (clearRetry x s) := by
  have hslot : CrusherDriven (setSlot (some { x with jams := 0 }) s) := h.of_same ⟨rfl, rfl, rfl⟩
  simp only [clearRetry]
  split
  · exact enterStopped_driven hslot
  · exact enterRunUp_driven hslot

/-! ## Safe stop and restart -/

theorem arbiterStopEntry_same {s : State} (hstop : s.inSafeStop = true) :
    (arbiterStopEntry s).crusher.state = s.crusher.state ∧
      (arbiterStopEntry s).drive.direction = s.drive.direction ∧
      (arbiterStopEntry s).measure.shaft = s.measure.shaft ∧
      (arbiterStopEntry s).carousel.index = s.carousel.index ∧ (arbiterStopEntry s).drive.step = s.drive.step ∧
      (arbiterStopEntry s).drive.channels = s.drive.channels := by
  rcases arbiterStopEntry_cases hstop with ⟨-, heq⟩ | ⟨src, r, k, w, -, -, heq⟩ | ⟨src, r, k, g, d, -, -, heq⟩ <;>
    rw [heq] <;> simp

theorem arbiterRestart_same (s : State) :
    (arbiterRestart s).crusher.state = s.crusher.state ∧ (arbiterRestart s).drive.direction = s.drive.direction ∧
      (arbiterRestart s).measure.shaft = s.measure.shaft ∧ (arbiterRestart s).carousel.index = s.carousel.index ∧
      (arbiterRestart s).drive.step = s.drive.step ∧ (arbiterRestart s).drive.channels = s.drive.channels := by
  rcases arbiterRestart_cases s with ⟨-, heq⟩ | ⟨src, r, k, g, d, -, -, heq⟩ <;> rw [heq] <;> simp

theorem DriveLaw.congr {s t : State} (h : DriveLaw s)
    (heq : t.crusher.state = s.crusher.state ∧ t.drive.direction = s.drive.direction ∧
      t.measure.shaft = s.measure.shaft ∧ t.carousel.index = s.carousel.index ∧ t.drive.step = s.drive.step ∧
      t.drive.channels = s.drive.channels) : DriveLaw t := by
  obtain ⟨hdriven, hstep, hchannels⟩ := (driveLaw_iff s).mp h
  obtain ⟨h1, h2, h3, h4, h5, h6⟩ := heq
  exact (driveLaw_iff t).mpr ⟨hdriven.congr h1 h2 h3, hstep.congr h4 h5, hchannels.congr h6⟩

theorem Quiet.keepsDrive {s t : State} (q : Quiet s t) (h : DriveLaw s) : DriveLaw t := by
  obtain ⟨hdriven, hstep, hchannels⟩ := (driveLaw_iff s).mp h
  exact (driveLaw_iff t).mpr ⟨hdriven.congr q.crusher q.direction q.shaft, hstep.congr q.index q.step,
    q.channels hchannels⟩

theorem carouselStopEntry_driveLaw {s : State} (h : DriveLaw s) : DriveLaw (carouselStopEntry s) := by
  obtain ⟨hdriven, -, hchannels⟩ := (driveLaw_iff s).mp h
  unfold carouselStopEntry
  split
  · exact (driveLaw_iff _).mpr ⟨hdriven.of_same ⟨rfl, rfl, rfl⟩, rfl, hchannels⟩
  · exact h

theorem crusherStopEntry_driveLaw {s : State} (h : DriveLaw s) : DriveLaw (crusherStopEntry s) := by
  obtain ⟨hdriven, hstep, hchannels⟩ := (driveLaw_iff s).mp h
  exact (driveLaw_iff _).mpr ⟨crusherStopEntry_driven hdriven, hstep.congr (by simp) (by simp),
    hchannels.congr (by simp)⟩

theorem filterStopEntry_driveLaw {s : State} (h : DriveLaw s) : DriveLaw (filterStopEntry s) := by
  unfold filterStopEntry
  split
  · exact (recompute_quiet _).keepsDrive (h.congr (by simp))
  · exact h.congr (by simp)
  · exact h

theorem filterRestart_driveLaw {s : State} (h : DriveLaw s) : DriveLaw (filterRestart s) := by
  unfold filterRestart
  split
  · exact h.congr (by simp)
  · exact h.congr (by simp)
  · exact h

theorem stopEntry_driveLaw {s : State} (h : DriveLaw s) (hstop : s.inSafeStop = true) : DriveLaw (enterSafeStop s) :=
  enterSafeStop_keeps h hstop (fun _ _ hu q => q.keepsDrive hu)
    (fun _ hu h => h.congr (arbiterStopEntry_same hu)) (fun _ => carouselStopEntry_driveLaw)
    (fun _ => crusherStopEntry_driveLaw) fun _ => filterStopEntry_driveLaw

theorem restart_driveLaw {s : State} (h : DriveLaw s) :
    DriveLaw (repostSludge (filterRestart (arbiterRestart (restartStations s)))) := by
  have hrestart := filterRestart_driveLaw ((h.congr (t := restartStations s) ⟨rfl, rfl, rfl, rfl, rfl, rfl⟩).congr
    (arbiterRestart_same _))
  unfold repostSludge
  split
  · exact hrestart.congr ⟨rfl, rfl, rfl, rfl, rfl, rfl⟩
  · exact hrestart

/-! ## Every act -/

theorem LastStep.drive {s u : State} (h : LastStep s u) : u.crusher = s.crusher ∧ u.measure = s.measure ∧
    u.drive.direction = s.drive.direction ∧ u.drive.channels = s.drive.channels ∧
    (StepDriven s → u.drive.step = false) := by
  cases h with
  | made => simp
  | before n b hindex =>
    refine ⟨rfl, rfl, rfl, rfl, fun hstep => ?_⟩
    rw [StepDriven, hindex] at hstep
    exact hstep

/-- R104, R142, R152, R154, R159: every act keeps the law of the drives. -/
theorem Act.keepsDrive {s t : State} (h : DriveLaw s) (a : Act s t) : DriveLaw t := by
  obtain ⟨hdriven, hstep, hchannels⟩ := (driveLaw_iff s).mp h
  have crusher : ∀ {u : State}, CrusherDriven u → u.carousel.index = s.carousel.index ∧
      u.drive.step = s.drive.step ∧ u.drive.channels = s.drive.channels → DriveLaw u := fun hu heq =>
    (driveLaw_iff _).mpr ⟨hu, hstep.congr heq.1 heq.2.1, hchannels.congr heq.2.2⟩
  have index : ∀ {u : State}, u.drive.step = u.carousel.index.isIndexing → u.crusher.state = s.crusher.state ∧
      u.drive.direction = s.drive.direction ∧ u.measure.shaft = s.measure.shaft →
      u.drive.channels = s.drive.channels → DriveLaw u := fun hu heq hc =>
    (driveLaw_iff _).mpr ⟨hdriven.of_same heq, hu, hchannels.congr hc⟩
  cases a with
  | quiet q => exact q.keepsDrive h
  | startIndex | nextStep | resumeStep | retryStep | stepFails => exact index rfl ⟨rfl, rfl, rfl⟩ rfl
  | flush => exact index rfl ⟨rfl, rfl, rfl⟩ rfl
  | runOn n hindex =>
    refine index ?_ ⟨rfl, rfl, rfl⟩ rfl
    rw [StepDriven, hindex] at hstep
    exact hstep
  | arrive l rest hlast =>
    obtain ⟨hcrusher, hmeasure, hdirection, hc, hoff⟩ := hlast.drive
    refine (driveLaw_iff _).mpr ⟨lotArrives_driven (hdriven.of_same ?_) l, ?_, hchannels.congr ?_⟩
    · simp [hcrusher, hmeasure, hdirection]
    · simp [StepDriven, hoff hstep, IndexState.isIndexing]
    · simp [hc]
  | noLot hlast | flushEnd hlast =>
    obtain ⟨hcrusher, hmeasure, hdirection, hc, hoff⟩ := hlast.drive
    exact index (by simp [hoff hstep, IndexState.isIndexing]) (by simp [hcrusher, hmeasure, hdirection]) (by simp [hc])
  | runUp => exact crusher (enterRunUp_driven hdriven) ⟨rfl, rfl, rfl⟩
  | idleRun => exact crusher (enterIdleRun_driven hdriven) ⟨rfl, rfl, rfl⟩
  | runDown => exact crusher (enterRunDown_driven hdriven) ⟨rfl, rfl, rfl⟩
  | stopped => exact crusher (enterStopped_driven hdriven) ⟨rfl, rfl, rfl⟩
  | haltBlocked hstate => exact crusher (haltBlocked_driven hdriven hstate) ⟨rfl, rfl, rfl⟩
  | crush => exact crusher (enterCrushing_driven hdriven) ⟨rfl, rfl, rfl⟩
  | passThrough => exact crusher (enterPassThrough_driven hdriven) ⟨rfl, rfl, rfl⟩
  | purge => exact crusher (enterPurge_driven hdriven _ _) ⟨rfl, rfl, rfl⟩
  | finishPurge => exact crusher (finishPurge_driven hdriven _) (by simp)
  | jam => exact crusher (jam_driven hdriven _) (by simp)
  | emptyCrushing => exact crusher (enterIdleRun_driven (hdriven.of_same ⟨rfl, rfl, rfl⟩)) ⟨rfl, rfl, rfl⟩
  | emptyPassThrough => exact crusher (enterStopped_driven (hdriven.of_same ⟨rfl, rfl, rfl⟩)) ⟨rfl, rfl, rfl⟩
  | reject =>
    have hrejected : CrusherDriven (setBinGate .reject (setSlot none s)) := hdriven.of_same ⟨rfl, rfl, rfl⟩
    exact crusher ((enterStopped_driven hrejected).of_same ⟨rfl, rfl, rfl⟩) ⟨rfl, rfl, rfl⟩
  | clearRetry => exact crusher (clearRetry_driven hdriven _) (by simp)
  | shaft n ppr left n' ppr' left' hshaft =>
    obtain ⟨hdirection, hcounts⟩ := hdriven
    exact crusher ⟨hdirection, by simpa [hshaft] using hcounts⟩ ⟨rfl, rfl, rfl⟩
  | withdraw hwithdraw =>
    rw [withdrawRequest, if_pos hwithdraw]
    exact h.congr ⟨rfl, rfl, rfl, rfl, rfl, rfl⟩
  | choose | withdrawOffer | openGate | finalise => exact h.congr (by simp)
  | askChips | askSludge | survey | storeRequest | removeRequest | backwashStarts | backwashEnds | settle | settled
  | flag | fleeceIndex | fleeceTurn | fleeceEnds | fleeceLoaded | sprayTurn | causes =>
    exact h.congr ⟨rfl, rfl, rfl, rfl, rfl, rfl⟩
  | stopEntry c hstop hc => exact stopEntry_driveLaw (h.congr ⟨rfl, rfl, rfl, rfl, rfl, rfl⟩) hc
  | restart => exact restart_driveLaw h

/-! ## The step -/

/-- R117: what a write of the retry limit does to the blocks. -/
theorem retryLimitWritten_blocks (s : State) :
    (retryLimitWritten s).crusher.state = s.crusher.state ∧ (retryLimitWritten s).drive = s.drive ∧
      (retryLimitWritten s).measure = s.measure ∧ (retryLimitWritten s).carousel = s.carousel ∧
      (retryLimitWritten s).filter = s.filter ∧ (retryLimitWritten s).arbiter = s.arbiter ∧
      (retryLimitWritten s).store = s.store ∧ (retryLimitWritten s).stop = s.stop := by
  unfold retryLimitWritten
  split
  · simp
  · split_ifs <;> simp

/-- A law is kept by every piece of work where every act keeps it, a write of the working copy and of the retry limit
keep it, and power-on sets it up. -/
theorem Work.keeps {L : State → Prop} {s t : State} (hs : L s) (w : Work s t)
    (hact : ∀ s t, L s → Act s t → L t)
    (hitem : ∀ i v, (itemRange i).least ≤ v ∧ v ≤ (itemRange i).greatest →
      orderKept i (s.store.working.set i v) = true → (i.needsEmptyRing = true → s.carouselEmpty = true) →
      L (setWorking (s.store.working.set i v) s))
    (hload : ∀ n, (ringDiffers (s.store.nonVolatile.profile n).line s.line = true → s.carouselEmpty = true) →
      L (setWorking (s.store.nonVolatile.profile n) s))
    (hretry : ∀ u, L u → L (retryLimitWritten u))
    (hpower : ∀ good made, L (powerOnState s.store.nonVolatile good made s.ties s.pending)) : L t := by
  have hacts : ∀ {u v}, L u → Acts u v → L v := fun hu h => Acts.keeps hact h hu
  rcases w.acts with hrewrites | h
  · cases hrewrites with
    | item i v hrange horder hring =>
      have hwritten := hitem i v hrange horder hring
      by_cases hi : i = .line .nRetry
      · subst hi
        exact hretry _ hwritten
      · exact hacts hwritten (handOver_acts hi _)
    | load n hring => exact hacts (hretry _ (hacts (hload n hring) (loadBefore_acts _ s))) (loadProfile_acts _ s)
    | power v made =>
      simp only [powerUp]
      split
      · exact hpower _ made
      · exact hacts (hpower _ made) (addCause_acts _ _)
  · exact hacts hs h

theorem filterLaw_of_same {s t : State} (h : FilterLaw s) (hsame : SameFilter s t) (hstop : t.stop = s.stop) :
    FilterLaw t := by
  obtain ⟨hfits, hrests⟩ := (filterLaw_iff s).mp h
  exact (filterLaw_iff t).mpr ⟨hfits.congr hsame, hrests.congr hsame.1 hstop⟩

theorem powerOnState_filterLaw (n : NonVolatile) (good made : Bool) (ties : Nat) (q : List Instr) :
    FilterLaw (powerOnState n good made ties q) :=
  ⟨nofun, by simp [powerOnState, drivePowerOn, filterPowerOn], nofun,
    by simp [powerOnState, drivePowerOn, filterPowerOn], by simp [powerOnState, filterPowerOn, State.request,
      arbiterPowerOn]⟩

theorem powerOnState_driveLaw (n : NonVolatile) (good made : Bool) (ties : Nat) (q : List Instr) :
    DriveLaw (powerOnState n good made ties q) :=
  ⟨rfl, by simp [powerOnState, measurePowerOn, drivePowerOn],
    by simp [powerOnState, drivePowerOn, carouselPowerOn], fun sl => by
      simp [powerOnState, drivePowerOn, ChannelFits]⟩

/-- R43 to R59, R104, R142, R152, R159: every piece of work keeps the laws of the filter and of the drives. -/
theorem Work.keepsFilter {s t : State} (h : FilterLaw s) (w : Work s t) : FilterLaw t :=
  w.keeps h (fun _ _ h a => a.keepsFilter h)
    (fun _ _ _ _ _ => filterLaw_of_same h (sameFilter_of_arbiter ⟨rfl, rfl, rfl, rfl⟩) rfl)
    (fun _ _ => filterLaw_of_same h (sameFilter_of_arbiter ⟨rfl, rfl, rfl, rfl⟩) rfl)
    (fun u hu => filterLaw_of_same hu (sameFilter_of_arbiter (by simp)) (by simp))
    fun _ _ => powerOnState_filterLaw _ _ _ _ _

theorem Work.keepsDrive {s t : State} (h : DriveLaw s) (w : Work s t) : DriveLaw t :=
  w.keeps h (fun _ _ h a => a.keepsDrive h) (fun _ _ _ _ _ => h.congr ⟨rfl, rfl, rfl, rfl, rfl, rfl⟩)
    (fun _ _ => h.congr ⟨rfl, rfl, rfl, rfl, rfl, rfl⟩) (fun u hu => hu.congr (by simp [retryLimitWritten_blocks]))
    fun _ _ => powerOnState_driveLaw _ _ _ _ _

/-! ## A tick -/

theorem tickFilterState_same (f : FilterState) : (tickFilterState f).isIndexing = f.isIndexing ∧
    (tickFilterState f).isBackwash = f.isBackwash := by
  cases f with
  | filtering | backwash | indexing => exact ⟨rfl, rfl⟩
  | settle n => cases n <;> exact ⟨rfl, rfl⟩

theorem tick_filterLaw {s : State} (h : FilterLaw s) : FilterLaw (tick s) := by
  obtain ⟨⟨hfleece, hmotor, hbackwash, hspray, htrough⟩, hrests⟩ := (filterLaw_iff s).mp h
  obtain ⟨hi, hb⟩ := tickFilterState_same s.filter.state
  have hsprays : (tick s).drive.spray ≠ .off ↔ s.drive.spray ≠ .off := by
    cases hs : s.drive.spray <;> simp [tick, tickDrive, hs]
  refine (filterLaw_iff _).mpr ⟨⟨fun h => hfleece (hi ▸ h), hmotor.trans hi.symm, fun h => hbackwash (hb ▸ h), ?_, ?_⟩,
    fun hstop => ⟨hi.trans (hrests hstop).1, hb.trans (hrests hstop).2⟩⟩
  · rw [hsprays, hspray]
    exact (congrArg (· = true) hb.symm).to_iff
  · rw [request_tick, ne_eq, Option.map_eq_none_iff]
    exact htrough

theorem tick_direction (c : CrusherState) : (tickCrusherState c).direction = c.direction := by cases c <;> rfl

theorem tick_driveLaw {s : State} (h : DriveLaw s) : DriveLaw (tick s) := by
  obtain ⟨⟨hdirection, hshaft⟩, hstep, hchannels⟩ := (driveLaw_iff s).mp h
  have hshafts : (tick s).measure.shaft ≠ .idle ↔ s.measure.shaft ≠ .idle := by
    cases hs : s.measure.shaft <;> simp [tick, tickMeasure, hs]
  have hindex : (tick s).carousel.index.isIndexing = s.carousel.index.isIndexing := by
    cases hs : s.carousel.index <;> simp [tick, hs, IndexState.isIndexing]
  exact (driveLaw_iff _).mpr ⟨⟨hdirection.trans (tick_direction _).symm, hshafts.trans hshaft⟩,
    hstep.trans hindex.symm, hchannels⟩

/-- Settles O58, by the acts of which a step consists: each keeps the law of the filter and the law of the drives. -/
theorem stepKeepsFilterLaw : Obligations.StepKeepsFilterLaw := by
  unfold Obligations.StepKeepsFilterLaw
  intro s t hfilter hdrive hstep
  exact step_keeps (P := fun s => FilterLaw s ∧ DriveLaw s) (R := fun s => FilterLaw s ∧ DriveLaw s)
    (fun _ _ _ _ h => h) (fun _ _ _ _ h => h) (fun _ _ h w => ⟨w.keepsFilter h.1, w.keepsDrive h.2⟩)
    (fun _ h => ⟨tick_filterLaw h.1, tick_driveLaw h.2⟩) ⟨hfilter, hdrive⟩ hstep

end Sys2Proof.Machine
end

section
/-! The current discharge and the pockets (O57): at most one offer or open gate, and lots and reservation within N. -/

namespace Sys2Proof.Machine

/-! ## Requests, the current one and the open one -/

/-- Whether a place holds a request that is OFFERED or OPEN. -/
def placeCurrent (x : Option DischargeRequest) : Bool :=
  match x with
  | none => false
  | some r => r.isCurrent

/-- Whether a place holds a request that is OPEN. -/
def placeOpen (x : Option DischargeRequest) : Bool :=
  match x.map DischargeRequest.state with
  | some (.opened _ _ _) => true
  | _ => false

theorem isCurrent_eq (s : State) (a : Source) : s.isCurrent a ↔ placeCurrent (s.request a) = true := Iff.rfl

theorem isOpen_eq (s : State) (a : Source) : s.isOpen a = placeOpen (s.request a) := rfl

theorem isCurrent_iff (s : State) (a : Source) :
    s.isCurrent a ↔ ∃ r, s.request a = some r ∧ r.isCurrent = true := by
  rw [isCurrent_eq]
  cases s.request a <;> simp [placeCurrent]

theorem placeOpen_iff (x : Option DischargeRequest) :
    placeOpen x = true ↔ ∃ r k g d, x = some r ∧ r.state = .opened k g d := by
  cases x with
  | none => simp [placeOpen]
  | some r => cases hr : r.state <;> simp [placeOpen, hr]

theorem placeCurrent_of_open {x : Option DischargeRequest} (h : placeOpen x = true) : placeCurrent x = true := by
  obtain ⟨r, k, g, d, rfl, hr⟩ := (placeOpen_iff x).mp h
  simp [placeCurrent, DischargeRequest.isCurrent, hr]

theorem isCurrent_of_isOpen {s : State} {a : Source} (h : s.isOpen a = true) : s.isCurrent a := placeCurrent_of_open h

/-! ## The reservation -/

theorem reservedSpan_of_none {s : State} (h : ∀ a, ¬ s.isCurrent a) : s.reservedSpan = 0 := by
  rw [State.reservedSpan, (current_none_iff s).mpr h]

theorem reservedSpan_of_current {s : State} (hunique : ∀ a b, s.isCurrent a → s.isCurrent b → a = b) {src : Source}
    {r : DischargeRequest} (hr : s.request src = some r) (hc : r.isCurrent = true) :
    s.reservedSpan = r.state.span := by
  have hsrc : s.isCurrent src := (isCurrent_iff s src).mpr ⟨r, hr, hc⟩
  unfold State.reservedSpan
  split
  · next src' r' hcurrent =>
    obtain ⟨hr', hc'⟩ := current_some hcurrent
    obtain rfl := hunique src' src ((isCurrent_iff s src').mpr ⟨r', hr', hc'⟩) hsrc
    obtain rfl := Option.some.inj (hr.symm.trans hr')
    rfl
  · next hnone => exact absurd hsrc ((current_none_iff s).mp hnone src)

/-- The reservation falls where no request comes to be current. -/
theorem reservedSpan_le {s t : State} (hunique : ∀ a b, s.isCurrent a → s.isCurrent b → a = b)
    (h : ∀ a r, t.request a = some r → r.isCurrent = true → s.request a = some r) :
    t.reservedSpan ≤ s.reservedSpan := by
  unfold State.reservedSpan
  split
  · next src r hcurrent =>
    obtain ⟨hr, hc⟩ := current_some hcurrent
    exact (reservedSpan_of_current hunique (h src r hr hc) hc).ge
  · exact Nat.zero_le _

/-! ## The law -/

/-- The laws of the one discharge and of the pockets, but for what they say of index, survey and safe stop. -/
structure ChuteFits (s : State) : Prop where
  unique : ∀ a b, s.isCurrent a → s.isCurrent b → a = b
  gates : ∀ a, s.gateOpen a = s.isOpen a
  chute : s.measure.chute.enabled = true ↔ ∃ a, s.isOpen a = true
  spans : ∀ l ∈ s.carousel.queue, 1 ≤ l.span ∧ l.span ≤ 4
  requests : ∀ src r, s.request src = some r →
    1 ≤ r.estimate ∧ (r.isCurrent = true → 1 ≤ r.state.span ∧ r.state.span ≤ 4)
  pockets : s.lotPockets + s.reservedSpan ≤ s.line.inService

/-- R88, R65, R78: a current discharge stands only on a ring that is surveyed and rests, out of safe stop. -/
def ChuteFree (s : State) : Prop :=
  ∀ a, s.isCurrent a → s.carousel.index = .idle ∧ s.carousel.survey = .surveyed ∧ s.inSafeStop = false

theorem chuteLaw_iff (s : State) : DischargeLaw s ∧ PocketLaw s ↔ ChuteFits s ∧ ChuteFree s := by
  constructor
  · rintro ⟨⟨hunique, hfree, hgates, hchute⟩, hspans, hrequests, hpockets⟩
    exact ⟨⟨hunique, hgates, hchute, hspans, hrequests, hpockets⟩, hfree⟩
  · rintro ⟨⟨hunique, hgates, hchute, hspans, hrequests, hpockets⟩, hfree⟩
    exact ⟨⟨hunique, hfree, hgates, hchute⟩, hspans, hrequests, hpockets⟩

/-- What the law reads beside the requests, and but for index, survey and safe stop, is as it was. -/
def SameChute (s t : State) : Prop :=
  t.drive.gates = s.drive.gates ∧ t.drive.dumpValve = s.drive.dumpValve ∧
    t.measure.chute.enabled = s.measure.chute.enabled ∧
    t.carousel.queue.map LotRecord.span = s.carousel.queue.map LotRecord.span ∧ t.line.inService = s.line.inService

theorem SameChute.gateOpen {s t : State} (h : SameChute s t) (a : Source) : t.gateOpen a = s.gateOpen a := by
  obtain ⟨hgates, hdump, -⟩ := h
  cases a <;> simp [State.gateOpen, hgates, hdump]

theorem SameChute.lotPockets {s t : State} (h : SameChute s t) : t.lotPockets = s.lotPockets := by
  obtain ⟨-, -, -, hspans, -⟩ := h
  rw [State.lotPockets, State.lotPockets, hspans]

theorem SameChute.spans {s t : State} (h : SameChute s t) (hs : ∀ l ∈ s.carousel.queue, 1 ≤ l.span ∧ l.span ≤ 4) :
    ∀ l ∈ t.carousel.queue, 1 ≤ l.span ∧ l.span ≤ 4 := by
  obtain ⟨-, -, -, hspans, -⟩ := h
  intro l hl
  have hmem : l.span ∈ s.carousel.queue.map LotRecord.span := hspans ▸ List.mem_map_of_mem hl
  obtain ⟨l', hl', heq⟩ := List.mem_map.mp hmem
  exact heq ▸ hs l' hl'

theorem isCurrent_of_requests {s t : State} (h : t.arbiter.requests = s.arbiter.requests) (a : Source) :
    t.isCurrent a ↔ s.isCurrent a := by
  rw [isCurrent_eq, isCurrent_eq, State.request, h, State.request]

theorem isOpen_of_requests {s t : State} (h : t.arbiter.requests = s.arbiter.requests) (a : Source) :
    t.isOpen a = s.isOpen a := by
  rw [isOpen_eq, isOpen_eq, State.request, h, State.request]

theorem current_of_requests {s t : State} (h : t.arbiter.requests = s.arbiter.requests) : t.current = s.current := by
  unfold State.current currentAt
  rw [h]

theorem reservedSpan_of_requests {s t : State} (h : t.arbiter.requests = s.arbiter.requests) :
    t.reservedSpan = s.reservedSpan := by
  rw [State.reservedSpan, State.reservedSpan, current_of_requests h]

theorem ChuteFits.congr {s t : State} (h : ChuteFits s) (hrequests : t.arbiter.requests = s.arbiter.requests)
    (hsame : SameChute s t) : ChuteFits t where
  unique a b ha hb :=
    h.unique a b ((isCurrent_of_requests hrequests a).mp ha) ((isCurrent_of_requests hrequests b).mp hb)
  gates a := by rw [hsame.gateOpen, isOpen_of_requests hrequests, h.gates]
  chute := by
    rw [hsame.2.2.1, h.chute]
    simp only [isOpen_of_requests hrequests]
  spans := hsame.spans h.spans
  requests src r hr := h.requests src r (by rwa [State.request, ← hrequests])
  pockets := by
    rw [hsame.lotPockets, reservedSpan_of_requests hrequests, hsame.2.2.2.2]
    exact h.pockets

theorem ChuteFree.congr {s t : State} (h : ChuteFree s) (hrequests : t.arbiter.requests = s.arbiter.requests)
    (hring : t.carousel.index = s.carousel.index ∧ t.carousel.survey = s.carousel.survey ∧ t.stop = s.stop) :
    ChuteFree t := by
  obtain ⟨hindex, hsurvey, hstop⟩ := hring
  intro a ha
  rw [hindex, hsurvey, inSafeStop_congr hstop]
  exact h a ((isCurrent_of_requests hrequests a).mp ha)

/-! ## One place replaced -/

/-- R66, R75: one place of the arbiter is replaced, its gate and the chute counter being moved with it. -/
theorem ChuteFits.update {s t : State} (h : ChuteFits s) {src : Source} {x : Option DischargeRequest}
    (hrequest : ∀ a, t.request a = if a = src then x else s.request a)
    (hx : ∀ r, x = some r → 1 ≤ r.estimate ∧ (r.isCurrent = true → 1 ≤ r.state.span ∧ r.state.span ≤ 4))
    (hcurrent : placeCurrent x = true → ∀ a, a ≠ src → ¬ s.isCurrent a)
    (hgates : ∀ a, t.gateOpen a = if a = src then placeOpen x else s.gateOpen a)
    (hchute : t.measure.chute.enabled = true ↔
      placeOpen x = true ∨ s.measure.chute.enabled = true ∧ s.isOpen src = false)
    (hspans : ∀ l ∈ t.carousel.queue, 1 ≤ l.span ∧ l.span ≤ 4)
    (hpockets : t.lotPockets + t.reservedSpan ≤ t.line.inService) : ChuteFits t := by
  have hself : t.request src = x := by rw [hrequest, if_pos rfl]
  have hother : ∀ a, a ≠ src → t.request a = s.request a := fun a ha => by rw [hrequest, if_neg ha]
  have hcurrents : ∀ a, a ≠ src → (t.isCurrent a ↔ s.isCurrent a) := fun a ha => by
    rw [isCurrent_eq, isCurrent_eq, hother a ha]
  have hopens : ∀ a, a ≠ src → t.isOpen a = s.isOpen a := fun a ha => by rw [isOpen_eq, isOpen_eq, hother a ha]
  have hopenself : t.isOpen src = placeOpen x := by rw [isOpen_eq, hself]
  refine ⟨fun a b ha hb => ?_, fun a => ?_, ?_, hspans, fun a r hr => ?_, hpockets⟩
  · by_cases hasrc : a = src <;> by_cases hbsrc : b = src
    · rw [hasrc, hbsrc]
    · rw [hasrc, isCurrent_eq, hself] at ha
      exact absurd ((hcurrents b hbsrc).mp hb) (hcurrent ha b hbsrc)
    · rw [hbsrc, isCurrent_eq, hself] at hb
      exact absurd ((hcurrents a hasrc).mp ha) (hcurrent hb a hasrc)
    · exact h.unique a b ((hcurrents a hasrc).mp ha) ((hcurrents b hbsrc).mp hb)
  · rw [hgates]
    split
    · next ha => rw [ha, hopenself]
    · next ha => rw [hopens a ha, h.gates]
  · rw [hchute, h.chute]
    constructor
    · rintro (hopen | ⟨⟨a, ha⟩, hclosed⟩)
      · exact ⟨src, hopenself.trans hopen⟩
      · have hne : a ≠ src := fun heq => by simp [heq, hclosed] at ha
        exact ⟨a, (hopens a hne).trans ha⟩
    · rintro ⟨a, ha⟩
      by_cases hasrc : a = src
      · exact .inl (by rwa [hasrc, hopenself] at ha)
      · rw [hopens a hasrc] at ha
        refine .inr ⟨⟨a, ha⟩, Bool.eq_false_iff.mpr fun hsrc => hasrc ?_⟩
        exact h.unique a src (isCurrent_of_isOpen ha) (isCurrent_of_isOpen hsrc)
  · rw [hrequest] at hr
    split at hr
    · exact hx r hr
    · exact h.requests a r hr

/-- R61, R64, R70: a place that is not OPEN is emptied, or takes a request that is PENDING. -/
theorem ChuteFits.withdraw {s t : State} (h : ChuteFits s) {src : Source} {x : Option DischargeRequest}
    (hrequest : ∀ a, t.request a = if a = src then x else s.request a)
    (hx : ∀ r, x = some r → 1 ≤ r.estimate ∧ r.state = .pending) (hclosed : s.isOpen src = false)
    (hsame : SameChute s t) : ChuteFits t := by
  have hnot : placeCurrent x = false := by
    cases x with
    | none => rfl
    | some r => simp [placeCurrent, DischargeRequest.isCurrent, (hx r rfl).2]
  have hshut : placeOpen x = false := Bool.eq_false_iff.mpr fun hopen => by
    simp [placeCurrent_of_open hopen] at hnot
  refine h.update hrequest (fun r hr => ?_) (by simp [hnot]) (fun a => ?_) ?_ (hsame.spans h.spans) ?_
  · obtain ⟨hestimate, hpending⟩ := hx r hr
    exact ⟨hestimate, by simp [DischargeRequest.isCurrent, hpending]⟩
  · rw [hsame.gateOpen]
    split
    · next ha => rw [ha, h.gates, hclosed, hshut]
    · rfl
  · simp [hshut, hclosed, hsame.2.2.1]
  · rw [hsame.lotPockets, hsame.2.2.2.2]
    refine le_trans (Nat.add_le_add_left (reservedSpan_le h.unique fun a r hr hc => ?_) _) h.pockets
    rw [hrequest] at hr
    split at hr
    · simp [hr, placeCurrent, hc] at hnot
    · exact hr

end Sys2Proof.Machine
end

section
/-! The acts under the laws of the one discharge and of the pockets, and the step of those laws (O57). -/

namespace Sys2Proof.Machine

/-! ## Offers, gates and finalisations -/

theorem reservedSpan_le_of {s : State} {n : Nat}
    (h : ∀ a r, s.request a = some r → r.isCurrent = true → r.state.span ≤ n) : s.reservedSpan ≤ n := by
  unfold State.reservedSpan
  split
  · next src r hcurrent =>
    obtain ⟨hr, hc⟩ := current_some hcurrent
    exact h src r hr hc
  · exact Nat.zero_le _

/-- R66: the span of a request with an estimate is 1 to 4. -/
theorem requestSpan_bounds {estimate mPocket : Nat} (hestimate : 1 ≤ estimate) (hpocket : 1 ≤ mPocket) :
    1 ≤ requestSpan estimate mPocket ∧ requestSpan estimate mPocket ≤ 4 := by
  have hceil : 1 ≤ ceilDiv estimate mPocket := (Nat.one_le_div_iff hpocket).mpr (by omega)
  exact ⟨le_min (by decide) hceil, min_le_left _ _⟩

theorem chosenState_span (src : Source) (k : Nat) (l : LineParams) : (chosenState src k l).span = k := by
  cases src <;> rfl

theorem placeOpen_chosen (src : Source) (r : DischargeRequest) (k : Nat) (l : LineParams) :
    placeOpen (some { r with state := chosenState src k l }) = decide (src = .sludge) := by
  cases src <;> rfl

theorem choose_gateOpen (src a : Source) (r : DischargeRequest) (k : Nat) (s : State) :
    (choose src r k s).gateOpen a = if a = src ∧ src = .sludge then true else s.gateOpen a := by
  cases src <;> cases a <;> simp [choose, offerTo, openGate, State.gateOpen]

theorem choose_enabled (src : Source) (r : DischargeRequest) (k : Nat) (s : State) :
    (choose src r k s).measure.chute.enabled = (decide (src = .sludge) || s.measure.chute.enabled) := by
  cases src <;> simp [choose, offerTo, openGate]

/-- R66, R67, R76: the choice of a PENDING request whose span is free. -/
theorem ChuteFits.choose {s : State} (h : ChuteFits s) {src : Source} {r : DischargeRequest} {k : Nat}
    (hnone : ∀ a, ¬ s.isCurrent a) (hr : s.request src = some r) (hk : 1 ≤ k ∧ k ≤ 4) (hfree : k ≤ s.freePockets) :
    ChuteFits (choose src r k s) := by
  have hclosed : s.isOpen src = false := Bool.eq_false_iff.mpr fun hopen => hnone src (isCurrent_of_isOpen hopen)
  have hrequest := fun a => request_choose src a r k s
  refine h.update hrequest (fun r' hr' => ?_) (fun _ a _ => hnone a) (fun a => ?_) ?_ (by simpa using h.spans) ?_
  · cases hr'
    exact ⟨(h.requests src r hr).1, fun _ => by rwa [chosenState_span]⟩
  · rw [choose_gateOpen, placeOpen_chosen]
    by_cases ha : a = src
    · by_cases hs : src = .sludge
      · simp [ha, hs]
      · rw [ha, if_neg (by simp [hs]), if_pos rfl, h.gates, hclosed]
        simp [hs]
    · simp [ha]
  · rw [choose_enabled, placeOpen_chosen]
    simp [hclosed]
  · have hspan : (Machine.choose src r k s).reservedSpan ≤ k := by
      refine reservedSpan_le_of fun a r' hr' hc => ?_
      rw [hrequest] at hr'
      split at hr'
      · cases hr'
        exact (chosenState_span _ _ _).le
      · exact absurd ((isCurrent_iff s a).mpr ⟨r', hr', hc⟩) (hnone a)
    have hlots : (Machine.choose src r k s).lotPockets = s.lotPockets := by simp [State.lotPockets]
    have hline : (Machine.choose src r k s).line = s.line := by simp [State.line]
    have hpockets := h.pockets
    simp only [State.freePockets, State.occupied] at hfree
    rw [hlots, hline]
    omega

theorem openGate_gateOpen (src a : Source) (r : DischargeRequest) (k : Nat) (d : Option Nat) (s : State) :
    (openGate src r k d s).gateOpen a = if a = src then true else s.gateOpen a := by
  cases src <;> cases a <;> simp [openGate, State.gateOpen, PerStation.get_set]

/-- R68: an offered request is opened. -/
theorem ChuteFits.openGate {s : State} (h : ChuteFits s) {src : Source} {r : DischargeRequest} {k w : Nat}
    (hr : s.request src = some r) (hstate : r.state = .offered k w) (d : Option Nat) :
    ChuteFits (openGate src r k d s) := by
  have hc : r.isCurrent = true := by simp [DischargeRequest.isCurrent, hstate]
  have hsrc : s.isCurrent src := (isCurrent_iff s src).mpr ⟨r, hr, hc⟩
  have hspan : r.state.span = k := by rw [hstate]; rfl
  have hother : ∀ a, a ≠ src → ¬ s.isCurrent a := fun a ha hca => ha (h.unique a src hca hsrc)
  have hrequest := fun a => request_openGate src a r k d s
  refine h.update hrequest (fun r' hr' => ?_) (fun _ => hother) (fun a => openGate_gateOpen src a r k d s) ?_
    (by simpa using h.spans) ?_
  · cases hr'
    obtain ⟨hestimate, hbounds⟩ := h.requests src r hr
    exact ⟨hestimate, fun _ => hspan ▸ hbounds hc⟩
  · have henabled : (Machine.openGate src r k d s).measure.chute.enabled = true := by
      cases src <;> rfl
    exact iff_of_true henabled (.inl rfl)
  · have hreserved : (Machine.openGate src r k d s).reservedSpan ≤ k := by
      refine reservedSpan_le_of fun a r' hr' hc' => ?_
      rw [hrequest] at hr'
      split at hr'
      · cases hr'
        exact le_refl _
      · next ha => exact absurd ((isCurrent_iff s a).mpr ⟨r', hr', hc'⟩) (hother a ha)
    have hlots : (Machine.openGate src r k d s).lotPockets = s.lotPockets := by simp [State.lotPockets]
    have hline : (Machine.openGate src r k d s).line = s.line := by simp [State.line]
    have hbefore := reservedSpan_of_current h.unique hr hc
    have hpockets := h.pockets
    rw [hlots, hline]
    omega

theorem finalise_gateOpen (src a : Source) (r : DischargeRequest) (k : Nat) (c : EndCause) (s : State) :
    (finalise src r k c s).1.gateOpen a = if a = src then false else s.gateOpen a := by
  simp only [finalise]
  split <;> cases src <;> cases a <;> simp [closeDischarge, State.gateOpen, PerStation.get_set]

theorem finalise_enabled (src : Source) (r : DischargeRequest) (k : Nat) (c : EndCause) (s : State) :
    (finalise src r k c s).1.measure.chute.enabled = false := by
  simp only [finalise]
  split <;> cases src <;> simp [closeDischarge]

/-- R86: the lot that a finalisation makes of the measured mass. -/
def finalLot (src : Source) (r : DischargeRequest) (k : Nat) (c : EndCause) (s : State) : LotRecord :=
  newLot src r (measuredMass s) (lotSpan (measuredMass s) s.line.mPocket k)
    (endFlags (decide (k * s.line.mPocket < measuredMass s)) c) s

/-- R75, R86: the carousel after a finalisation: with a measured mass the lot joins the tail. -/
theorem finalise_carousel_eq (src : Source) (r : DischargeRequest) (k : Nat) (c : EndCause) (s : State) :
    (finalise src r k c s).1.carousel =
      if measuredMass s = 0 then s.carousel
      else { s.carousel with
        queue := s.carousel.queue ++ [finalLot src r k c s], counter := nextNumber (finalLot src r k c s).number } := by
  simp only [finalise]
  split
  · simp
  · cases src <;> simp [closeDischarge, finalLot]

/-- R86: the span of the lot is at least 1 and at most the reserved span. -/
theorem lotSpan_bounds {mass mPocket k : Nat} (hk : 1 ≤ k) : 1 ≤ lotSpan mass mPocket k ∧ lotSpan mass mPocket k ≤ k :=
  ⟨le_min hk (le_max_left _ _), min_le_left _ _⟩

/-- R75: an OPEN request is finalised. -/
theorem ChuteFits.finalise {s : State} (h : ChuteFits s) {src : Source} {r : DischargeRequest} {k g : Nat}
    {d : Option Nat} (hr : s.request src = some r) (hstate : r.state = .opened k g d) (c : EndCause) :
    ChuteFits (finalise src r k c s).1 := by
  have hc : r.isCurrent = true := by simp [DischargeRequest.isCurrent, hstate]
  have hspan : r.state.span = k := by rw [hstate]; rfl
  have hopen : s.isOpen src = true := (placeOpen_iff _).mpr ⟨r, k, g, d, hr, hstate⟩
  have hother : ∀ a, a ≠ src → ¬ s.isCurrent a := fun a ha hca => ha (h.unique a src hca (isCurrent_of_isOpen hopen))
  have hbounds := (h.requests src r hr).2 hc
  rw [hspan] at hbounds
  have hlot := lotSpan_bounds (mass := measuredMass s) (mPocket := s.line.mPocket) hbounds.1
  have hrequest := fun a => request_finalise src a r k c s
  refine h.update hrequest nofun nofun (fun a => finalise_gateOpen src a r k c s) ?_ ?_ ?_
  · simp [finalise_enabled, hopen, placeOpen]
  · rw [finalise_carousel_eq]
    split
    · exact h.spans
    · intro l hl
      rcases List.mem_append.mp hl with hl | hl
      · exact h.spans l hl
      · rw [List.mem_singleton.mp hl]
        exact ⟨hlot.1, hlot.2.trans hbounds.2⟩
  · have hnone : (Machine.finalise src r k c s).1.reservedSpan = 0 := by
      refine reservedSpan_of_none fun a ha => ?_
      obtain ⟨r', hr', hc'⟩ := (isCurrent_iff _ a).mp ha
      rw [hrequest] at hr'
      split at hr'
      · cases hr'
      · next ha => exact hother a ha ((isCurrent_iff s a).mpr ⟨r', hr', hc'⟩)
    have hline : (Machine.finalise src r k c s).1.line = s.line := by simp [State.line]
    have hlots : (Machine.finalise src r k c s).1.lotPockets ≤ s.lotPockets + k := by
      rw [State.lotPockets, finalise_carousel_eq]
      split
      · exact Nat.le_add_right _ _
      · simp only [List.map_append, List.sum_append, State.lotPockets]
        have hlot' : (finalLot src r k c s).span ≤ k := hlot.2
        simpa using hlot'
    have hbefore := reservedSpan_of_current h.unique hr hc
    have hpockets := h.pockets
    rw [hnone, hline]
    omega

end Sys2Proof.Machine
end

section
/-! Every act under the laws of the one discharge and of the pockets, and the step of those laws (O57). -/

namespace Sys2Proof.Machine

/-! ## Ring, safe stop and restart -/

/-- R90: the head lot leaves the ring. -/
theorem ChuteFits.tail {s t : State} (h : ChuteFits s) (hrequests : t.arbiter.requests = s.arbiter.requests)
    (hsame : t.drive.gates = s.drive.gates ∧ t.drive.dumpValve = s.drive.dumpValve ∧
      t.measure.chute.enabled = s.measure.chute.enabled ∧ t.line.inService = s.line.inService)
    (hqueue : t.carousel.queue = s.carousel.queue.tail) : ChuteFits t := by
  obtain ⟨hgates, hdump, henabled, hline⟩ := hsame
  have hgate : ∀ a, t.gateOpen a = s.gateOpen a := fun a => by cases a <;> simp [State.gateOpen, hgates, hdump]
  have hlots : t.lotPockets ≤ s.lotPockets := by
    rw [State.lotPockets, hqueue, State.lotPockets]
    cases s.carousel.queue <;> simp
  refine ⟨fun a b ha hb => ?_, fun a => ?_, ?_, fun l hl => ?_, fun src r hr => ?_, ?_⟩
  · exact h.unique a b ((isCurrent_of_requests hrequests a).mp ha) ((isCurrent_of_requests hrequests b).mp hb)
  · rw [hgate, isOpen_of_requests hrequests, h.gates]
  · rw [henabled, h.chute]
    simp only [isOpen_of_requests hrequests]
  · exact h.spans l (List.mem_of_mem_tail (hqueue ▸ hl))
  · exact h.requests src r (by rwa [State.request, ← hrequests])
  · rw [reservedSpan_of_requests hrequests, hline]
    exact le_trans (Nat.add_le_add_right hlots _) h.pockets

theorem Quiet.sameChute {s t : State} (q : Quiet s t) : SameChute s t :=
  ⟨q.gates, q.dumpValve, q.chute, by rw [q.queue], by rw [State.line, State.line, q.working]⟩

/-- R78: after the arbiter's part of the entry no discharge is current. -/
theorem arbiterStopEntry_noCurrent {s : State} (h : ChuteFits s) (hstop : s.inSafeStop = true) (a : Source) :
    ¬ (arbiterStopEntry s).isCurrent a := by
  rw [isCurrent_iff]
  rintro ⟨r', hr', hc'⟩
  have hother : ∀ {src : Source} {r : DischargeRequest}, s.current = some (src, r) → a ≠ src →
      s.request a ≠ some r' := fun hcurrent ha hreq => by
    obtain ⟨hr, hc⟩ := current_some hcurrent
    exact ha (h.unique a _ ((isCurrent_iff s a).mpr ⟨r', hreq, hc'⟩) ((isCurrent_iff s _).mpr ⟨_, hr, hc⟩))
  rcases arbiterStopEntry_cases hstop with ⟨hnone, heq⟩ | ⟨src, r, k, w, hcurrent, -, heq⟩ |
    ⟨src, r, k, g, d, hcurrent, -, heq⟩ <;> rw [heq] at hr'
  · exact (current_none_iff s).mp hnone a ((isCurrent_iff s a).mpr ⟨r', hr', hc'⟩)
  · rw [request_withdrawOffer] at hr'
    split at hr'
    · cases hr'
      cases hc'
    · next ha => exact hother hcurrent ha hr'
  · rw [request_keepLate, request_finalise] at hr'
    split at hr'
    · cases hr'
    · next ha => exact hother hcurrent ha hr'

theorem ChuteFits.withdrawOffer {s : State} (h : ChuteFits s) {src : Source} {r : DischargeRequest} {k w : Nat}
    (hr : s.request src = some r) (hstate : r.state = .offered k w) : ChuteFits (withdrawOffer src r s) := by
  refine h.withdraw (fun a => request_withdrawOffer src a r s) (fun r' hr' => ?_)
    (isOpen_of_request hr (by simp [hstate])) (by simp [SameChute, State.line])
  cases hr'
  exact ⟨(h.requests src r hr).1, rfl⟩

theorem arbiterStopEntry_chuteFits {s : State} (h : ChuteFits s) (hstop : s.inSafeStop = true) :
    ChuteFits (arbiterStopEntry s) := by
  rcases arbiterStopEntry_cases hstop with ⟨hnone, heq⟩ | ⟨src, r, k, w, hcurrent, hstate, heq⟩ |
    ⟨src, r, k, g, d, hcurrent, hstate, heq⟩ <;> rw [heq]
  · exact h
  · exact h.withdrawOffer (current_some hcurrent).1 hstate
  · have q := keepLate_quiet src (finalise src r k .cutShort s).2 (finalise src r k .cutShort s).1
    exact (h.finalise (current_some hcurrent).1 hstate _).congr q.requests q.sameChute

theorem filterStopEntry_drive (s : State) : (filterStopEntry s).drive.gates = s.drive.gates ∧
    (filterStopEntry s).drive.dumpValve = s.drive.dumpValve := by
  unfold filterStopEntry
  split
  · have q := recompute_quiet (setPendingFlag true (setFilterState .filtering (sprayOff s)))
    exact ⟨q.gates, q.dumpValve⟩
  · simp
  · simp

theorem filterRestart_drive (s : State) : (filterRestart s).drive.gates = s.drive.gates ∧
    (filterRestart s).drive.dumpValve = s.drive.dumpValve := by
  unfold filterRestart
  split <;> simp

theorem carouselStopEntry_same (s : State) :
    (carouselStopEntry s).drive.gates = s.drive.gates ∧ (carouselStopEntry s).drive.dumpValve = s.drive.dumpValve ∧
      (carouselStopEntry s).carousel.queue = s.carousel.queue := by
  unfold carouselStopEntry
  split <;> simp

theorem stopEntry_chuteFits {s : State} (h : ChuteFits s) (hstop : s.inSafeStop = true) :
    ChuteFits (enterSafeStop s) :=
  enterSafeStop_keeps h hstop (fun _ _ hu q => hu.congr q.requests q.sameChute)
    (fun _ hu h => arbiterStopEntry_chuteFits h hu)
    (fun u hu => hu.congr (by simp) (by simp [SameChute, carouselStopEntry_same, State.line]))
    (fun u hu => hu.congr (by simp) (by simp [SameChute, State.line]))
    fun u hu => hu.congr (by simp) (by simp [SameChute, filterStopEntry_drive, State.line])

theorem stopEntry_noCurrent {s : State} (h : ChuteFits s) (hstop : s.inSafeStop = true) (a : Source) :
    ¬ (enterSafeStop s).isCurrent a := by
  have q := stopFigure_quiet s
  have hu := arbiterStopEntry_noCurrent (h.congr q.requests q.sameChute) (q.inSafeStop.trans hstop) a
  rwa [← isCurrent_of_requests (t := enterSafeStop s) (by simp [enterSafeStop])] at hu

/-- R79: after the arbiter's part of a restart no gate is open, and lots and reservation are within N. -/
theorem arbiterRestart_chuteFits {s : State} (h : ChuteFits s) : ChuteFits (arbiterRestart s) := by
  have hnone : ∀ a, (arbiterRestart s).request a = none := fun a => request_arbiterRestart a s
  have hopen : ∀ a, (arbiterRestart s).isOpen a = false := fun a => by rw [isOpen_eq, hnone]; rfl
  have hcurrent : ∀ a, ¬ (arbiterRestart s).isCurrent a := fun a ha => by
    rw [isCurrent_eq, hnone] at ha
    cases ha
  have hreserved := reservedSpan_of_none hcurrent
  have key : (∀ a, (arbiterRestart s).gateOpen a = false) ∧ (arbiterRestart s).measure.chute.enabled = false ∧
      (∀ l ∈ (arbiterRestart s).carousel.queue, 1 ≤ l.span ∧ l.span ≤ 4) ∧
      (arbiterRestart s).lotPockets ≤ (arbiterRestart s).line.inService := by
    rcases arbiterRestart_cases s with ⟨hclosed, heq⟩ | ⟨src, r, k, g, d, hcurrent, hstate, heq⟩
    · have hshut : ∀ a, s.isOpen a = false := fun a => Bool.eq_false_iff.mpr fun ha => by
        obtain ⟨r, k, g, d, hr, hstate⟩ := (placeOpen_iff _).mp ha
        cases hc : s.current with
        | none => exact (current_none_iff s).mp hc a (isCurrent_of_isOpen ha)
        | some c =>
          obtain ⟨hr', hc'⟩ := current_some hc
          obtain rfl := h.unique a c.1 (isCurrent_of_isOpen ha) ((isCurrent_iff s _).mpr ⟨_, hr', hc'⟩)
          obtain rfl := Option.some.inj (hr.symm.trans hr')
          exact hclosed _ _ hc k g d hstate
      rw [heq]
      refine ⟨fun a => (h.gates a).trans (hshut a), ?_, h.spans, le_trans (Nat.le_add_right _ _) h.pockets⟩
      refine Bool.eq_false_iff.mpr fun henabled => ?_
      obtain ⟨a, ha⟩ := h.chute.mp henabled
      simp [hshut] at ha
    · have hfits := h.finalise (current_some hcurrent).1 hstate .cutShort
      have hsrc : s.isCurrent src := (isCurrent_iff s src).mpr ⟨r, current_some hcurrent⟩
      rw [heq]
      refine ⟨fun a => ?_, finalise_enabled src r k _ s, hfits.spans, le_trans (Nat.le_add_right _ _) hfits.pockets⟩
      show (finalise src r k .cutShort s).1.gateOpen a = false
      rw [finalise_gateOpen]
      split
      · rfl
      · next ha =>
        rw [h.gates]
        exact Bool.eq_false_iff.mpr fun hopen => ha (h.unique a src (isCurrent_of_isOpen hopen) hsrc)
  obtain ⟨hgates, henabled, hspans, hpockets⟩ := key
  refine ⟨fun a b ha => absurd ha (hcurrent a), fun a => (hgates a).trans (hopen a).symm, ?_, hspans,
    fun src r hr => ?_, by rw [hreserved]; exact hpockets⟩
  · simp [henabled, hopen]
  · simp [hnone] at hr

/-- R49: the estimate of a sludge request is above 0. -/
theorem sludgeEstimate_pos {p : Profile} (h : p.fits) : 1 ≤ sludgeEstimate p.line := by
  have hsludge := h.mSludge
  have hpocket := h.mPocket
  unfold sludgeEstimate
  omega

/-- R49, R76: source 7's request is stored PENDING where it had none OPEN. -/
theorem ChuteFits.storeSludge {s : State} (h : ChuteFits s) (hclosed : s.isOpen .sludge = false)
    (hfits : s.store.working.fits) : ChuteFits (storeSludge s) := by
  refine h.withdraw (x := some (sludgeRequest s)) (fun a => request_setPlace .sludge a _ s) (fun r hr => ?_) hclosed
    (by simp [SameChute, State.line])
  cases hr
  exact ⟨sludgeEstimate_pos hfits, rfl⟩

theorem restart_chuteFits {s : State} (h : ChuteFits s) (hfits : s.store.working.fits) :
    ChuteFits (repostSludge (filterRestart (arbiterRestart (restartStations s)))) := by
  have hstations : ChuteFits (restartStations s) := h.congr rfl ⟨rfl, rfl, rfl, rfl, rfl⟩
  have hfilter : ChuteFits (filterRestart (arbiterRestart (restartStations s))) :=
    (arbiterRestart_chuteFits hstations).congr (by simp) (by simp [SameChute, filterRestart_drive, State.line])
  unfold repostSludge
  split
  · refine hfilter.storeSludge ?_ (by simpa using hfits)
    rw [isOpen_eq, request_of_arbiter (s := arbiterRestart (restartStations s)) (by simp), request_arbiterRestart]
    rfl
  · exact hfilter

theorem restart_noCurrent (s : State) (a : Source) :
    ¬ (repostSludge (filterRestart (arbiterRestart (restartStations s)))).isCurrent a := by
  have hnone : ∀ a, (filterRestart (arbiterRestart (restartStations s))).request a = none := fun a =>
    (request_of_arbiter (s := arbiterRestart (restartStations s)) (by simp) a).trans (request_arbiterRestart a _)
  rw [isCurrent_eq]
  unfold repostSludge storeSludge
  split
  · rw [request_setPlace]
    split
    · simp [placeCurrent, sludgeRequest, DischargeRequest.isCurrent]
    · simp [hnone, placeCurrent]
  · simp [hnone, placeCurrent]

end Sys2Proof.Machine
end

section
/-! Every act under the laws of the one discharge and of the pockets, and the step of those laws (O57). -/

namespace Sys2Proof.Machine

theorem ChuteFree.of_none {t : State} (h : ∀ a, ¬ t.isCurrent a) : ChuteFree t := fun a ha => absurd ha (h a)

/-- R88: no discharge is current while an index is in progress, or on a ring that is not surveyed. -/
theorem ChuteFree.none_of_ring {s : State} (h : ChuteFree s)
    (hring : s.carousel.index ≠ .idle ∨ s.carousel.survey ≠ .surveyed) (a : Source) : ¬ s.isCurrent a := fun ha => by
  obtain ⟨hindex, hsurvey, -⟩ := h a ha
  exact hring.elim (· hindex) (· hsurvey)

theorem LastStep.index_ne {s u : State} (h : LastStep s u) : s.carousel.index ≠ .idle := by
  cases h with
  | made n t hindex => simp [hindex]
  | before n b hindex => simp [hindex]

theorem LastStep.same {s u : State} (h : LastStep s u) : u.arbiter = s.arbiter ∧ u.carousel = s.carousel ∧
    u.drive.gates = s.drive.gates ∧ u.drive.dumpValve = s.drive.dumpValve ∧ u.measure = s.measure ∧
    u.store = s.store ∧ u.crusher = s.crusher ∧ u.drive.binGate = s.drive.binGate ∧ u.stop = s.stop := by
  cases h <;> simp

/-- A request comes to be current where none was, or was already, on a ring that rests. -/
theorem ChuteFree.of_request {s t : State} (h : ∀ a, t.isCurrent a → s.isCurrent a) (hfree : ChuteFree s)
    (hring : t.carousel.index = s.carousel.index ∧ t.carousel.survey = s.carousel.survey ∧ t.stop = s.stop) :
    ChuteFree t := by
  obtain ⟨hindex, hsurvey, hstop⟩ := hring
  intro a ha
  rw [hindex, hsurvey, inSafeStop_congr hstop]
  exact hfree a (h a ha)

theorem isCurrent_of_place {s t : State} {src : Source} {x : Option DischargeRequest}
    (hrequest : ∀ a, t.request a = if a = src then x else s.request a)
    (hx : placeCurrent x = true → s.isCurrent src) (a : Source) (ha : t.isCurrent a) : s.isCurrent a := by
  rw [isCurrent_eq, hrequest] at ha
  split at ha
  · next heq => exact heq ▸ hx ha
  · exact ha

/-- R66, R84, R88, R162: every act keeps the laws of the one discharge and of the pockets. -/
theorem Act.keepsChute {s t : State} (hfits : ChuteFits s) (hfree : ChuteFree s) (hfilter : FilterLaw s)
    (hstore : s.store.working.fits) (a : Act s t) : ChuteFits t ∧ ChuteFree t := by
  have same : ∀ {u : State}, u.arbiter.requests = s.arbiter.requests → SameChute s u →
      u.carousel.index = s.carousel.index ∧ u.carousel.survey = s.carousel.survey ∧ u.stop = s.stop →
      ChuteFits u ∧ ChuteFree u := fun hrequests hsame hring =>
    ⟨hfits.congr hrequests hsame, hfree.congr hrequests hring⟩
  have moved : ∀ {u : State}, (∀ a, ¬ s.isCurrent a) → u.arbiter.requests = s.arbiter.requests → SameChute s u →
      ChuteFits u ∧ ChuteFree u := fun hnone hrequests hsame => ⟨hfits.congr hrequests hsame,
    .of_none fun a ha => hnone a ((isCurrent_of_requests hrequests a).mp ha)⟩
  cases a with
  | quiet q => exact same q.requests q.sameChute ⟨q.index, q.survey, q.stop⟩
  | startIndex l rest hmay hqueue =>
    have hnone : s.current = none := by
      simp only [State.indexMayStart, Bool.and_eq_true, Option.isNone_iff_eq_none] at hmay
      exact hmay.1.1.2
    exact moved ((current_none_iff s).mp hnone) rfl ⟨rfl, rfl, rfl, by simp [hqueue], rfl⟩
  | askChips | askSludge => exact same rfl ⟨rfl, rfl, rfl, rfl, rfl⟩ ⟨rfl, rfl, rfl⟩
  | withdraw hwithdraw =>
    rw [withdrawRequest, if_pos hwithdraw]
    exact same rfl ⟨rfl, rfl, rfl, rfl, rfl⟩ ⟨rfl, rfl, rfl⟩
  | nextStep n t hindex | resumeStep n b hindex | retryStep n hindex | runOn n hindex | stepFails n t hindex =>
    exact moved (hfree.none_of_ring (.inl (by simp [hindex]))) rfl ⟨rfl, rfl, rfl, rfl, rfl⟩
  | survey hsurvey | flush hsurvey =>
    exact moved (hfree.none_of_ring (.inr (by simp [hsurvey]))) rfl ⟨rfl, rfl, rfl, rfl, rfl⟩
  | flushEnd hlast hsurvey =>
    obtain ⟨harbiter, hcarousel, hgates, hdump, hmeasure, hstore, -⟩ := hlast.same
    exact moved (hfree.none_of_ring (.inr (by simp [hsurvey]))) (by simp [harbiter])
      (by simp [SameChute, hcarousel, hgates, hdump, hmeasure, State.line, hstore])
  | arrive l rest hlast | noLot hlast =>
    obtain ⟨harbiter, hcarousel, hgates, hdump, hmeasure, hstore, -⟩ := hlast.same
    have hnone := hfree.none_of_ring (.inl hlast.index_ne)
    refine ⟨hfits.tail (by simp [harbiter]) ?_ (by simp [hcarousel]), .of_none fun a ha => hnone a ?_⟩
    · simp [hgates, hdump, hmeasure, State.line, hstore]
    · exact (isCurrent_of_requests (by simp [harbiter]) a).mp ha
  | runUp | idleRun | runDown | stopped | crush | passThrough | purge | finishPurge | jam | emptyCrushing
  | emptyPassThrough | clearRetry =>
    exact same (by simp) (by simp [SameChute, State.line, enterRunUp, enterIdleRun, enterRunDown, enterStopped,
      enterCrushing, enterPassThrough, enterPurge]) (by simp)
  | reject => exact same rfl ⟨rfl, rfl, rfl, rfl, rfl⟩ ⟨rfl, rfl, rfl⟩
  | haltBlocked | shaft | backwashStarts | settle | settled | flag | fleeceIndex | fleeceTurn | fleeceEnds
  | fleeceLoaded
  | sprayTurn => exact same rfl ⟨rfl, rfl, rfl, rfl, rfl⟩ ⟨rfl, rfl, rfl⟩
  | choose src r hmay hr hstate hfree' =>
    obtain ⟨hnone, hsurvey, hindex, -, hstop⟩ := (mayArbitrate_iff s).mp hmay
    have hpocket := hstore.mPocket
    refine ⟨hfits.choose hnone hr (requestSpan_bounds (hfits.requests src r hr).1 ?_) hfree', fun a _ => ?_⟩
    · exact le_trans (by decide) hpocket.1
    · simpa [hindex, hsurvey, State.inSafeStop] using hstop
  | storeRequest st m estimate urgency hcurrent hestimate =>
    have hrequest := fun a => request_setPlace (.station st) a
      (some (DischargeRequest.mk (.chips m) estimate urgency .pending)) s
    refine ⟨hfits.withdraw hrequest (fun r hr => ?_) (Bool.eq_false_iff.mpr fun hopen => ?_)
      ⟨rfl, rfl, rfl, rfl, rfl⟩, hfree.of_request (isCurrent_of_place hrequest nofun) ⟨rfl, rfl, rfl⟩⟩
    · cases hr
      exact ⟨Nat.one_le_iff_ne_zero.mpr hestimate, rfl⟩
    · exact absurd (isCurrent_of_isOpen hopen) (by simp [State.isCurrent, hcurrent])
  | removeRequest st hclosed =>
    have hrequest := fun a => request_setPlace (.station st) a none s
    exact ⟨hfits.withdraw hrequest nofun hclosed ⟨rfl, rfl, rfl, rfl, rfl⟩,
      hfree.of_request (isCurrent_of_place hrequest nofun) ⟨rfl, rfl, rfl⟩⟩
  | withdrawOffer src r k w hr hstate =>
    exact ⟨hfits.withdrawOffer hr hstate,
      hfree.of_request (isCurrent_of_place (fun a => request_withdrawOffer src a r s) nofun) (by simp)⟩
  | openGate st r k w hr hstate =>
    have hsrc : s.isCurrent (.station st) :=
      (isCurrent_iff s _).mpr ⟨r, hr, by simp [DischargeRequest.isCurrent, hstate]⟩
    exact ⟨hfits.openGate hr hstate none,
      hfree.of_request (isCurrent_of_place (fun a => request_openGate _ a r k none s) fun _ => hsrc) (by simp)⟩
  | finalise src r k g d c hr hstate =>
    exact ⟨hfits.finalise hr hstate c,
      hfree.of_request (isCurrent_of_place (fun a => request_finalise src a r k c s) nofun) (by simp)⟩
  | backwashEnds n m hstate =>
    obtain ⟨hfilter, -⟩ := (filterLaw_iff s).mp hfilter
    have hempty : s.filter.troughFull = false := (hfilter.backwash (by rw [hstate]; rfl)).2
    have hnone : s.request .sludge = none := by
      by_contra hsome
      simp [hfilter.trough.mpr hsome] at hempty
    have hclosed : s.isOpen .sludge = false := by rw [isOpen_eq, hnone]; rfl
    have hu := hfits.congr (t := sprayOff { s with filter :=
      { s.filter with state := .settle (some m), troughFull := true, gap := 0 } }) rfl ⟨rfl, rfl, rfl, rfl, rfl⟩
    exact ⟨hu.storeSludge hclosed hstore,
      hfree.of_request (isCurrent_of_place (fun a => request_setPlace .sludge a _ _) nofun) ⟨rfl, rfl, rfl⟩⟩
  | causes c hc =>
    refine ⟨hfits.congr rfl ⟨rfl, rfl, rfl, rfl, rfl⟩, fun a ha => ?_⟩
    obtain ⟨hindex, hsurvey, hstop⟩ := hfree a ha
    exact ⟨hindex, hsurvey, Bool.eq_false_iff.mpr fun h => by simp [hc h] at hstop⟩
  | stopEntry c hstop hc =>
    have hu : ChuteFits { s with stop := c } := hfits.congr rfl ⟨rfl, rfl, rfl, rfl, rfl⟩
    exact ⟨stopEntry_chuteFits hu hc, .of_none (stopEntry_noCurrent hu hc)⟩
  | restart => exact ⟨restart_chuteFits hfits hstore, .of_none (restart_noCurrent s)⟩

/-! ## The working copy -/

/-- R128, R134: no act writes the working copy. -/
theorem Act.keepsWorking {s t : State} (a : Act s t) : t.store.working = s.store.working := by
  cases a with
  | quiet q => exact q.working
  | arrive l rest hlast | noLot hlast | flushEnd hlast =>
    have hstore := hlast.same.2.2.2.2.2.1
    simp [hstore]
  | reject => rfl
  | flush => simp [startFlush]
  | askChips | askSludge => rfl
  | _ => simp

theorem inService_set_of_ne {i : LineItem} (h : i ≠ .inService) (l : LineParams) (v : Int) :
    (l.set i v).inService = l.inService := by
  cases i <;> first | rfl | exact absurd rfl h

/-- R96, R128: a write changes N only while the carousel is empty. -/
theorem inService_set {i : Item} {p : Profile} {v : Int} {b : Bool} (hring : i.needsEmptyRing = true → b = true) :
    (p.set i v).line.inService = p.line.inService ∨ b = true := by
  cases i with
  | line i =>
    by_cases hi : i = .inService
    · exact .inr (hring (by rw [hi]; rfl))
    · exact .inl (inService_set_of_ne hi p.line v)
  | station | vmax | level | material => exact .inl rfl

theorem inService_of_ringDiffers {l l' : LineParams} {b : Bool} (hring : ringDiffers l l' = true → b = true) :
    l.inService = l'.inService ∨ b = true := by
  by_cases h : l.inService = l'.inService
  · exact .inl h
  · exact .inr (hring (by simp [ringDiffers, h]))

/-- R96: N may be written where no lot stands on the ring and no pocket is reserved. -/
theorem setWorking_chuteFits {s : State} (h : ChuteFits s) {p : Profile}
    (hp : p.line.inService = s.line.inService ∨ s.carouselEmpty = true) : ChuteFits (setWorking p s) := by
  rcases hp with hp | hempty
  · exact h.congr rfl ⟨rfl, rfl, rfl, rfl, hp⟩
  · obtain ⟨hqueue, hnone, -⟩ := (carouselEmpty_iff s).mp hempty
    have hlots : (setWorking p s).lotPockets = 0 := by simp [State.lotPockets, hqueue]
    have hreserved : (setWorking p s).reservedSpan = 0 := reservedSpan_of_none hnone
    obtain ⟨hunique, hgates, hchute, hspans, hrequests, -⟩ := h
    exact ⟨hunique, hgates, hchute, hspans, hrequests, by rw [hlots, hreserved]; exact Nat.zero_le _⟩

/-! ## The step -/

/-- The laws of the one discharge, of the pockets and of the filter over a working copy that fits. -/
structure ChuteLaws (s : State) : Prop where
  fits : ChuteFits s
  free : ChuteFree s
  filter : FilterLaw s
  working : s.store.working.fits

theorem ChuteFits.withLink {s : State} (h : ChuteFits s) (x : PerPort LinkPort) (q : List Instr) (n : Nat) :
    ChuteFits (s.withLink x q n) := h.congr rfl ⟨rfl, rfl, rfl, rfl, rfl⟩

theorem ChuteLaws.withLink {s : State} (h : ChuteLaws s) (x : PerPort LinkPort) (q : List Instr) (n : Nat) :
    ChuteLaws (s.withLink x q n) := ⟨h.fits.withLink x q n, h.free, h.filter, h.working⟩

theorem Act.keepsChuteLaws {s t : State} (h : ChuteLaws s) (a : Act s t) : ChuteLaws t := by
  obtain ⟨hfits, hfree⟩ := a.keepsChute h.fits h.free h.filter h.working
  exact ⟨hfits, hfree, a.keepsFilter h.filter, by rw [a.keepsWorking]; exact h.working⟩

theorem setWorking_chuteLaws {s : State} (h : ChuteLaws s) {p : Profile} (hp : p.fits)
    (hring : p.line.inService = s.line.inService ∨ s.carouselEmpty = true) : ChuteLaws (setWorking p s) :=
  ⟨setWorking_chuteFits h.fits hring, h.free.congr rfl ⟨rfl, rfl, rfl⟩,
    filterLaw_of_same h.filter (sameFilter_of_arbiter ⟨rfl, rfl, rfl, rfl⟩) rfl, hp⟩

theorem retryLimitWritten_chuteLaws {s : State} (h : ChuteLaws s) : ChuteLaws (retryLimitWritten s) := by
  exact ⟨h.fits.congr (by simp) (by simp [SameChute, State.line]), h.free.congr (by simp) (by simp),
    filterLaw_of_same h.filter (sameFilter_of_arbiter (by simp)) (by simp), by simpa using h.working⟩

theorem powerOnState_chuteFits (n : NonVolatile) (good made : Bool) (ties : Nat) (q : List Instr) :
    ChuteFits (powerOnState n good made ties q) := by
  have hnone : ∀ a, (powerOnState n good made ties q).request a = none := PerSource.get_same none
  have hcurrent : ∀ a, ¬ (powerOnState n good made ties q).isCurrent a := fun a ha => by
    rw [isCurrent_eq, hnone] at ha
    cases ha
  have hopen : ∀ a, (powerOnState n good made ties q).isOpen a = false := fun a => by rw [isOpen_eq, hnone]; rfl
  refine ⟨fun a b ha => absurd ha (hcurrent a), fun a => ?_, ?_, ?_, fun src r hr => ?_, ?_⟩
  · rw [hopen]
    cases a with
    | station st => exact PerStation.get_same false st
    | sludge => rfl
  · simp only [hopen]
    simp [powerOnState, measurePowerOn]
  · simp [powerOnState, carouselPowerOn]
  · simp [hnone] at hr
  · rw [reservedSpan_of_none hcurrent]
    simp [State.lotPockets, powerOnState, carouselPowerOn]

theorem powerOnState_chuteLaws {n : NonVolatile} (hn : (n.profile n.selector).fits) (good made : Bool) (ties : Nat)
    (q : List Instr) : ChuteLaws (powerOnState n good made ties q) := by
  refine ⟨powerOnState_chuteFits n good made ties q, .of_none fun a ha => ?_,
    powerOnState_filterLaw n good made ties q, hn⟩
  have hnone : ∀ a, (powerOnState n good made ties q).request a = none := PerSource.get_same none
  rw [isCurrent_eq, hnone] at ha
  cases ha

/-- R66, R84, R125: every piece of work keeps the laws of the one discharge and of the pockets. -/
theorem Work.keepsChute {s t : State} (h : ChuteLaws s) (hstore : StoreLaw s) (w : Work s t) : ChuteLaws t :=
  w.keeps h (fun _ _ h a => a.keepsChuteLaws h)
    (fun _ _ hrange horder hring => setWorking_chuteLaws h (Profile.fits_set h.working hrange horder)
      (inService_set hring))
    (fun n hring => setWorking_chuteLaws h (hstore.profile n) (inService_of_ringDiffers hring))
    (fun _ hu => retryLimitWritten_chuteLaws hu) fun _ _ => powerOnState_chuteLaws (hstore.profile _) _ _ _ _

/-! ## A tick -/

theorem tickRequest_state (r : DischargeRequest) : (tickRequest r).isCurrent = r.isCurrent ∧
    (tickRequest r).state.span = r.state.span ∧ placeOpen (some (tickRequest r)) = placeOpen (some r) := by
  cases hr : r.state <;> simp [tickRequest, DischargeRequest.isCurrent, DischargeState.span, placeOpen, hr]

theorem isCurrent_tick (s : State) (a : Source) : (tick s).isCurrent a ↔ s.isCurrent a := by
  rw [isCurrent_eq, isCurrent_eq, request_tick]
  cases s.request a with
  | none => rfl
  | some r => exact (congrArg (· = true) (tickRequest_state r).1).to_iff

theorem isOpen_tick (s : State) (a : Source) : (tick s).isOpen a = s.isOpen a := by
  rw [isOpen_eq, isOpen_eq, request_tick]
  cases s.request a with
  | none => rfl
  | some r => exact (tickRequest_state r).2.2

theorem reservedSpan_tick {s : State} (hunique : ∀ a b, s.isCurrent a → s.isCurrent b → a = b) :
    (tick s).reservedSpan ≤ s.reservedSpan := by
  refine reservedSpan_le_of fun a r' hr' hc' => ?_
  rw [request_tick] at hr'
  obtain ⟨r, hr, rfl⟩ := Option.map_eq_some_iff.mp hr'
  obtain ⟨hc, hspan, -⟩ := tickRequest_state r
  rw [hspan, reservedSpan_of_current hunique hr (hc ▸ hc')]

theorem tick_chuteFits {s : State} (h : ChuteFits s) : ChuteFits (tick s) where
  unique a b ha hb := h.unique a b ((isCurrent_tick s a).mp ha) ((isCurrent_tick s b).mp hb)
  gates a := by
    have hgate : (tick s).gateOpen a = s.gateOpen a := by cases a <;> rfl
    rw [hgate, isOpen_tick, h.gates]
  chute := by
    simp only [isOpen_tick]
    exact h.chute
  spans := h.spans
  requests src r' hr' := by
    rw [request_tick] at hr'
    obtain ⟨r, hr, rfl⟩ := Option.map_eq_some_iff.mp hr'
    obtain ⟨hc, hspan, -⟩ := tickRequest_state r
    rw [hc, hspan]
    exact h.requests src r hr
  pockets := le_trans (Nat.add_le_add_left (reservedSpan_tick h.unique) _) h.pockets

theorem tick_chuteFree {s : State} (h : ChuteFree s) : ChuteFree (tick s) := fun a ha => by
  obtain ⟨hindex, hsurvey, hstop⟩ := h a ((isCurrent_tick s a).mp ha)
  exact ⟨by simp [tick, hindex], hsurvey, hstop⟩

/-- Settles O57, by the acts of which a step consists: each keeps the laws of the one discharge and of the pockets,
over a working copy that fits and under the law of the filter. -/
theorem stepKeepsDischargeLaw : Obligations.StepKeepsDischargeLaw := by
  unfold Obligations.StepKeepsDischargeLaw
  intro s t hdischarge hpocket hstore hfilter hstep
  obtain ⟨hfits, hfree⟩ := (chuteLaw_iff s).mp ⟨hdischarge, hpocket⟩
  obtain ⟨⟨hfits', hfree'⟩, hstore'⟩ := step_keeps (P := fun s => ChuteLaws s ∧ StoreLaw s)
    (R := fun s => (ChuteFits s ∧ ChuteFree s) ∧ StoreLaw s)
    (fun _ _ _ _ h => ⟨h.1.withLink _ _ _, h.2⟩)
    (fun _ x q n h => ⟨⟨h.1.1.withLink x q n, h.1.2⟩, h.2⟩)
    (fun _ _ h w => ⟨⟨(w.keepsChute h.1 h.2).fits, (w.keepsChute h.1 h.2).free⟩, w.keepsStore h.2⟩)
    (fun _ h => ⟨⟨tick_chuteFits h.1.fits, tick_chuteFree h.1.free⟩, tick_storeLaw h.2⟩)
    ⟨⟨hfits, hfree, hfilter, hstore.1⟩, hstore⟩ hstep
  obtain ⟨hdischarge', hpocket'⟩ := (chuteLaw_iff t).mpr ⟨hfits', hfree'⟩
  exact ⟨hdischarge', hpocket', hstore'⟩

end Sys2Proof.Machine
end

section
/-! Lot numbers (O25): the search from the counter on meets a number that no live lot holds. -/

namespace Sys2Proof.Machine

/-- R83: the numbers from a number on, round from 65535 to 1. -/
theorem nextNumber_iterate {n : Nat} (h1 : 1 ≤ n) (h2 : n ≤ 65535) (i : Nat) (hi : i ≤ 65535) :
    nextNumber^[i] n = if n + i ≤ 65535 then n + i else n + i - 65535 := by
  induction i with
  | zero => simp [h2]
  | succ i ih =>
    rw [Function.iterate_succ_apply', ih (by omega)]
    simp only [nextNumber, Config.lotMax]
    split_ifs <;> omega

theorem nextNumber_iterate_range {n : Nat} (h1 : 1 ≤ n) (h2 : n ≤ 65535) (i : Nat) (hi : i ≤ 65535) :
    1 ≤ nextNumber^[i] n ∧ nextNumber^[i] n ≤ 65535 := by
  rw [nextNumber_iterate h1 h2 i hi]
  split <;> omega

/-- Up to 65535 numbers from a number on are distinct. -/
theorem nextNumber_iterate_inj {n : Nat} (h1 : 1 ≤ n) (h2 : n ≤ 65535) {i j : Nat} (hi : i < 65535) (hj : j < 65535)
    (h : nextNumber^[i] n = nextNumber^[j] n) : i = j := by
  rw [nextNumber_iterate h1 h2 i (by omega), nextNumber_iterate h1 h2 j (by omega)] at h
  split_ifs at h <;> omega

/-- R83: the search gives the first number that is not live, or runs through all its fuel. -/
theorem freeNumber_spec (live : List Nat) (fuel n : Nat) : ∃ j ≤ fuel,
    freeNumber live fuel n = nextNumber^[j] n ∧ (∀ i < j, nextNumber^[i] n ∈ live) ∧
      (j < fuel → freeNumber live fuel n ∉ live) := by
  induction fuel generalizing n with
  | zero => exact ⟨0, le_refl 0, rfl, nofun, nofun⟩
  | succ fuel ih =>
    unfold freeNumber
    split
    · next hlive =>
      obtain ⟨j, hj, heq, hbefore, hfree⟩ := ih (nextNumber n)
      refine ⟨j + 1, by omega, heq, fun i hi => ?_, fun h => hfree (by omega)⟩
      cases i with
      | zero => simpa using hlive
      | succ i => exact hbefore i (by omega)
    · next hfree => exact ⟨0, Nat.zero_le _, rfl, nofun, fun _ => by simpa using hfree⟩

/-- With one number more tried than there are live lots, one is free. -/
theorem freeNumber_free {live : List Nat} {n : Nat} (hlive : live.length < 65535) (h1 : 1 ≤ n) (h2 : n ≤ 65535) :
    ∃ j ≤ live.length, freeNumber live (live.length + 1) n = nextNumber^[j] n ∧
      (∀ i < j, nextNumber^[i] n ∈ live) ∧ freeNumber live (live.length + 1) n ∉ live := by
  obtain ⟨j, hj, heq, hbefore, hfree⟩ := freeNumber_spec live (live.length + 1) n
  have hlt : j < live.length + 1 := by
    refine lt_of_le_of_ne hj fun hall => ?_
    have hnodup : ((List.range (live.length + 1)).map fun i => nextNumber^[i] n).Nodup := by
      refine List.Nodup.map_on (fun a ha b hb hab => ?_) List.nodup_range
      rw [List.mem_range] at ha hb
      exact nextNumber_iterate_inj h1 h2 (by omega) (by omega) hab
    have hsubset : ((List.range (live.length + 1)).map fun i => nextNumber^[i] n) ⊆ live := by
      intro x hx
      obtain ⟨i, hi, rfl⟩ := List.mem_map.mp hx
      exact hbefore i (hall ▸ List.mem_range.mp hi)
    have hlength := (List.Nodup.subperm hnodup hsubset).length_le
    simp at hlength
  exact ⟨j, Nat.lt_succ_iff.mp hlt, heq, hbefore, hfree hlt⟩

/-- R83: the number of a new lot is free and in range, where fewer than 65535 lots are live. -/
theorem newNumber_free {s : State} (hlive : s.liveNumbers.length < 65535) (h1 : 1 ≤ s.carousel.counter)
    (h2 : s.carousel.counter ≤ 65535) :
    s.newNumber ∉ s.liveNumbers ∧ 1 ≤ s.newNumber ∧ s.newNumber ≤ 65535 := by
  obtain ⟨j, hj, heq, -, hfree⟩ := freeNumber_free hlive h1 h2
  refine ⟨hfree, ?_⟩
  rw [State.newNumber, heq]
  exact nextNumber_iterate_range h1 h2 j (by omega)

/-- Settles O25, by the search over at most 18 distinct numbers. -/
theorem lotNumbers : Obligations.LotNumbers := by
  unfold Obligations.LotNumbers
  intro s hlive h1 h2 next
  obtain ⟨hfree, hlow, hhigh⟩ := newNumber_free (by omega) h1 h2
  obtain ⟨j, hj, heq, hbefore, -⟩ := freeNumber_free (live := s.liveNumbers) (by omega) h1 h2
  exact ⟨hfree, hlow, hhigh, j, hj, heq, hbefore⟩

end Sys2Proof.Machine
end

section
/-! The ring under its law (O59): lot numbers distinct among the live lots, and one lot at most in motion. -/

namespace Sys2Proof.Machine

/-! ## What the law reads -/

/-- The lot in the crusher slot. -/
def State.slotLot (s : State) : Option LotRecord := s.crusher.slot.map SlotLot.lot

theorem liveNumbers_eq (s : State) :
    s.liveNumbers = s.carousel.queue.map LotRecord.number ++ (s.slotLot.map LotRecord.number).toList := by
  unfold State.liveNumbers State.slotLot
  cases s.crusher.slot <;> rfl

/-- The law of the ring (`RingLaw`) clause by clause, the crusher slot by its lot. -/
structure RingFits (s : State) : Prop where
  distinct : s.liveNumbers.Nodup
  numbers : ∀ n ∈ s.liveNumbers, 1 ≤ n ∧ n ≤ 65535
  counter : 1 ≤ s.carousel.counter ∧ s.carousel.counter ≤ 65535
  tail : ∀ x ∈ s.carousel.queue.tail, x.stage = .queued
  head : ∀ l, s.headLot = some l → l.stage = if s.carousel.index = .idle then .queued else .tipping
  slot : ∀ l, s.slotLot = some l → l.stage = .inCrusher
  unsurveyed : s.carousel.survey ≠ .surveyed → s.carousel.queue = [] ∧ s.carousel.requested = false ∧
    (s.carousel.index = .idle ↔ s.carousel.survey = .unsurveyed)
  moving : s.carousel.survey = .surveyed → s.carousel.index ≠ .idle → s.carousel.requested = true
  awaited : s.carousel.requested = true → ∃ l, s.headLot = some l ∧ s.crusher.awaited = some l.number
  unawaited : s.carousel.requested = false → s.crusher.awaited = none

theorem headLot_of_cons {s : State} {l : LotRecord} {rest : List LotRecord} (h : s.carousel.queue = l :: rest) :
    s.headLot = some l := by rw [State.headLot, h, List.head?_cons]

theorem ringLaw_iff (s : State) : RingLaw s ↔ RingFits s := by
  constructor
  · rintro ⟨hdistinct, hnumbers, hlow, hhigh, hqueue, hslot, hunsurveyed, hmoving, hawaited, hunawaited⟩
    refine ⟨hdistinct, hnumbers, ⟨hlow, hhigh⟩, fun x hx => ?_, fun l hl => ?_, fun l hl => ?_, hunsurveyed, hmoving,
      hawaited, hunawaited⟩
    · cases hq : s.carousel.queue with
      | nil => simp [hq] at hx
      | cons l rest => exact (hqueue l rest hq).1 x (by simpa [hq] using hx)
    · cases hq : s.carousel.queue with
      | nil => simp [State.headLot, hq] at hl
      | cons l' rest =>
        obtain rfl := Option.some.inj ((headLot_of_cons hq).symm.trans hl)
        exact (hqueue _ rest hq).2
    · obtain ⟨x, hx, rfl⟩ := Option.map_eq_some_iff.mp hl
      exact hslot x hx
  · rintro ⟨hdistinct, hnumbers, ⟨hlow, hhigh⟩, htail, hhead, hslot, hunsurveyed, hmoving, hawaited, hunawaited⟩
    refine ⟨hdistinct, hnumbers, hlow, hhigh, fun l rest hq => ⟨fun x hx => htail x ?_, hhead l (headLot_of_cons hq)⟩,
      fun x hx => hslot x.lot ?_, hunsurveyed, hmoving, hawaited, hunawaited⟩
    · simpa [hq] using hx
    · rw [State.slotLot, hx, Option.map_some]

/-- What the law reads is as it was. -/
def SameRing (s t : State) : Prop :=
  t.carousel.queue = s.carousel.queue ∧ t.carousel.counter = s.carousel.counter ∧
    t.carousel.requested = s.carousel.requested ∧ t.carousel.index = s.carousel.index ∧
    t.carousel.survey = s.carousel.survey ∧ t.slotLot = s.slotLot ∧ t.crusher.awaited = s.crusher.awaited

theorem RingFits.congr {s t : State} (h : RingFits s) (hsame : SameRing s t) : RingFits t := by
  obtain ⟨hqueue, hcounter, hrequested, hindex, hsurvey, hslot, hawaited⟩ := hsame
  have hlive : t.liveNumbers = s.liveNumbers := by rw [liveNumbers_eq, liveNumbers_eq, hqueue, hslot]
  have hhead : t.headLot = s.headLot := by rw [State.headLot, State.headLot, hqueue]
  constructor
  · rw [hlive]; exact h.distinct
  · rw [hlive]; exact h.numbers
  · rw [hcounter]; exact h.counter
  · rw [hqueue]; exact h.tail
  · rw [hhead, hindex]; exact h.head
  · rw [hslot]; exact h.slot
  · rw [hsurvey, hqueue, hrequested, hindex]; exact h.unsurveyed
  · rw [hsurvey, hindex, hrequested]; exact h.moving
  · rw [hrequested, hhead, hawaited]; exact h.awaited
  · rw [hrequested, hawaited]; exact h.unawaited

theorem Quiet.sameRing {s t : State} (q : Quiet s t) : SameRing s t :=
  ⟨q.queue, q.counter, q.requested, q.index, q.survey, by rw [State.slotLot, q.slot, State.slotLot], q.awaited⟩

/-! ## The index -/

/-- The index moves on, but neither comes to rest nor starts. -/
theorem RingFits.move {s t : State} (h : RingFits s) (hindex : s.carousel.index ≠ .idle)
    (hmoved : t.carousel.index ≠ .idle) (hcarousel : t.carousel = { s.carousel with index := t.carousel.index })
    (hslot : t.slotLot = s.slotLot) (hawaited : t.crusher.awaited = s.crusher.awaited) : RingFits t := by
  have hqueue : t.carousel.queue = s.carousel.queue := by rw [hcarousel]
  have hlive : t.liveNumbers = s.liveNumbers := by rw [liveNumbers_eq, liveNumbers_eq, hqueue, hslot]
  have hhead : t.headLot = s.headLot := by rw [State.headLot, State.headLot, hqueue]
  constructor
  · rw [hlive]; exact h.distinct
  · rw [hlive]; exact h.numbers
  · rw [hcarousel]; exact h.counter
  · rw [hqueue]; exact h.tail
  · rw [hhead, if_neg hmoved]
    simpa [hindex] using h.head
  · rw [hslot]; exact h.slot
  · rw [hcarousel]
    simpa [hindex, hmoved] using h.unsurveyed
  · rw [hcarousel]
    exact fun hsurvey _ => h.moving hsurvey hindex
  · rw [hhead, hawaited, hcarousel]; exact h.awaited
  · rw [hawaited, hcarousel]; exact h.unawaited

/-- R89: the index of the head lot starts. -/
theorem RingFits.start {s t : State} (h : RingFits s) {l : LotRecord} {rest : List LotRecord}
    (hmay : s.indexMayStart = true) (hqueue : s.carousel.queue = l :: rest)
    (hqueue' : t.carousel.queue = { l with stage := .tipping } :: rest)
    (hcarousel : t.carousel.counter = s.carousel.counter ∧ t.carousel.requested = s.carousel.requested ∧
      t.carousel.survey = s.carousel.survey ∧ t.carousel.index ≠ .idle)
    (hcrusher : t.crusher = s.crusher) : RingFits t := by
  obtain ⟨hcounter, hrequested, hsurvey, hindex⟩ := hcarousel
  simp only [State.indexMayStart, Bool.and_eq_true, decide_eq_true_eq] at hmay
  obtain ⟨⟨⟨⟨⟨hrequest, -⟩, hsurveyed⟩, -⟩, -⟩, -⟩ := hmay
  have hslot : t.slotLot = s.slotLot := by rw [State.slotLot, State.slotLot, hcrusher]
  have hlive : t.liveNumbers = s.liveNumbers := by
    rw [liveNumbers_eq, liveNumbers_eq, hqueue, hqueue', hslot]
    rfl
  constructor
  · rw [hlive]; exact h.distinct
  · rw [hlive]; exact h.numbers
  · rw [hcounter]; exact h.counter
  · have htail := h.tail
    rw [hqueue] at htail
    rw [hqueue']
    exact htail
  · intro l' hl'
    rw [headLot_of_cons hqueue', Option.some.injEq] at hl'
    rw [if_neg hindex, ← hl']
  · rw [hslot]; exact h.slot
  · exact fun hne => absurd (hsurvey.trans hsurveyed) hne
  · exact fun _ _ => hrequested.trans hrequest
  · intro _
    obtain ⟨l', hl', hawaited⟩ := h.awaited hrequest
    rw [headLot_of_cons hqueue, Option.some.injEq] at hl'
    exact ⟨_, headLot_of_cons hqueue', by rw [hcrusher, hawaited, ← hl']⟩
  · simp [hrequested, hrequest]

/-- R87: the index request stands, and its lot is awaited. -/
theorem RingFits.ask {s : State} (h : RingFits s) {l : LotRecord} (hhead : s.headLot = some l)
    (hmay : s.mayFeed = true) : RingFits (requestIndex l s) := by
  have hsurveyed : s.carousel.survey = .surveyed := by
    simp only [State.mayFeed, Bool.and_eq_true, decide_eq_true_eq] at hmay
    exact hmay.1.1.1.2
  exact ⟨h.distinct, h.numbers, h.counter, h.tail, h.head, h.slot, fun hne => absurd hsurveyed hne, fun _ _ => rfl,
    fun _ => ⟨l, hhead, rfl⟩, nofun⟩

/-- R87, R112: a request whose index has not started is withdrawn. -/
theorem RingFits.withdraw {s : State} (h : RingFits s) (hnot : s.requestNotStarted = true) :
    RingFits (withdrawRequest s) := by
  obtain ⟨hrequested, hindex⟩ : s.carousel.requested = true ∧ s.carousel.index = .idle := by
    simpa [State.requestNotStarted] using hnot
  have hsurveyed : s.carousel.survey = .surveyed := by
    by_contra hne
    simp [(h.unsurveyed hne).2.1] at hrequested
  rw [withdrawRequest, if_pos hnot]
  exact ⟨h.distinct, h.numbers, h.counter, h.tail, h.head, h.slot, fun hne => absurd hsurveyed hne,
    fun _ hne => absurd hindex hne, nofun, fun _ => rfl⟩

/-- R90, R113: the head lot leaves the ring for the empty slot. -/
theorem RingFits.arrive {s t : State} (h : RingFits s) {l : LotRecord} {rest : List LotRecord}
    (hempty : s.slotLot = none) (hqueue : s.carousel.queue = l :: rest)
    (hcarousel : t.carousel = { s.carousel with queue := rest, requested := false, index := .idle })
    (hslot : t.slotLot = some { l with stage := .inCrusher }) (hawaited : t.crusher.awaited = none) : RingFits t := by
  have hsurveyed : s.carousel.survey = .surveyed := by
    by_contra hne
    simp [(h.unsurveyed hne).1] at hqueue
  have hlive : s.liveNumbers = l.number :: rest.map LotRecord.number := by
    rw [liveNumbers_eq, hqueue, hempty]
    simp
  have hlive' : t.liveNumbers = rest.map LotRecord.number ++ [l.number] := by
    rw [liveNumbers_eq, hcarousel, hslot]
    rfl
  have hdistinct := h.distinct
  have hnumbers := h.numbers
  have htail := h.tail
  rw [hlive] at hdistinct hnumbers
  rw [hqueue] at htail
  constructor
  · rw [hlive', List.nodup_append_comm]
    exact hdistinct
  · rw [hlive']
    intro n hn
    refine hnumbers n ?_
    simpa [or_comm] using hn
  · rw [hcarousel]; exact h.counter
  · rw [hcarousel]
    exact fun x hx => htail x (List.mem_of_mem_tail hx)
  · intro l' hl'
    rw [State.headLot, hcarousel] at hl'
    rw [hcarousel, if_pos rfl]
    exact htail l' (List.mem_of_mem_head? hl')
  · intro l' hl'
    rw [hslot, Option.some.injEq] at hl'
    rw [← hl']
  · rw [hcarousel]
    exact fun hne => absurd hsurveyed hne
  · rw [hcarousel]
    exact fun _ hne => absurd rfl hne
  · rw [hcarousel]
    exact nofun
  · exact fun _ => hawaited

/-- The slot is emptied. -/
theorem RingFits.empty {s t : State} (h : RingFits s) (hcarousel : t.carousel = s.carousel)
    (hslot : t.slotLot = none) (hawaited : t.crusher.awaited = s.crusher.awaited) : RingFits t := by
  have hsub : t.liveNumbers.Sublist s.liveNumbers := by
    rw [liveNumbers_eq, liveNumbers_eq, hcarousel, hslot]
    simp
  have hhead : t.headLot = s.headLot := by rw [State.headLot, State.headLot, hcarousel]
  constructor
  · exact h.distinct.sublist hsub
  · exact fun n hn => h.numbers n (hsub.subset hn)
  · rw [hcarousel]; exact h.counter
  · rw [hcarousel]; exact h.tail
  · rw [hcarousel, hhead]; exact h.head
  · simp [hslot]
  · rw [hcarousel]; exact h.unsurveyed
  · rw [hcarousel]; exact h.moving
  · rw [hcarousel, hhead, hawaited]; exact h.awaited
  · rw [hcarousel, hawaited]; exact h.unawaited

/-- R97, R99: the ring is surveyed, its index at rest; no lot stands on it. -/
theorem RingFits.survey {s t : State} (h : RingFits s) (hsurvey : s.carousel.survey ≠ .surveyed)
    (hcarousel : t.carousel = { s.carousel with index := .idle, survey := .surveyed }) (hslot : t.slotLot = s.slotLot)
    (hawaited : t.crusher.awaited = s.crusher.awaited) : RingFits t := by
  obtain ⟨hqueue, hrequested, -⟩ := h.unsurveyed hsurvey
  have hlive : t.liveNumbers = s.liveNumbers := by rw [liveNumbers_eq, liveNumbers_eq, hcarousel, hslot]
  have hnone : t.headLot = none := by rw [State.headLot, hcarousel, hqueue]; rfl
  constructor
  · rw [hlive]; exact h.distinct
  · rw [hlive]; exact h.numbers
  · rw [hcarousel]; exact h.counter
  · rw [hcarousel]; exact h.tail
  · simp [hnone]
  · rw [hslot]; exact h.slot
  · simp [hcarousel]
  · simp [hcarousel]
  · simp [hcarousel, hrequested]
  · exact fun _ => hawaited.trans (h.unawaited hrequested)

/-- R99: a flush starts on a ring that is not surveyed. -/
theorem RingFits.flush {s t : State} (h : RingFits s) (hsurvey : s.carousel.survey = .unsurveyed)
    (hcarousel : t.carousel = { s.carousel with index := t.carousel.index, survey := .flushing })
    (hindex : t.carousel.index ≠ .idle) (hslot : t.slotLot = s.slotLot)
    (hawaited : t.crusher.awaited = s.crusher.awaited) : RingFits t := by
  obtain ⟨hqueue, hrequested, -⟩ := h.unsurveyed (by simp [hsurvey])
  have hlive : t.liveNumbers = s.liveNumbers := by rw [liveNumbers_eq, liveNumbers_eq, hcarousel, hslot]
  have hnone : t.headLot = none := by rw [State.headLot, hcarousel, hqueue]; rfl
  constructor
  · rw [hlive]; exact h.distinct
  · rw [hlive]; exact h.numbers
  · rw [hcarousel]; exact h.counter
  · rw [hcarousel]; exact h.tail
  · simp [hnone]
  · rw [hslot]; exact h.slot
  · rw [hcarousel]
    exact fun _ => ⟨hqueue, hrequested, by simp [hindex]⟩
  · rw [hcarousel]
    exact nofun
  · rw [hcarousel]
    simp [hrequested]
  · exact fun _ => hawaited.trans (h.unawaited hrequested)

/-! ## A lot admitted -/

theorem finalLot_stage (src : Source) (r : DischargeRequest) (k : Nat) (c : EndCause) (s : State) :
    (finalLot src r k c s).stage = .queued ∧ (finalLot src r k c s).number = s.newNumber := ⟨rfl, rfl⟩

theorem nextNumber_range {n : Nat} (h2 : n ≤ 65535) : 1 ≤ nextNumber n ∧ nextNumber n ≤ 65535 := by
  have hmax : Config.lotMax = 65535 := rfl
  unfold nextNumber
  split <;> omega

/-- R83, R86: the lot of a finalisation joins the tail with a number of its own. -/
theorem RingFits.finalise {s t : State} (h : RingFits s) {src : Source} {r : DischargeRequest} {k : Nat}
    {c : EndCause} (hcarousel : t.carousel = (finalise src r k c s).1.carousel) (hcrusher : t.crusher = s.crusher)
    (hring : s.carousel.index = .idle ∧ s.carousel.survey = .surveyed) (hlive : s.liveNumbers.length < 65535) :
    RingFits t := by
  obtain ⟨hindex, hsurvey⟩ := hring
  have hslot : t.slotLot = s.slotLot := by rw [State.slotLot, State.slotLot, hcrusher]
  rw [finalise_carousel_eq] at hcarousel
  split at hcarousel
  · exact h.congr ⟨by rw [hcarousel], by rw [hcarousel], by rw [hcarousel], by rw [hcarousel], by rw [hcarousel], hslot,
      by rw [hcrusher]⟩
  · obtain ⟨hfree, hlow, hhigh⟩ := newNumber_free hlive h.counter.1 h.counter.2
    have hqueue : t.carousel.queue = s.carousel.queue ++ [finalLot src r k c s] := by rw [hcarousel]
    have hperm : t.liveNumbers.Perm (s.newNumber :: s.liveNumbers) := by
      rw [liveNumbers_eq, liveNumbers_eq, hqueue, hslot, List.map_append, List.append_assoc]
      exact List.perm_middle
    have hhead : ∀ l, s.headLot = some l → t.headLot = some l := fun l hl => by
      rw [State.headLot] at hl ⊢
      rw [hqueue, List.head?_append, hl]
      rfl
    constructor
    · exact hperm.nodup_iff.mpr (List.nodup_cons.mpr ⟨hfree, h.distinct⟩)
    · intro n hn
      rcases List.mem_cons.mp (hperm.subset hn) with rfl | hn
      · exact ⟨hlow, hhigh⟩
      · exact h.numbers n hn
    · rw [hcarousel]
      exact nextNumber_range hhigh
    · intro x hx
      rw [hqueue] at hx
      cases hq : s.carousel.queue with
      | nil => simp [hq] at hx
      | cons l rest =>
        have htail := h.tail
        rw [hq] at htail hx
        rcases List.mem_append.mp hx with hx | hx
        · exact htail x hx
        · rw [List.mem_singleton.mp hx]
          rfl
    · intro l hl
      have hidle : t.carousel.index = .idle := by rw [hcarousel]; exact hindex
      rw [if_pos hidle]
      cases hq : s.carousel.queue with
      | nil =>
        rw [State.headLot, hqueue, hq] at hl
        cases hl
        rfl
      | cons l' rest =>
        have hs := headLot_of_cons hq
        obtain rfl := Option.some.inj ((hhead l' hs).symm.trans hl)
        exact (h.head _ hs).trans (if_pos hindex)
    · rw [hslot]; exact h.slot
    · rw [hcarousel]
      exact fun hne => absurd hsurvey hne
    · rw [hcarousel]
      exact h.moving
    · intro hrequested
      rw [hcarousel] at hrequested
      obtain ⟨l, hl, hawaited⟩ := h.awaited hrequested
      exact ⟨l, hhead l hl, by rw [hcrusher]; exact hawaited⟩
    · rw [hcarousel, hcrusher]
      exact h.unawaited

/-- R81, R84: at most N lots stand on the ring, and one in the slot. -/
theorem liveNumbers_length {s : State} (h : ChuteFits s) (hfits : s.store.working.fits) :
    s.liveNumbers.length ≤ 17 := by
  have hN : s.line.inService ≤ 16 := by
    have hrange := (hfits.line .inService).2
    simpa [lineItemRange, LineParams.get, State.line] using hrange
  have hlots : ∀ q : List LotRecord, (∀ l ∈ q, 1 ≤ l.span ∧ l.span ≤ 4) → q.length ≤ (q.map LotRecord.span).sum := by
    intro q
    induction q with
    | nil => simp
    | cons l q ih =>
      intro hq
      have hl := (hq l (by simp)).1
      have hrest := ih fun x hx => hq x (by simp [hx])
      simp only [List.length_cons, List.map_cons, List.sum_cons]
      omega
  have hqueue := hlots _ h.spans
  have hpockets := h.pockets
  have hslot : (s.slotLot.map LotRecord.number).toList.length ≤ 1 := by cases s.slotLot <;> simp
  rw [liveNumbers_eq, List.length_append, List.length_map]
  simp only [State.lotPockets] at hpockets
  omega

end Sys2Proof.Machine
end

section
/-! The crusher slot under its law (O59): in each state the slot holds what Table 06-2 says. -/

namespace Sys2Proof.Machine

/-- Table 06-2: what the slot holds in a state, and what is awaited in PURGE. -/
def SlotOfState (c : CrusherState) (slot : Option SlotLot) (awaited : Option Nat) : Prop :=
  match c with
  | .crushing => ∃ x, slot = some x ∧ x.lot.isSludge = false
  | .reversing _ => ∃ x, slot = some x ∧ x.lot.isSludge = false
  | .blocked => ∃ x, slot = some x ∧ x.lot.isSludge = false
  | .passThrough => ∃ x, slot = some x ∧ x.lot.isSludge = true
  | .idleRun _ => slot = none
  | .purge _ _ => slot = none ∧ awaited = none
  | .stopped => True
  | .runUp _ => True
  | .runDown _ => True

/-- The law of the crusher slot (`CrusherLaw`) but for the jam count, the awaited lot being the head lot (R87). -/
structure SlotFits (s : State) : Prop where
  state : SlotOfState s.crusher.state s.crusher.slot s.crusher.awaited
  single : s.crusher.slot ≠ none → s.crusher.awaited = none
  sludge : s.carousel.requested = true → ∀ l, s.headLot = some l → l.isSludge = true → s.crusher.state = .stopped
  gate : ∀ f, s.crusher.family = some f → s.drive.binGate = .bin f
  slotFamily : ∀ l f, s.slotLot = some l → l.family = .chip f → s.crusher.family = some f
  awaitedFamily : s.carousel.requested = true → ∀ l f, s.headLot = some l → l.family = .chip f →
    s.crusher.family = some f
  sludgeJams : ∀ x, s.crusher.slot = some x → x.lot.isSludge = true → x.jams = 0

/-- R116: a jam count never exceeds the retry limit plus one, and equals it only in BLOCKED. -/
def JamsFit (s : State) : Prop := ∀ x, s.crusher.slot = some x →
  x.jams ≤ s.line.nRetry + 1 ∧ (x.jams = s.line.nRetry + 1 → s.crusher.state = .blocked)

/-- R87: the awaited lot is the head lot while an index request stands. -/
theorem awaitedLot_eq {s : State} (h : RingFits s) :
    s.crusher.awaited.bind s.queuedLot = if s.carousel.requested = true then s.headLot else none := by
  split
  · next hrequested =>
    obtain ⟨l, hl, hawaited⟩ := h.awaited hrequested
    rw [hawaited, Option.bind_some, hl, State.queuedLot]
    unfold State.headLot at hl
    obtain ⟨rest, hq⟩ := List.head?_eq_some_iff.mp hl
    simp [hq]
  · next hrequested => rw [h.unawaited (Bool.eq_false_iff.mpr hrequested), Option.bind_none]

theorem crusherLaw_iff {s : State} (h : RingFits s) : CrusherLaw s ↔ SlotFits s ∧ JamsFit s := by
  have hawaited : ∀ P : LotRecord → Prop, (∀ l, s.crusher.awaited.bind s.queuedLot = some l → P l) ↔
      (s.carousel.requested = true → ∀ l, s.headLot = some l → P l) := fun P => by
    rw [awaitedLot_eq h]
    by_cases hrequested : s.carousel.requested = true <;> simp [hrequested]
  have hslot : ∀ P : LotRecord → Prop, (∀ l, s.slotLot = some l → P l) ↔ ∀ x, s.crusher.slot = some x → P x.lot :=
    fun P => by
      unfold State.slotLot
      cases s.crusher.slot <;> simp
  constructor
  · rintro ⟨hstate, hsingle, hsludge, hgate, hfamily, hawaitedFamily, hjams⟩
    refine ⟨⟨hstate, hsingle, (hawaited _).mp hsludge, hgate, fun l f hl => ?_, fun hr l f hl => ?_,
      fun x hx => (hjams x hx).1⟩, fun x hx => (hjams x hx).2⟩
    · exact (hslot fun l => ∀ f, l.family = .chip f → s.crusher.family = some f).mpr
        (fun x hx f => hfamily x f hx) l hl f
    · exact (hawaited fun l => ∀ f, l.family = .chip f → s.crusher.family = some f).mp
        (fun l hl f => hawaitedFamily l f hl) hr l hl f
  · rintro ⟨⟨hstate, hsingle, hsludge, hgate, hfamily, hawaitedFamily, hzero⟩, hjams⟩
    refine ⟨hstate, hsingle, (hawaited _).mpr hsludge, hgate, fun x f hx => ?_, fun l f hl => ?_,
      fun x hx => ⟨hzero x hx, hjams x hx⟩⟩
    · exact (hslot fun l => ∀ f, l.family = .chip f → s.crusher.family = some f).mp
        (fun l hl f => hfamily l f hl) x hx f
    · exact (hawaited fun l => ∀ f, l.family = .chip f → s.crusher.family = some f).mpr
        (fun hr l hl f => hawaitedFamily hr l f hl) l hl f

/-! ## What leaves the law alone -/

/-- What the law reads is as it was, the head lot where an index request stands. -/
def SameSlot (s t : State) : Prop :=
  t.crusher.state = s.crusher.state ∧ t.crusher.slot = s.crusher.slot ∧ t.crusher.awaited = s.crusher.awaited ∧
    t.crusher.family = s.crusher.family ∧ t.drive.binGate = s.drive.binGate ∧
    t.carousel.requested = s.carousel.requested ∧
    (s.carousel.requested = true → t.headLot.map LotRecord.content = s.headLot.map LotRecord.content)

theorem isSludge_of_content {l l' : LotRecord} (h : l.content = l'.content) : l.isSludge = l'.isSludge := by
  rw [LotRecord.isSludge, h, LotRecord.isSludge]

theorem family_of_content {l l' : LotRecord} (h : l.content = l'.content) : l.family = l'.family := by
  rw [LotRecord.family, h, LotRecord.family]

theorem SlotFits.congr {s t : State} (h : SlotFits s) (hsame : SameSlot s t) : SlotFits t := by
  obtain ⟨hstate, hslot, hawaited, hfamily, hgate, hrequested, hhead⟩ := hsame
  have head : t.carousel.requested = true → ∀ l, t.headLot = some l →
      ∃ l', s.headLot = some l' ∧ l'.content = l.content := fun hr l hl => by
    have heq := hhead (hrequested ▸ hr)
    rw [hl, Option.map_some] at heq
    exact Option.map_eq_some_iff.mp heq.symm
  constructor
  · rw [hstate, hslot, hawaited]; exact h.state
  · rw [hslot, hawaited]; exact h.single
  · intro hr l hl hs
    obtain ⟨l', hl', heq⟩ := head hr l hl
    rw [hstate]
    exact h.sludge (hrequested ▸ hr) l' hl' ((isSludge_of_content heq).trans hs)
  · rw [hfamily, hgate]; exact h.gate
  · rw [State.slotLot, hslot, hfamily]; exact h.slotFamily
  · intro hr l f hl hf
    obtain ⟨l', hl', heq⟩ := head hr l hl
    rw [hfamily]
    exact h.awaitedFamily (hrequested ▸ hr) l' f hl' ((family_of_content heq).trans hf)
  · rw [hslot]; exact h.sludgeJams

theorem JamsFit.congr {s t : State} (h : JamsFit s) (hstate : t.crusher.state = s.crusher.state)
    (hslot : t.crusher.slot = s.crusher.slot) (hline : t.store.working = s.store.working) : JamsFit t := by
  intro x hx
  have hbounds := h x (hslot ▸ hx)
  rw [hstate, State.line, hline]
  exact hbounds

theorem headLot_of_queue {s t : State} (h : t.carousel.queue = s.carousel.queue) : t.headLot = s.headLot := by
  rw [State.headLot, State.headLot, h]

theorem Quiet.sameSlot {s t : State} (q : Quiet s t) : SameSlot s t :=
  ⟨q.crusher, q.slot, q.awaited, q.family, q.binGate, q.requested, fun _ => by rw [headLot_of_queue q.queue]⟩

/-! ## States entered -/

/-- R87: a lot in the slot, or nothing awaited, leaves no index request. -/
theorem requested_of_awaited {s : State} (h : RingFits s) (hawaited : s.crusher.awaited = none) :
    s.carousel.requested = false := by
  refine Bool.eq_false_iff.mpr fun hr => ?_
  obtain ⟨l, -, hl⟩ := h.awaited hr
  simp [hl] at hawaited

/-- A state is entered with slot, family and bin gate as they are. -/
theorem SlotFits.enter {s t : State} (h : SlotFits s)
    (hcrusher : t.crusher.slot = s.crusher.slot ∧ t.crusher.awaited = s.crusher.awaited ∧
      t.crusher.family = s.crusher.family) (hgate : t.drive.binGate = s.drive.binGate)
    (hcarousel : t.carousel = s.carousel)
    (hstate : SlotOfState t.crusher.state s.crusher.slot s.crusher.awaited)
    (hsludge : s.carousel.requested = true → ∀ l, s.headLot = some l → l.isSludge = true →
      t.crusher.state = .stopped) : SlotFits t := by
  obtain ⟨hslot, hawaited, hfamily⟩ := hcrusher
  have hhead := headLot_of_queue (s := s) (t := t) (by rw [hcarousel])
  constructor
  · rw [hslot, hawaited]; exact hstate
  · rw [hslot, hawaited]; exact h.single
  · rw [hcarousel, hhead]; exact hsludge
  · rw [hfamily, hgate]; exact h.gate
  · rw [State.slotLot, hslot, hfamily]; exact h.slotFamily
  · rw [hcarousel, hhead, hfamily]; exact h.awaitedFamily
  · rw [hslot]; exact h.sludgeJams

/-- R116, R118: a state is entered in which the slot lot has another jam count. -/
theorem SlotFits.jam {s t : State} (h : SlotFits s) (hring : RingFits s) {x : SlotLot} {n : Nat}
    (hslot : s.crusher.slot = some x) (hchips : x.lot.isSludge = false)
    (hcrusher : t.crusher.slot = some { x with jams := n } ∧ t.crusher.awaited = s.crusher.awaited ∧
      t.crusher.family = s.crusher.family) (hgate : t.drive.binGate = s.drive.binGate)
    (hcarousel : t.carousel = s.carousel)
    (hstate : (∃ m, t.crusher.state = .reversing m) ∨ t.crusher.state = .blocked ∨ t.crusher.state = .stopped ∨
      ∃ m, t.crusher.state = .runUp m) : SlotFits t := by
  obtain ⟨hslot', hawaited, hfamily⟩ := hcrusher
  have hnone : s.crusher.awaited = none := h.single (by simp [hslot])
  have hrequested : t.carousel.requested = false := by rw [hcarousel]; exact requested_of_awaited hring hnone
  constructor
  · rw [hslot']
    rcases hstate with ⟨m, hstate⟩ | hstate | hstate | ⟨m, hstate⟩ <;> rw [hstate]
    · exact ⟨_, rfl, hchips⟩
    · exact ⟨_, rfl, hchips⟩
    · trivial
    · trivial
  · exact fun _ => hawaited.trans hnone
  · simp [hrequested]
  · rw [hfamily, hgate]; exact h.gate
  · intro l f hl hf
    rw [State.slotLot, hslot', Option.map_some, Option.some.injEq] at hl
    rw [hfamily]
    exact h.slotFamily l f (by rw [State.slotLot, hslot, Option.map_some, hl]) hf
  · simp [hrequested]
  · intro y hy hs
    rw [hslot', Option.some.injEq] at hy
    rw [← hy, hchips] at hs
    cases hs

/-- R108, R114, R118, R119: the crusher comes to rest or to IDLE_RUN with the slot empty and nothing awaited. -/
theorem SlotFits.of_empty {t : State} (hring : RingFits t) (hawaited : t.crusher.awaited = none)
    (hslot : t.crusher.slot = none) (hgate : ∀ f, t.crusher.family = some f → t.drive.binGate = .bin f)
    (hstate : t.crusher.state = .stopped ∨ ∃ n, t.crusher.state = .idleRun n) : SlotFits t := by
  have hrequested := requested_of_awaited hring hawaited
  constructor
  · rw [hslot]
    rcases hstate with hstate | ⟨n, hstate⟩ <;> rw [hstate]
    · trivial
    · rfl
  · simp [hslot]
  · simp [hrequested]
  · exact hgate
  · simp [State.slotLot, hslot]
  · simp [hrequested]
  · simp [hslot]

/-! ## Index requests and arrivals -/

/-- R106, R111: the crusher asks for the head lot. -/
theorem SlotFits.ask {s : State} (h : SlotFits s) {l : LotRecord} (hhead : s.headLot = some l)
    (hmay : s.mayFeed = true)
    (hlot : (∃ f n, l.family = .chip f ∧ s.crusher.family = some f ∧ s.crusher.state = .idleRun n) ∨
      l.content = .sludge ∧ s.crusher.state = .stopped) : SlotFits (requestIndex l s) := by
  have hslot : s.crusher.slot = none := by
    simp only [State.mayFeed, Bool.and_eq_true, Option.isNone_iff_eq_none] at hmay
    exact hmay.1.1.1.1.1
  have hnone : (requestIndex l s).slotLot = none := by rw [State.slotLot]; simp [requestIndex, hslot]
  have hhead' : ∀ l', (requestIndex l s).headLot = some l' → l' = l := fun l' hl' =>
    Option.some.inj (hl'.symm.trans hhead)
  constructor
  · rcases hlot with ⟨f, n, -, -, hstate⟩ | ⟨-, hstate⟩ <;>
      simp [requestIndex, SlotOfState, hstate, hslot]
  · simp [requestIndex, hslot]
  · intro _ l' hl' hs
    rw [hhead' l' hl'] at hs
    rcases hlot with ⟨f, n, hf, -, -⟩ | ⟨-, hstate⟩
    · cases hc : l.content <;> simp [LotRecord.family, LotRecord.isSludge, hc] at hf hs
    · exact hstate
  · exact h.gate
  · simp [hnone]
  · intro _ l' f hl' hf
    rw [hhead' l' hl'] at hf
    rcases hlot with ⟨f', n, hf', hfamily, -⟩ | ⟨hs, -⟩
    · rw [hf, Family.chip.injEq] at hf'
      exact hf' ▸ hfamily
    · simp [LotRecord.family, hs] at hf
  · simp [requestIndex, hslot]

/-- R87, R112: nothing is awaited any more. -/
theorem SlotFits.unask {s t : State} (h : SlotFits s) (hcrusher : t.crusher = { s.crusher with awaited := none })
    (hgate : t.drive.binGate = s.drive.binGate) (hrequested : t.carousel.requested = false) : SlotFits t := by
  constructor
  · have hstate := h.state
    rw [hcrusher]
    cases hc : s.crusher.state <;> simp_all [SlotOfState]
  · simp [hcrusher]
  · simp [hrequested]
  · rw [hcrusher, hgate]; exact h.gate
  · rw [State.slotLot, hcrusher]; exact h.slotFamily
  · simp [hrequested]
  · rw [hcrusher]; exact h.sludgeJams

end Sys2Proof.Machine
end

section
/-! Every act under the laws of the ring and of the crusher slot (O59). -/

namespace Sys2Proof.Machine

/-! ## Arrival -/

@[simp] theorem actOnArrival_crusher (l : LotRecord) (s : State) :
    (actOnArrival l s).crusher.slot = s.crusher.slot ∧ (actOnArrival l s).crusher.awaited = s.crusher.awaited ∧
      (actOnArrival l s).crusher.family = s.crusher.family := by
  unfold actOnArrival
  split
  · split <;> simp [enterCrushing]
  · split_ifs <;> simp [enterPassThrough, enterRunUp]
  · simp

/-- R113: what a lot that arrives leaves in the crusher. -/
theorem lotArrives_crusher (l : LotRecord) (s : State) :
    (∃ m, (lotArrives l s).crusher.slot = some ⟨{ l with stage := .inCrusher }, m, 0⟩) ∧
      (lotArrives l s).crusher.awaited = none ∧ (lotArrives l s).crusher.family = s.crusher.family := by
  simp [lotArrives, placeInSlot]

/-- R113: the state that an arriving lot leaves, where the crusher was free for it. -/
theorem actOnArrival_state {l : LotRecord} {s : State}
    (hfree : s.crusher.state = .stopped ∨ (∃ n, s.crusher.state = .runUp n) ∨ (∃ n, s.crusher.state = .runDown n) ∨
      ∃ n, s.crusher.state = .idleRun n ∧ l.isSludge = false) {x : SlotLot} (hx : x.lot.isSludge = l.isSludge) :
    SlotOfState (actOnArrival l s).crusher.state (some x) none := by
  unfold actOnArrival
  rcases hfree with hstate | ⟨n, hstate⟩ | ⟨n, hstate⟩ | ⟨n, hstate, hchips⟩ <;> simp only [hstate]
  · split_ifs with hstop hsludge
    · rw [hstate]
      trivial
    · exact ⟨x, rfl, hx.trans hsludge⟩
    · trivial
  · trivial
  · trivial
  · rw [hchips, if_neg (by simp)]
    exact ⟨x, rfl, hx.trans hchips⟩

/-- R87: the state of a crusher that awaits a lot with its slot empty. -/
theorem SlotFits.state_of_awaited {s : State} (h : SlotFits s) {l : LotRecord} (hhead : s.headLot = some l)
    (hrequested : s.carousel.requested = true) (hempty : s.crusher.slot = none) (hawaited : s.crusher.awaited ≠ none) :
    s.crusher.state = .stopped ∨ (∃ n, s.crusher.state = .runUp n) ∨ (∃ n, s.crusher.state = .runDown n) ∨
      ∃ n, s.crusher.state = .idleRun n ∧ l.isSludge = false := by
  have hstate := h.state
  rw [hempty] at hstate
  cases hc : s.crusher.state <;> simp only [hc, SlotOfState, reduceCtorEq, false_and, exists_false] at hstate
  · exact .inl rfl
  · exact .inr (.inl ⟨_, rfl⟩)
  · refine .inr (.inr (.inr ⟨_, rfl, Bool.eq_false_iff.mpr fun hs => ?_⟩))
    simpa [hc] using h.sludge hrequested l hhead hs
  · exact absurd hstate.2 hawaited
  · exact .inr (.inr (.inl ⟨_, rfl⟩))

theorem SlotFits.arrive {s u : State} (h : SlotFits s) {l : LotRecord} (hhead : s.headLot = some l)
    (hrequested : s.carousel.requested = true) (hempty : s.crusher.slot = none) (hawaited : s.crusher.awaited ≠ none)
    (hcrusher : u.crusher = s.crusher) (hgate : u.drive.binGate = s.drive.binGate)
    (hdone : u.carousel.requested = false) : SlotFits (lotArrives l u) := by
  obtain ⟨⟨m, hslot⟩, hnone, hfamily⟩ := lotArrives_crusher l u
  have hdone' : (lotArrives l u).carousel.requested = false := by simpa using hdone
  constructor
  · rw [hslot, hnone]
    refine actOnArrival_state (s := placeInSlot l u) ?_ rfl
    have hfree := h.state_of_awaited hhead hrequested hempty hawaited
    rwa [← hcrusher] at hfree
  · exact fun _ => hnone
  · exact fun hr => absurd (hdone'.symm.trans hr) (by simp)
  · intro f hf
    rw [hfamily, hcrusher] at hf
    simpa [hgate] using h.gate f hf
  · intro l' f hl hf
    rw [State.slotLot, hslot, Option.map_some, Option.some.injEq] at hl
    rw [hfamily, hcrusher]
    exact h.awaitedFamily hrequested l f hhead (by rw [← hf, ← hl]; rfl)
  · exact fun hr => absurd (hdone'.symm.trans hr) (by simp)
  · intro x hx _
    rw [hslot, Option.some.injEq] at hx
    rw [← hx]

/-! ## Jams, halts and finalisations -/

theorem jam_crusher (x : SlotLot) (s : State) :
    (jam x s).crusher.slot = some { x with jams := x.jams + 1 } ∧ (jam x s).crusher.awaited = s.crusher.awaited ∧
      (jam x s).crusher.family = s.crusher.family ∧
      (x.jams + 1 ≤ s.line.nRetry ∧ (∃ m, (jam x s).crusher.state = .reversing m) ∨
        s.line.nRetry < x.jams + 1 ∧ (jam x s).crusher.state = .blocked) := by
  rw [jam_eq]
  split
  · next h => simp [enterReversing, countJam, h]
  · next h => simp [enterBlocked, countJam, Nat.lt_of_not_le h]

theorem clearRetry_crusher (x : SlotLot) (s : State) :
    (clearRetry x s).crusher.slot = some { x with jams := 0 } ∧
      (clearRetry x s).crusher.awaited = s.crusher.awaited ∧ (clearRetry x s).crusher.family = s.crusher.family ∧
      ((clearRetry x s).crusher.state = .stopped ∨ ∃ m, (clearRetry x s).crusher.state = .runUp m) := by
  simp only [clearRetry]
  split
  · simp [enterStopped]
  · simp [enterRunUp]

theorem crusherHalt_crusher (s : State) :
    (crusherHalt s).crusher.slot = s.crusher.slot ∧ (crusherHalt s).crusher.awaited = s.crusher.awaited ∧
      (crusherHalt s).crusher.family = s.crusher.family ∧
      (s.crusher.state = .blocked ∧ (crusherHalt s).crusher.state = .blocked ∨
        s.crusher.state ≠ .blocked ∧ (crusherHalt s).crusher.state = .stopped) := by
  unfold crusherHalt
  split
  · next h => simp [h]
  · next h => simp [enterStopped, h]

theorem crusherStopEntry_crusher (s : State) :
    (crusherStopEntry s).crusher.slot = s.crusher.slot ∧
      (crusherStopEntry s).crusher.awaited = s.crusher.awaited ∧
      (crusherStopEntry s).crusher.family = s.crusher.family ∧
      (s.crusher.state = .blocked ∧ (crusherStopEntry s).crusher.state = .blocked ∨
        s.crusher.state ≠ .blocked ∧ (crusherStopEntry s).crusher.state = .stopped) := by
  unfold crusherStopEntry
  split
  · exact crusherHalt_crusher { s with crusher := { s.crusher with stallCount := 0 } }
  · exact crusherHalt_crusher s

/-- R121: the crusher halts, or stays BLOCKED. -/
theorem crusherStopEntry_slotFits {s : State} (h : SlotFits s) : SlotFits (crusherStopEntry s) := by
  obtain ⟨hslot, hawaited, hfamily, hstate⟩ := crusherStopEntry_crusher s
  refine h.enter ⟨hslot, hawaited, hfamily⟩ (by simp) (by simp) ?_ fun hr l hl hs => ?_
  · rcases hstate with ⟨hbefore, hafter⟩ | ⟨-, hafter⟩ <;> rw [hafter]
    · have hstate := h.state
      rwa [hbefore] at hstate
    · trivial
  · rcases hstate with ⟨hbefore, -⟩ | ⟨-, hafter⟩
    · rw [h.sludge hr l hl hs] at hbefore
      cases hbefore
    · exact hafter

theorem crusherStopEntry_jamsFit {s : State} (h : JamsFit s) : JamsFit (crusherStopEntry s) := by
  obtain ⟨hslot, -, -, hstate⟩ := crusherStopEntry_crusher s
  intro x hx
  obtain ⟨hle, hblocked⟩ := h x (hslot ▸ hx)
  have hline : (crusherStopEntry s).line = s.line := by simp [State.line]
  rw [hline]
  refine ⟨hle, fun heq => ?_⟩
  rcases hstate with ⟨-, hafter⟩ | ⟨hbefore, -⟩
  · exact hafter
  · exact absurd (hblocked heq) hbefore

/-- R86: a finalisation moves no lot that is asked for. -/
theorem finalise_sameSlot {s : State} (hring : RingFits s) (src : Source) (r : DischargeRequest) (k : Nat)
    (c : EndCause) : SameSlot s (finalise src r k c s).1 := by
  refine ⟨by simp, by simp, by simp, by simp, by simp, by simp, fun hr => ?_⟩
  obtain ⟨l, hl, -⟩ := hring.awaited hr
  have hhead : (finalise src r k c s).1.headLot = some l := by
    unfold State.headLot at hl ⊢
    rw [finalise_carousel_eq]
    split
    · exact hl
    · rw [List.head?_append, hl]
      rfl
  rw [hhead, hl]

/-! ## Safe stop and restart -/

/-- R88: a current discharge stands only on a surveyed ring at rest. -/
def RingFree (s : State) : Prop := ∀ a, s.isCurrent a → s.carousel.index = .idle ∧ s.carousel.survey = .surveyed

/-- The laws of ring and crusher slot, with what they need of the discharge and of the pockets. -/
structure RingState (s : State) : Prop where
  ring : RingFits s
  slot : SlotFits s
  chute : ChuteFits s
  free : RingFree s
  working : s.store.working.fits

theorem RingState.congr {s t : State} (h : RingState s) (hring : SameRing s t) (hslot : SameSlot s t)
    (hrequests : t.arbiter.requests = s.arbiter.requests) (hchute : SameChute s t)
    (hworking : t.store.working = s.store.working) : RingState t := by
  refine ⟨h.ring.congr hring, h.slot.congr hslot, h.chute.congr hrequests hchute, fun a ha => ?_, hworking ▸ h.working⟩
  obtain ⟨-, -, -, hindex, hsurvey, -⟩ := hring
  rw [hindex, hsurvey]
  exact h.free a ((isCurrent_of_requests hrequests a).mp ha)

theorem Quiet.keepsRingState {s t : State} (q : Quiet s t) (h : RingState s) : RingState t :=
  h.congr q.sameRing q.sameSlot q.requests q.sameChute q.working

/-- A finalisation of the OPEN request. -/
theorem RingState.finalise {s : State} (h : RingState s) {src : Source} {r : DischargeRequest} {k g : Nat}
    {d : Option Nat} (hr : s.request src = some r) (hstate : r.state = .opened k g d) (c : EndCause) :
    RingFits (finalise src r k c s).1 ∧ SlotFits (finalise src r k c s).1 := by
  have hsrc : s.isCurrent src := (isCurrent_iff s src).mpr ⟨r, hr, by simp [DischargeRequest.isCurrent, hstate]⟩
  have hlive := liveNumbers_length h.chute h.working
  exact ⟨h.ring.finalise rfl (by simp) (h.free src hsrc) (by omega), h.slot.congr (finalise_sameSlot h.ring src r k c)⟩

theorem arbiterStopEntry_crusher {s : State} (hstop : s.inSafeStop = true) :
    (arbiterStopEntry s).crusher = s.crusher := by
  rcases arbiterStopEntry_cases hstop with ⟨-, heq⟩ | ⟨src, r, k, w, -, -, heq⟩ | ⟨src, r, k, g, d, -, -, heq⟩ <;>
    rw [heq] <;> simp

theorem arbiterStopEntry_ringState {s : State} (h : RingState s) (hstop : s.inSafeStop = true) :
    RingState (arbiterStopEntry s) := by
  have hchute := arbiterStopEntry_chuteFits h.chute hstop
  have hfree : RingFree (arbiterStopEntry s) := fun a ha =>
    absurd ha (arbiterStopEntry_noCurrent h.chute hstop a)
  suffices RingFits (arbiterStopEntry s) ∧ SlotFits (arbiterStopEntry s) from
    ⟨this.1, this.2, hchute, hfree, by simpa using h.working⟩
  rcases arbiterStopEntry_cases hstop with ⟨-, heq⟩ | ⟨src, r, k, w, -, -, heq⟩ |
    ⟨src, r, k, g, d, hcurrent, hstate, heq⟩ <;> rw [heq]
  · exact ⟨h.ring, h.slot⟩
  · exact ⟨h.ring.congr (by simp [SameRing, State.slotLot]), h.slot.congr (by simp [SameSlot, State.headLot])⟩
  · obtain ⟨hring, hslot⟩ := h.finalise (current_some hcurrent).1 hstate .cutShort
    have q := keepLate_quiet src (Machine.finalise src r k .cutShort s).2 (Machine.finalise src r k .cutShort s).1
    exact ⟨hring.congr q.sameRing, hslot.congr q.sameSlot⟩

theorem carouselStopEntry_ringState {s : State} (h : RingState s) : RingState (carouselStopEntry s) := by
  unfold carouselStopEntry
  split
  · next n t hindex =>
    have hmoving : s.carousel.index ≠ .idle := by simp [hindex]
    refine ⟨h.ring.move hmoving (by simp) rfl rfl rfl, h.slot.congr ⟨rfl, rfl, rfl, rfl, rfl, rfl, fun _ => rfl⟩,
      h.chute.congr rfl ⟨rfl, rfl, rfl, rfl, rfl⟩, fun a ha => absurd (h.free a ha).1 hmoving, h.working⟩
  · exact h

theorem crusherStopEntry_ringState {s : State} (h : RingState s) : RingState (crusherStopEntry s) := by
  obtain ⟨hslot, hawaited, -⟩ := crusherStopEntry_crusher s
  refine ⟨h.ring.congr ?_, crusherStopEntry_slotFits h.slot, h.chute.congr (by simp) (by simp [SameChute, State.line]),
    fun a ha => ?_, by simpa using h.working⟩
  · simp [SameRing, State.slotLot, hslot, hawaited]
  · simpa using h.free a ((isCurrent_of_requests (by simp) a).mp ha)

theorem filterStopEntry_ringState {s : State} (h : RingState s) : RingState (filterStopEntry s) := by
  have hgate : (filterStopEntry s).drive.binGate = s.drive.binGate := by
    unfold filterStopEntry
    split
    · exact (recompute_quiet _).binGate
    · rfl
    · rfl
  exact h.congr (by simp [SameRing, State.slotLot]) (by simp [SameSlot, State.headLot, hgate]) (by simp)
    (by simp [SameChute, filterStopEntry_drive, State.line]) (by simp)

/-- R174: the entry into safe stop. -/
theorem stopEntry_ringState {s : State} (h : RingState s) (hstop : s.inSafeStop = true) :
    RingState (enterSafeStop s) :=
  enterSafeStop_keeps h hstop (fun _ _ hu q => q.keepsRingState hu) (fun _ hu h => arbiterStopEntry_ringState h hu)
    (fun _ => carouselStopEntry_ringState) (fun _ => crusherStopEntry_ringState) fun _ => filterStopEntry_ringState

/-- R176: what a restart leaves in the ring before it goes on. -/
theorem restart_ring {s : State} (h : RingState s) :
    RingFits (repostSludge (filterRestart (arbiterRestart (restartStations s)))) ∧
      SlotFits (repostSludge (filterRestart (arbiterRestart (restartStations s)))) := by
  have hstations : RingState (restartStations s) :=
    h.congr ⟨rfl, rfl, rfl, rfl, rfl, rfl, rfl⟩ ⟨rfl, rfl, rfl, rfl, rfl, rfl, fun _ => rfl⟩ rfl
      ⟨rfl, rfl, rfl, rfl, rfl⟩ rfl
  have harbiter : RingFits (arbiterRestart (restartStations s)) ∧ SlotFits (arbiterRestart (restartStations s)) := by
    rcases arbiterRestart_cases (restartStations s) with
        ⟨-, heq⟩ | ⟨src, r, k, g, d, hcurrent, hstate, heq⟩ <;> rw [heq]
    · exact ⟨hstations.ring.congr ⟨rfl, rfl, rfl, rfl, rfl, rfl, rfl⟩,
        hstations.slot.congr ⟨rfl, rfl, rfl, rfl, rfl, rfl, fun _ => rfl⟩⟩
    · obtain ⟨hring, hslot⟩ := hstations.finalise (current_some hcurrent).1 hstate .cutShort
      exact ⟨hring.congr ⟨rfl, rfl, rfl, rfl, rfl, rfl, rfl⟩, hslot.congr ⟨rfl, rfl, rfl, rfl, rfl, rfl, fun _ => rfl⟩⟩
  have hgate : (filterRestart (arbiterRestart (restartStations s))).drive.binGate =
      (arbiterRestart (restartStations s)).drive.binGate := by
    unfold filterRestart
    split <;> rfl
  exact ⟨harbiter.1.congr (by simp [SameRing, State.slotLot]),
    harbiter.2.congr (by simp [SameSlot, State.headLot, hgate])⟩

end Sys2Proof.Machine
end

section
/-! Every act under the laws of the ring and of the crusher slot, and the step of those laws (O59). -/

namespace Sys2Proof.Machine

/-! ## The end of an index -/

/-- R87, R90, R99: a last step outside a flush is that of an index that was asked for. -/
theorem LastStep.requested {s u : State} (h : LastStep s u) (hring : RingFits s)
    (hsurvey : s.carousel.survey ≠ .flushing) : s.carousel.requested = true := by
  cases hs : s.carousel.survey with
  | surveyed => exact hring.moving hs h.index_ne
  | unsurveyed => exact absurd ((hring.unsurveyed (by simp [hs])).2.2.mpr hs) h.index_ne
  | flushing => exact absurd hs hsurvey

/-- R113: a lot is awaited only with the slot empty. -/
theorem SlotFits.empty_of_awaited {s : State} (h : SlotFits s) (hawaited : s.crusher.awaited ≠ none) :
    s.crusher.slot = none := by
  by_contra hfull
  exact hawaited (h.single hfull)

/-- R105: an evaluation acts only with nothing in the slot and nothing awaited. -/
theorem slot_of_mayFeed {s : State} (h : s.mayFeed = true) : s.crusher.slot = none ∧ s.crusher.awaited = none := by
  simp only [State.mayFeed, Bool.and_eq_true, Option.isNone_iff_eq_none] at h
  exact ⟨h.1.1.1.1.1, h.1.1.1.1.2⟩

/-- Table 06-2: a lot that is not sludge stands in the slot of a crusher that crushes, reverses or is BLOCKED. -/
theorem SlotFits.chips_of_state {s : State} (h : SlotFits s)
    (hstate : s.crusher.state = .crushing ∨ (∃ n, s.crusher.state = .reversing n) ∨ s.crusher.state = .blocked) :
    ∃ x, s.crusher.slot = some x ∧ x.lot.isSludge = false := by
  have hslot := h.state
  rcases hstate with heq | ⟨n, heq⟩ | heq <;> rwa [heq] at hslot

/-- R111: sludge is awaited only in STOPPED. -/
theorem SlotFits.notSludge {s : State} (h : SlotFits s) (hstate : s.crusher.state ≠ .stopped)
    {P : Prop} (hr : s.carousel.requested = true) (l : LotRecord) (hl : s.headLot = some l) (hs : l.isSludge = true) :
    P := absurd (h.sludge hr l hl hs) hstate

theorem slotLot_of_crusher {s t : State} (h : t.crusher = s.crusher) : t.slotLot = s.slotLot := by
  rw [State.slotLot, State.slotLot, h]

/-! ## The laws together -/

/-- The laws of ring and crusher slot with those of discharge, pockets and filter. -/
structure RingLaws (s : State) : Prop where
  chute : ChuteLaws s
  ring : RingFits s
  slot : SlotFits s

theorem RingLaws.ringState {s : State} (h : RingLaws s) : RingState s :=
  ⟨h.ring, h.slot, h.chute.fits, fun a ha => ⟨(h.chute.free a ha).1, (h.chute.free a ha).2.1⟩, h.chute.working⟩

/-- R81 to R83, R87, R97, R104: every act keeps the laws of the ring and of the crusher slot. -/
theorem Act.keepsRing {s t : State} (h : RingLaws s) (a : Act s t) : RingFits t ∧ SlotFits t := by
  have hring := h.ring
  have hslot := h.slot
  have same : ∀ {u : State}, SameRing s u → SameSlot s u → RingFits u ∧ SlotFits u :=
    fun hr hs => ⟨hring.congr hr, hslot.congr hs⟩
  have moved : ∀ {u : State}, s.carousel.index ≠ .idle → u.carousel.index ≠ .idle →
      u.carousel = { s.carousel with index := u.carousel.index } → u.crusher = s.crusher →
      u.drive.binGate = s.drive.binGate → RingFits u ∧ SlotFits u := fun hi hi' hc hcrusher hgate =>
    ⟨hring.move hi hi' hc (slotLot_of_crusher hcrusher) (by rw [hcrusher]),
      hslot.congr ⟨by rw [hcrusher], by rw [hcrusher], by rw [hcrusher], by rw [hcrusher], hgate, by rw [hc],
        fun _ => congrArg (Option.map LotRecord.content) (headLot_of_queue (by rw [hc]))⟩⟩
  have enter : ∀ {u : State}, u.crusher.slot = s.crusher.slot ∧ u.crusher.awaited = s.crusher.awaited ∧
      u.crusher.family = s.crusher.family → u.drive.binGate = s.drive.binGate → u.carousel = s.carousel →
      SlotOfState u.crusher.state s.crusher.slot s.crusher.awaited →
      (s.carousel.requested = true → ∀ l, s.headLot = some l → l.isSludge = true → u.crusher.state = .stopped) →
      RingFits u ∧ SlotFits u := fun hc hgate hcarousel hstate hsludge =>
    ⟨hring.congr ⟨by rw [hcarousel], by rw [hcarousel], by rw [hcarousel], by rw [hcarousel], by rw [hcarousel],
      by rw [State.slotLot, hc.1, State.slotLot], hc.2.1⟩, hslot.enter hc hgate hcarousel hstate hsludge⟩
  have emptied : ∀ {u : State}, u.carousel = s.carousel → u.crusher.slot = none →
      u.crusher.awaited = s.crusher.awaited → s.crusher.awaited = none →
      (∀ f, u.crusher.family = some f → u.drive.binGate = .bin f) →
      (u.crusher.state = .stopped ∨ ∃ n, u.crusher.state = .idleRun n) → RingFits u ∧ SlotFits u :=
    fun hcarousel hs hsame hawaited hgate hstate =>
      have hr := hring.empty hcarousel (by rw [State.slotLot, hs]; rfl) hsame
      ⟨hr, .of_empty hr (hsame.trans hawaited) hs hgate hstate⟩
  cases a with
  | quiet q => exact same q.sameRing q.sameSlot
  | startIndex l rest hmay hqueue =>
    refine ⟨hring.start hmay hqueue rfl ⟨rfl, rfl, rfl, by simp⟩ rfl,
      hslot.congr ⟨rfl, rfl, rfl, rfl, rfl, rfl, fun _ => ?_⟩⟩
    rw [headLot_of_cons hqueue]
    rfl
  | askChips l f hhead hstage hmay hstate hlot hfamily =>
    obtain ⟨n, hstate⟩ := hstate
    exact ⟨hring.ask hhead hmay, hslot.ask hhead hmay (.inl ⟨f, n, hlot, hfamily, hstate⟩)⟩
  | askSludge l hhead hstage hmay hstate hlot =>
    exact ⟨hring.ask hhead hmay, hslot.ask hhead hmay (.inr ⟨hlot, hstate⟩)⟩
  | withdraw hnot =>
    refine ⟨hring.withdraw hnot, ?_⟩
    rw [withdrawRequest, if_pos hnot]
    exact hslot.unask rfl rfl rfl
  | nextStep n t hindex | resumeStep n b hindex | retryStep n hindex | runOn n hindex | stepFails n t hindex =>
    exact moved (by simp [hindex]) (by simp) rfl rfl rfl
  | @arrive u l rest hlast hsurvey hqueue =>
    have hrequested := hlast.requested hring hsurvey
    obtain ⟨l', hl', hawaited⟩ := hring.awaited hrequested
    have hne : s.crusher.awaited ≠ none := by simp [hawaited]
    have hempty := hslot.empty_of_awaited hne
    obtain ⟨-, hcarousel, -, -, -, hstore, hcrusher, hgate, -⟩ := hlast.same
    refine ⟨?_, hslot.arrive (headLot_of_cons hqueue) hrequested hempty hne (by simpa using hcrusher)
      (by simpa using hgate) (by simp)⟩
    obtain ⟨⟨m, hplaced⟩, hnone, -⟩ := lotArrives_crusher l (takeHead u)
    refine hring.arrive (by rw [State.slotLot, hempty]; rfl) hqueue ?_ (by rw [State.slotLot, hplaced]; rfl) hnone
    simp [takeHead, hcarousel, hqueue]
  | noLot hlast hsurvey hqueue =>
    obtain ⟨l, hl, -⟩ := hring.awaited (hlast.requested hring hsurvey)
    simp [State.headLot, hqueue] at hl
  | flushEnd hlast hsurvey =>
    obtain ⟨-, hcarousel, -, -, -, -, hcrusher, hgate, -⟩ := hlast.same
    exact ⟨hring.survey (by simp [hsurvey]) (by simp [hcarousel]) (slotLot_of_crusher (by simpa using hcrusher))
      (by simp [hcrusher]), hslot.congr (by simp [SameSlot, hcarousel, hcrusher, hgate, State.headLot])⟩
  | survey hsurvey =>
    have hindex := (hring.unsurveyed (by simp [hsurvey])).2.2.mpr hsurvey
    exact ⟨hring.survey (by simp [hsurvey]) (by simp [hindex]) rfl rfl,
      hslot.congr ⟨rfl, rfl, rfl, rfl, rfl, rfl, fun _ => rfl⟩⟩
  | flush hsurvey => exact ⟨hring.flush hsurvey rfl (by simp [startFlush]) rfl rfl,
      hslot.congr ⟨rfl, rfl, rfl, rfl, rfl, rfl, fun _ => rfl⟩⟩
  | runUp hstate hawait =>
    refine enter ⟨rfl, rfl, rfl⟩ rfl rfl trivial fun hr l hl hs => ?_
    obtain ⟨l', -, hawaited⟩ := hring.awaited hr
    have hempty := hslot.empty_of_awaited (by simp [hawaited])
    rcases hawait l (by rw [awaitedLot_eq hring, if_pos hr, hl]) hs with hfull | hrev
    · exact absurd hempty hfull
    · obtain ⟨x, hx, -⟩ := hslot.chips_of_state (.inr (.inl hrev))
      simp [hempty] at hx
  | idleRun n hstate hempty => exact enter ⟨rfl, rfl, rfl⟩ rfl rfl hempty (hslot.notSludge (by simp [hstate]))
  | runDown n hstate => exact enter ⟨rfl, rfl, rfl⟩ rfl rfl trivial (hslot.notSludge (by simp [hstate]))
  | stopped => exact enter ⟨rfl, rfl, rfl⟩ rfl rfl trivial fun _ _ _ _ => rfl
  | haltBlocked | shaft => exact same ⟨rfl, rfl, rfl, rfl, rfl, rfl, rfl⟩ ⟨rfl, rfl, rfl, rfl, rfl, rfl, fun _ => rfl⟩
  | crush n x hstate hfull hlot =>
    exact enter ⟨rfl, rfl, rfl⟩ rfl rfl ⟨x, hfull, hlot⟩ (hslot.notSludge (by simp [hstate]))
  | passThrough x hstate hfull hlot =>
    refine enter ⟨rfl, rfl, rfl⟩ rfl rfl ⟨x, hfull, hlot⟩ fun hr => ?_
    simp [requested_of_awaited hring (hslot.single (by simp [hfull]))] at hr
  | purge n time target hstate hmay =>
    exact enter ⟨rfl, rfl, rfl⟩ rfl rfl (slot_of_mayFeed hmay) (hslot.notSludge (by simp [hstate]))
  | finishPurge target hfree =>
    obtain ⟨hempty, hawaited⟩ : s.crusher.slot = none ∧ s.crusher.awaited = none := by
      rcases hfree with ⟨n, hstate⟩ | ⟨-, hmay⟩
      · have hpurge := hslot.state
        rwa [hstate] at hpurge
      · exact slot_of_mayFeed hmay
    obtain ⟨hfamily, hidle, hslot', hawaited', hgate⟩ := finishPurge_crusher target s
    refine emptied (by simp) (hslot'.trans hempty) hawaited' hawaited (fun f hf => ?_) (.inr hidle)
    rw [hgate, ← Option.some.inj (hfamily.symm.trans hf)]
  | jam x hstate hfull =>
    obtain ⟨y, hy, hchips⟩ := hslot.chips_of_state (.inl hstate)
    obtain rfl := Option.some.inj (hy.symm.trans hfull)
    obtain ⟨hcount, hawaited, hfamily, hnext⟩ := jam_crusher y s
    exact ⟨hring.congr (by simp [SameRing, State.slotLot, hcount, hawaited, hfull]),
      hslot.jam hring hfull hchips ⟨hcount, hawaited, hfamily⟩ (by simp) (by simp)
        (hnext.elim (fun hn => .inl hn.2) fun hn => .inr (.inl hn.2))⟩
  | emptyCrushing hstate =>
    obtain ⟨x, hx, -⟩ := hslot.chips_of_state (.inl hstate)
    exact emptied rfl rfl rfl (hslot.single (by simp [hx])) hslot.gate (.inr ⟨_, rfl⟩)
  | emptyPassThrough hstate =>
    have hfull := hslot.state
    rw [hstate] at hfull
    obtain ⟨x, hx, -⟩ := hfull
    exact emptied rfl rfl rfl (hslot.single (by simp [hx])) hslot.gate (.inl rfl)
  | reject hstate =>
    obtain ⟨x, hx, -⟩ := hslot.chips_of_state (.inr (.inr hstate))
    exact emptied rfl rfl rfl (hslot.single (by simp [hx])) nofun (.inl rfl)
  | clearRetry x hstate hfull =>
    obtain ⟨y, hy, hchips⟩ := hslot.chips_of_state (.inr (.inr hstate))
    obtain rfl := Option.some.inj (hy.symm.trans hfull)
    obtain ⟨hcount, hawaited, hfamily, hnext⟩ := clearRetry_crusher y s
    exact ⟨hring.congr (by simp [SameRing, State.slotLot, hcount, hawaited, hfull]),
      hslot.jam hring hfull hchips ⟨hcount, hawaited, hfamily⟩ (by simp) (by simp) (.inr (.inr hnext))⟩
  | finalise src r k g d c hr hstate => exact h.ringState.finalise hr hstate c
  | choose | withdrawOffer | openGate =>
    exact same (by simp [SameRing, State.slotLot]) (by simp [SameSlot, State.headLot])
  | storeRequest | removeRequest | backwashStarts | backwashEnds | settle | settled | flag | fleeceIndex | fleeceTurn
  | fleeceEnds | fleeceLoaded | sprayTurn | causes =>
    exact same ⟨rfl, rfl, rfl, rfl, rfl, rfl, rfl⟩ ⟨rfl, rfl, rfl, rfl, rfl, rfl, fun _ => rfl⟩
  | stopEntry c hstop hc =>
    have hstate := h.ringState.congr (t := { s with stop := c }) ⟨rfl, rfl, rfl, rfl, rfl, rfl, rfl⟩
      ⟨rfl, rfl, rfl, rfl, rfl, rfl, fun _ => rfl⟩ rfl ⟨rfl, rfl, rfl, rfl, rfl⟩ rfl
    have hstopped := stopEntry_ringState hstate hc
    exact ⟨hstopped.ring, hstopped.slot⟩
  | restart => exact restart_ring h.ringState

theorem Act.keepsRingLaws {s t : State} (h : RingLaws s) (a : Act s t) : RingLaws t := by
  obtain ⟨hring, hslot⟩ := a.keepsRing h
  exact ⟨a.keepsChuteLaws h.chute, hring, hslot⟩

end Sys2Proof.Machine
end

section
/-! The jam count under every act, and the step of the laws of ring and crusher slot (O59). -/

namespace Sys2Proof.Machine

/-! ## The jam count -/

theorem JamsFit.of_empty {t : State} (h : t.crusher.slot = none) : JamsFit t := fun x hx => by simp [h] at hx

/-- R116: with the slot as it is, BLOCKED is not left. -/
theorem JamsFit.of_slot {s t : State} (h : JamsFit s) (hslot : t.crusher.slot = s.crusher.slot)
    (hworking : t.store.working = s.store.working)
    (hstate : t.crusher.state = s.crusher.state ∨ s.crusher.state ≠ .blocked) : JamsFit t := by
  intro x hx
  obtain ⟨hle, hblocked⟩ := h x (hslot ▸ hx)
  rw [State.line, hworking]
  refine ⟨hle, fun heq => ?_⟩
  rcases hstate with hsame | hne
  · exact hsame.trans (hblocked heq)
  · exact absurd (hblocked heq) hne

theorem JamsFit.of_count {t : State} {x : SlotLot} (hslot : t.crusher.slot = some x)
    (h : x.jams ≤ t.line.nRetry ∨ x.jams = t.line.nRetry + 1 ∧ t.crusher.state = .blocked) : JamsFit t := by
  intro y hy
  obtain rfl := Option.some.inj (hslot.symm.trans hy)
  rcases h with hle | ⟨heq, hblocked⟩
  · exact ⟨by omega, fun heq => by omega⟩
  · exact ⟨by omega, fun _ => hblocked⟩

/-- R116: every act keeps the law of the jam count. -/
theorem Act.keepsJams {s t : State} (hjams : JamsFit s) (a : Act s t) : JamsFit t := by
  have hworking := a.keepsWorking
  cases a with
  | quiet q => exact hjams.of_slot q.slot hworking (.inl q.crusher)
  | @arrive u l rest hlast hsurvey hqueue =>
    obtain ⟨⟨m, hplaced⟩, -⟩ := lotArrives_crusher l (takeHead u)
    exact .of_count hplaced (.inl (Nat.zero_le _))
  | noLot hlast | flushEnd hlast =>
    have hcrusher := hlast.same.2.2.2.2.2.2.1
    exact hjams.of_slot (by simp [hcrusher]) hworking (.inl (by simp [hcrusher]))
  | withdraw hnot =>
    rw [withdrawRequest, if_pos hnot]
    exact hjams.of_slot rfl rfl (.inl rfl)
  | runUp hstate | stopped hstate => exact hjams.of_slot rfl hworking (.inr hstate)
  | idleRun n hstate | runDown n hstate | purge n time target hstate =>
    exact hjams.of_slot rfl hworking (.inr (by simp [hstate]))
  | crush n x hstate | passThrough x hstate => exact hjams.of_slot rfl hworking (.inr (by simp [hstate]))
  | finishPurge target hfree =>
    refine hjams.of_slot (finishPurge_crusher target s).2.2.1 hworking (.inr ?_)
    rcases hfree with ⟨n, hstate⟩ | ⟨⟨n, hstate⟩, -⟩ <;> simp [hstate]
  | emptyCrushing | emptyPassThrough | reject => exact .of_empty rfl
  | jam x hstate hfull =>
    obtain ⟨hcount, -, -, hnext⟩ := jam_crusher x s
    obtain ⟨hle, hblocked⟩ := hjams x hfull
    have hline : (Machine.jam x s).line = s.line := congrArg Profile.line hworking
    refine .of_count hcount ?_
    rw [hline]
    rcases hnext with ⟨hlimit, -⟩ | ⟨hover, hafter⟩
    · exact .inl hlimit
    · have hne : x.jams ≠ s.line.nRetry + 1 := fun heq => by simp [hblocked heq] at hstate
      exact .inr ⟨by simp only; omega, hafter⟩
  | clearRetry x => exact .of_count (clearRetry_crusher x s).1 (.inl (Nat.zero_le _))
  | stopEntry c hstop hc =>
    have hs : JamsFit { s with stop := c } := hjams.of_slot rfl rfl (.inl rfl)
    refine enterSafeStop_keeps hs hc (fun _ _ hu q => hu.of_slot q.slot q.working (.inl q.crusher))
      (fun u hstop hu => ?_) (fun u hu => ?_)
      (fun _ => crusherStopEntry_jamsFit) fun u hu => hu.of_slot (by simp) (by simp) (.inl (by simp))
    · exact hu.of_slot (by rw [arbiterStopEntry_crusher hstop]) (by simp)
        (.inl (by rw [arbiterStopEntry_crusher hstop]))
    · unfold carouselStopEntry
      split
      · exact hu.of_slot rfl rfl (.inl rfl)
      · exact hu
  | restart | finalise | choose | withdrawOffer | openGate =>
    exact hjams.of_slot (by simp) hworking (.inl (by simp))
  | startIndex | askChips | askSludge | nextStep | resumeStep | retryStep | runOn | stepFails | survey | flush
  | haltBlocked | shaft | storeRequest | removeRequest | backwashStarts | backwashEnds | settle | settled | flag
  | fleeceIndex | fleeceTurn | fleeceEnds | fleeceLoaded | sprayTurn | causes =>
    exact hjams.of_slot rfl hworking (.inl rfl)

/-! ## Writes and loads -/

theorem setWorking_ringLaws {s : State} (h : RingLaws s) {p : Profile} (hp : p.fits)
    (hring : p.line.inService = s.line.inService ∨ s.carouselEmpty = true) : RingLaws (setWorking p s) :=
  ⟨setWorking_chuteLaws h.chute hp hring, h.ring.congr ⟨rfl, rfl, rfl, rfl, rfl, rfl, rfl⟩,
    h.slot.congr ⟨rfl, rfl, rfl, rfl, rfl, rfl, fun _ => rfl⟩⟩

/-- R117: the slot lot under another jam count. -/
theorem SlotFits.recount {s : State} (h : SlotFits s) {x : SlotLot} (hslot : s.crusher.slot = some x)
    (hchips : x.lot.isSludge = false) (n : Nat) : SlotFits (setSlot (some { x with jams := n }) s) := by
  constructor
  · have hstate := h.state
    rw [hslot] at hstate
    cases hc : s.crusher.state <;> simp_all [SlotOfState]
  · exact fun _ => h.single (by simp [hslot])
  · exact h.sludge
  · exact h.gate
  · intro l f hl hf
    exact h.slotFamily l f (by rw [State.slotLot, hslot]; exact hl) hf
  · exact h.awaitedFamily
  · intro y hy hs
    rw [← Option.some.inj hy] at hs
    exact absurd hs (by simp [hchips])

theorem retryLimitWritten_ringLaws {s : State} (h : RingLaws s) : RingLaws (retryLimitWritten s) := by
  have hsame : (retryLimitWritten s).slotLot = s.slotLot ∧
      (retryLimitWritten s).crusher.awaited = s.crusher.awaited := by
    unfold retryLimitWritten State.slotLot
    split
    · exact ⟨rfl, rfl⟩
    · next x hx => split_ifs <;> simp [hx]
  refine ⟨retryLimitWritten_chuteLaws h.chute, h.ring.congr ?_, ?_⟩
  · unfold SameRing
    refine ⟨?_, ?_, ?_, ?_, ?_, hsame⟩ <;> simp
  · unfold retryLimitWritten
    split
    · exact h.slot
    · next x hx =>
      split_ifs with hs
      · exact h.slot
      · exact h.slot.recount hx (Bool.eq_false_iff.mpr hs) _
      · exact h.slot.recount hx (Bool.eq_false_iff.mpr hs) _

/-- R117: a write of the retry limit brings the jam count under it, or one past it in BLOCKED. -/
theorem retryLimitWritten_jamsFit {s : State} (h : SlotFits s) : JamsFit (retryLimitWritten s) := by
  unfold retryLimitWritten
  split
  · next hx => exact .of_empty hx
  · next x hx =>
    split_ifs with hs hblocked
    · exact .of_count hx (.inl (by rw [h.sludgeJams x hx hs]; exact Nat.zero_le _))
    · exact .of_count (x := { x with jams := s.line.nRetry + 1 }) rfl (.inr ⟨rfl, hblocked⟩)
    · exact .of_count (x := { x with jams := min x.jams s.line.nRetry }) rfl (.inl (Nat.min_le_right _ _))

theorem nRetry_set_of_ne {i : LineItem} (h : i ≠ .nRetry) (l : LineParams) (v : Int) :
    (l.set i v).nRetry = l.nRetry := by
  cases i <;> first | rfl | exact absurd rfl h

/-- R116: a write of another item leaves the retry limit. -/
theorem setWorking_jamsFit {s : State} (h : JamsFit s) {i : Item} (hi : i ≠ .line .nRetry) (v : Int) :
    JamsFit (setWorking (s.store.working.set i v) s) := by
  have hlimit : (s.store.working.set i v).line.nRetry = s.line.nRetry := by
    cases i with
    | line i => exact nRetry_set_of_ne (fun heq => hi (heq ▸ rfl)) _ v
    | station | vmax | level | material => rfl
  intro x hx
  rw [show (setWorking (s.store.working.set i v) s).line.nRetry = s.line.nRetry from hlimit]
  exact h x hx

theorem powerOnState_ringLaws {n : NonVolatile} (hn : (n.profile n.selector).fits) (good made : Bool) (ties : Nat)
    (q : List Instr) : RingLaws (powerOnState n good made ties q) := by
  refine ⟨powerOnState_chuteLaws hn good made ties q, ?_, ?_⟩
  · constructor <;>
      simp [powerOnState, carouselPowerOn, crusherPowerOn, State.liveNumbers, State.headLot, State.slotLot]
  · constructor <;>
      simp [powerOnState, carouselPowerOn, crusherPowerOn, SlotOfState, State.headLot, State.slotLot]

/-! ## The step -/

/-- The laws of ring and crusher slot, the jam count included, over a store that fits. -/
structure RingStep (s : State) : Prop where
  laws : RingLaws s
  jams : JamsFit s

theorem RingFits.withLink {s : State} (h : RingFits s) (x : PerPort LinkPort) (q : List Instr) (n : Nat) :
    RingFits (s.withLink x q n) := h.congr ⟨rfl, rfl, rfl, rfl, rfl, rfl, rfl⟩

theorem SlotFits.withLink {s : State} (h : SlotFits s) (x : PerPort LinkPort) (q : List Instr) (n : Nat) :
    SlotFits (s.withLink x q n) := h.congr ⟨rfl, rfl, rfl, rfl, rfl, rfl, fun _ => rfl⟩

theorem RingStep.withLink {s : State} (h : RingStep s) (x : PerPort LinkPort) (q : List Instr) (n : Nat) :
    RingStep (s.withLink x q n) :=
  ⟨⟨h.laws.chute.withLink x q n, h.laws.ring.withLink x q n, h.laws.slot.withLink x q n⟩, h.jams⟩

theorem Acts.keepsRing {s t : State} (h : RingStep s) (acts : Acts s t) : RingStep t :=
  acts.keeps (fun _ _ h a => ⟨a.keepsRingLaws h.laws, a.keepsJams h.jams⟩) h

theorem retryLimitWritten_ringStep {s : State} (h : RingLaws s) : RingStep (retryLimitWritten s) :=
  ⟨retryLimitWritten_ringLaws h, retryLimitWritten_jamsFit h.slot⟩

/-- R81 to R83, R87, R97, R104, R116: every piece of work keeps the laws of ring and crusher slot. -/
theorem Work.keepsRing {s t : State} (h : RingStep s) (hstore : StoreLaw s) (w : Work s t) : RingStep t := by
  rcases w.acts with hrewrites | hacts
  · cases hrewrites with
    | item i v hrange horder hring =>
      have hwritten := setWorking_ringLaws h.laws (Profile.fits_set h.laws.chute.working hrange horder)
        (inService_set hring)
      by_cases hi : i = .line .nRetry
      · subst hi
        exact retryLimitWritten_ringStep hwritten
      · exact Acts.keepsRing ⟨hwritten, setWorking_jamsFit h.jams hi v⟩ (handOver_acts hi _)
    | load n hring =>
      have hloaded := setWorking_ringLaws h.laws (hstore.profile n) (inService_of_ringDiffers hring)
      have hbefore := (loadBefore_acts _ s).keeps (fun _ _ h a => a.keepsRingLaws h) hloaded
      exact Acts.keepsRing (retryLimitWritten_ringStep hbefore) (loadProfile_acts _ s)
    | power v made =>
      have hon : ∀ good, RingStep (powerOnState s.store.nonVolatile good made s.ties s.pending) := fun good =>
        ⟨powerOnState_ringLaws (hstore.profile _) good made _ _, .of_empty rfl⟩
      simp only [powerUp]
      split
      · exact hon _
      · exact Acts.keepsRing (hon _) (addCause_acts _ _)
  · exact Acts.keepsRing h hacts

/-! ## A tick -/

theorem tick_slotLot (s : State) : (tick s).slotLot = s.slotLot := by
  unfold State.slotLot tick
  cases s.crusher.slot with
  | none => rfl
  | some x => cases hc : s.crusher.state <;> simp [tickSlot]

theorem tick_ringFits {s : State} (h : RingFits s) : RingFits (tick s) := by
  by_cases hindex : s.carousel.index = .idle
  · exact h.congr ⟨rfl, rfl, rfl, by simp [tick, hindex], rfl, tick_slotLot s, rfl⟩
  · refine h.move hindex (fun heq => hindex ?_) rfl (tick_slotLot s) rfl
    cases hi : s.carousel.index <;> simp [tick, hi] at heq ⊢

theorem tick_slot {s : State} {y : SlotLot} (h : (tick s).crusher.slot = some y) :
    ∃ x, s.crusher.slot = some x ∧ y.lot = x.lot ∧ y.jams = x.jams := by
  obtain ⟨x, hx, rfl⟩ := Option.map_eq_some_iff.mp h
  refine ⟨x, hx, ?_⟩
  cases hc : s.crusher.state <;> simp [tickSlot]

theorem tick_slotFits {s : State} (h : SlotFits s) : SlotFits (tick s) := by
  have hslot := h.state
  constructor
  · cases hc : s.crusher.state <;> simp only [hc, SlotOfState] at hslot <;>
      simp_all [tick, tickCrusherState, SlotOfState, tickSlot]
  · intro hfull
    exact h.single fun hnone => hfull (by simp [tick, hnone])
  · intro hr l hl hs
    have hstopped := h.sludge hr l hl hs
    simp [tick, tickCrusherState, hstopped]
  · exact h.gate
  · intro l f hl
    exact h.slotFamily l f (tick_slotLot s ▸ hl)
  · exact h.awaitedFamily
  · intro y hy hs
    obtain ⟨x, hx, hlot, hjams⟩ := tick_slot hy
    exact hjams.trans (h.sludgeJams x hx (hlot ▸ hs))

theorem tick_jamsFit {s : State} (h : JamsFit s) : JamsFit (tick s) := by
  intro y hy
  obtain ⟨x, hx, -, hjams⟩ := tick_slot hy
  obtain ⟨hle, hblocked⟩ := h x hx
  rw [hjams]
  exact ⟨hle, fun heq => by simp [tick, tickCrusherState, hblocked heq]⟩

/-- Settles O59, by the acts of which a step consists: each keeps the laws of ring and crusher slot under the laws of
discharge, pockets and filter; the jam count apart, which a write of the retry limit sets anew. -/
theorem stepKeepsRingLaw : Obligations.StepKeepsRingLaw := by
  unfold Obligations.StepKeepsRingLaw
  intro s t hringLaw hcrusher hdischarge hpocket hstore hfilter hstep
  have hring := (ringLaw_iff s).mp hringLaw
  obtain ⟨hslot, hjams⟩ := (crusherLaw_iff hring).mp hcrusher
  obtain ⟨hfits, hfree⟩ := (chuteLaw_iff s).mp ⟨hdischarge, hpocket⟩
  have hlaws : RingLaws s := ⟨⟨hfits, hfree, hfilter, hstore.1⟩, hring, hslot⟩
  obtain ⟨hring', hslot', hjams'⟩ := step_keeps (P := fun s => RingStep s ∧ StoreLaw s)
    (R := fun s => RingFits s ∧ SlotFits s ∧ JamsFit s)
    (fun _ x q n h => ⟨h.1.withLink x q n, h.2⟩)
    (fun _ x q n h => ⟨h.1.withLink x q n, h.2.1.withLink x q n, h.2.2⟩)
    (fun _ _ h w => ⟨(w.keepsRing h.1 h.2).laws.ring, (w.keepsRing h.1 h.2).laws.slot, (w.keepsRing h.1 h.2).jams⟩)
    (fun _ h => ⟨tick_ringFits h.1.laws.ring, tick_slotFits h.1.laws.slot, tick_jamsFit h.1.jams⟩)
    ⟨⟨hlaws, hjams⟩, hstore⟩ hstep
  exact ⟨(ringLaw_iff t).mpr hring', (crusherLaw_iff hring').mpr ⟨hslot', hjams'⟩⟩

end Sys2Proof.Machine
end

section
/-! The pass on figure 0, which a second such pass leaves alone (R16 to R19, R39). -/

namespace Sys2Proof.Machine

/-- R16: with nothing left to give, pass 1 admits an entry without need that no entry in need blocks. -/
abbrev Unblocked (xs : List (Slot × Entry)) (e : Entry) : Prop :=
  e.need = 0 ∧ ∀ x ∈ xs, 0 < x.2.need → x.2.urgency ≤ e.urgency

/-- R16: pass 1 over entries in their order with a remainder of 0, no blocking urgency being below them. -/
theorem pass1_zero_taken (xs : List (Slot × Entry)) (blocking : Option Nat)
    (hsorted : xs.Pairwise (fun a b => b.2.urgency ≤ a.2.urgency))
    (habove : ∀ u, blocking = some u → ∀ x ∈ xs, x.2.urgency ≤ u) :
    ∀ l ∈ (pass1 0 blocking xs).1, l.taken = true ↔ isBlocked blocking l.entry = false ∧ Unblocked xs l.entry := by
  induction xs generalizing blocking with
  | nil => simp [pass1]
  | cons x xs ih =>
    obtain ⟨hfirst, hrest⟩ := List.pairwise_cons.mp hsorted
    have hkeys : ∀ b, ∀ l ∈ (pass1 0 b xs).1, l.key ∈ xs := fun b l hl => by
      rw [← pass1_keys 0 b xs]
      exact List.mem_map_of_mem hl
    obtain ⟨sl, e⟩ := x
    unfold pass1
    split
    case isTrue htaken =>
      obtain ⟨hopen, hneed⟩ : isBlocked blocking e = false ∧ e.need = 0 := by simpa using htaken
      rw [hneed, Nat.zero_sub]
      intro l hl
      rcases List.mem_cons.mp hl with rfl | hl
      · refine ⟨fun _ => ⟨hopen, hneed, fun y hy _ => ?_⟩, fun _ => rfl⟩
        rcases List.mem_cons.mp hy with rfl | hy
        · exact le_rfl
        · exact hfirst y hy
      · rw [ih blocking hrest (fun u hu x hx => habove u hu x (List.mem_cons_of_mem _ hx)) l hl]
        simp [Unblocked, hneed]
    case isFalse hwaiting =>
      have hneed : isBlocked blocking e = false → 0 < e.need := fun hopen => by
        simpa [hopen, Nat.pos_iff_ne_zero] using hwaiting
      intro l hl
      rcases List.mem_cons.mp hl with rfl | hl
      · refine ⟨nofun, fun ⟨hopen, hzero, _⟩ => ?_⟩
        exact absurd (hneed hopen) (by simp [hzero])
      · cases blocking with
        | none =>
          have hpos := hneed rfl
          rw [ih (some e.urgency) hrest (fun u hu x hx => Option.some.inj hu ▸ hfirst x hx) l hl]
          simp [isBlocked, Unblocked, hpos]
          tauto
        | some u =>
          rw [ih (some u) hrest (fun v hv x hx => habove v hv x (List.mem_cons_of_mem _ hx)) l hl]
          have hu : e.urgency ≤ u := habove u rfl (sl, e) List.mem_cons_self
          simp only [isBlocked, decide_eq_false_iff_not, Nat.not_lt, Unblocked, List.forall_mem_cons]
          exact ⟨fun ⟨hl, hz, hx⟩ => ⟨hl, hz, fun _ => hu.trans hl, hx⟩, fun ⟨hl, hz, _, hx⟩ => ⟨hl, hz, hx⟩⟩

/-- R15: the pass order goes down in urgency. -/
theorem passOrder_urgency (t : PerSlot (Option Entry)) :
    (passOrder t).Pairwise (fun a b => b.2.urgency ≤ a.2.urgency) :=
  (passOrder_sorted t).imp fun {a b} h => by
    rw [passBefore_iff] at h
    omega

/-- R16, R19: what a pass on figure 0 makes of an entry that takes part in it. -/
def entryOnZero (t : PerSlot (Option Entry)) (e : Entry) : Entry :=
  if Unblocked (passOrder t) e then e.grant 0 else e.wait

theorem passLines_zero_taken (t : PerSlot (Option Entry)) {l : PassLine} (h : l ∈ passLines 0 t) :
    l.taken = true ↔ Unblocked (passOrder t) l.entry := by
  rw [pass1_zero_taken (passOrder t) none (passOrder_urgency t) nofun l h]
  simp [isBlocked]

/-- R17: on figure 0 nothing is left to share. -/
theorem passPool_zero (t : PerSlot (Option Entry)) : passPool 0 t = 0 := by
  have hpool : passPool 0 t + takenSum (fun y => y.2.need) (passLines 0 t) = 0 := pass1_remainder _ _ _
  omega

theorem passTable_zero (t : PerSlot (Option Entry)) {sl : Slot} {e : Entry} (he : t.get sl = some e)
    (hs : e.state ≠ .suspended) : (passTable 0 t).get sl = some (entryOnZero t e) := by
  obtain ⟨l, hl, hkey⟩ := exists_line 0 t he hs
  obtain ⟨rfl, rfl⟩ : l.slot = sl ∧ l.entry = e := Prod.mk.inj hkey
  obtain ⟨before, after, hsplit⟩ := List.append_of_mem hl
  rw [passTable_get_line 0 t hsplit, entryOnZero]
  have htaken := passLines_zero_taken t hl
  split_ifs with hopen
  · have hneed := hopen.1
    have hshare : baseShare 0 (passWants 0 t) l = 0 := by
      unfold baseShare
      split_ifs with hmet
      · have hwants : wantSum (passLines 0 t) = 0 := Nat.le_zero.mp hmet
        exact List.sum_eq_zero_iff.mp hwants _ (List.mem_map_of_mem hl)
      · rw [Nat.zero_mul, Nat.zero_div]
    have hleft : passLeftover 0 t = 0 := by
      unfold passLeftover leftover
      split_ifs <;> simp [passPool_zero]
    rw [outcome_of_taken (htaken.mpr hopen), passPool_zero, hshare, hleft, hneed]
    simp
  · rw [outcome_of_waiting (Bool.eq_false_iff.mpr fun h => hopen (htaken.mp h))]

/-- R2: a pass on figure 0 keeps need, urgency and asked flow, and grants nothing. -/
theorem entryOnZero_values (t : PerSlot (Option Entry)) (e : Entry) :
    (entryOnZero t e).asked = e.asked ∧ (entryOnZero t e).floor = e.floor ∧ (entryOnZero t e).need = e.need ∧
      (entryOnZero t e).urgency = e.urgency ∧ (entryOnZero t e).granted = 0 ∧
      (entryOnZero t e).state ≠ .suspended := by
  have hcases : entryOnZero t e = e.grant 0 ∨ entryOnZero t e = e.wait := ite_eq_or_eq _ _ _
  rcases hcases with heq | heq <;> rw [heq]
  · refine ⟨rfl, rfl, rfl, rfl, rfl, ?_⟩
    unfold Entry.grant
    split_ifs <;> exact nofun
  · exact ⟨rfl, rfl, rfl, rfl, rfl, nofun⟩

/-- R16: whom an entry is blocked by is the same after a pass on figure 0. -/
theorem unblocked_passTable_zero (t : PerSlot (Option Entry)) (e : Entry) :
    Unblocked (passOrder (passTable 0 t)) (entryOnZero t e) ↔ Unblocked (passOrder t) e := by
  obtain ⟨-, -, hneed, hurgency, -⟩ := entryOnZero_values t e
  unfold Unblocked
  rw [hneed, hurgency]
  refine and_congr_right fun _ => ⟨fun h x hx hpos => ?_, fun h x hx hpos => ?_⟩
  · obtain ⟨hget, hstate⟩ := (mem_passOrder t x).mp hx
    obtain ⟨-, -, hneed', hurgency', -, hstate'⟩ := entryOnZero_values t x.2
    have hx' := (mem_passOrder (passTable 0 t) (x.1, entryOnZero t x.2)).mpr ⟨passTable_zero t hget hstate, hstate'⟩
    exact hurgency' ▸ h _ hx' (hneed' ▸ hpos)
  · obtain ⟨hget, hstate⟩ := (mem_passOrder _ x).mp hx
    obtain ⟨e', he', hstate'⟩ : ∃ e', t.get x.1 = some e' ∧ e'.state ≠ .suspended := by
      by_contra hnone
      have haside : ∀ e', t.get x.1 = some e' → e'.state = .suspended := fun e' he' =>
        by_contra fun hne => hnone ⟨e', he', hne⟩
      rw [passTable_get_of_aside 0 t haside] at hget
      exact hstate (haside _ hget)
    have hx' : x.2 = entryOnZero t e' := Option.some.inj (hget.symm.trans (passTable_zero t he' hstate'))
    obtain ⟨-, -, hneed', hurgency', -⟩ := entryOnZero_values t e'
    rw [hx', hurgency']
    exact h (x.1, e') ((mem_passOrder t _).mpr ⟨he', hstate'⟩) (by rw [hx', hneed'] at hpos; exact hpos)

theorem entryOnZero_again (t : PerSlot (Option Entry)) (e : Entry) :
    entryOnZero (passTable 0 t) (entryOnZero t e) = entryOnZero t e := by
  have hiff := unblocked_passTable_zero t e
  rw [entryOnZero]
  split_ifs with h
  · rw [entryOnZero, if_pos (hiff.mp h)]
    rfl
  · rw [entryOnZero, if_neg fun hopen => h (hiff.mpr hopen)]
    rfl

theorem PerSlot.ext_get {α : Type} {m n : PerSlot α} (h : ∀ sl, m.get sl = n.get sl) : m = n := by
  obtain ⟨spindle, flood, wash1, wash2⟩ := m
  obtain ⟨spindle', flood', wash1', wash2'⟩ := n
  have hspindle : spindle = spindle' := PerStation.ext_get fun st => h (.station st .spindle)
  have hflood : flood = flood' := PerStation.ext_get fun st => h (.station st .flood)
  have hwash1 : wash1 = wash1' := h .wash1
  have hwash2 : wash2 = wash2' := h .wash2
  rw [hspindle, hflood, hwash1, hwash2]

/-- R14, R39: a second pass on figure 0 leaves the table. -/
theorem passTable_zero_again (t : PerSlot (Option Entry)) : passTable 0 (passTable 0 t) = passTable 0 t := by
  have hget : ∀ sl, (passTable 0 (passTable 0 t)).get sl = (passTable 0 t).get sl := fun sl => by
    by_cases haside : ∀ e, t.get sl = some e → e.state = .suspended
    · have hsame := passTable_get_of_aside 0 t haside
      exact passTable_get_of_aside 0 _ fun e he => haside e (hsame ▸ he)
    · push Not at haside
      obtain ⟨e, he, hs⟩ := haside
      have hzero := passTable_zero t he hs
      obtain ⟨-, -, -, -, -, hs'⟩ := entryOnZero_values t e
      rw [passTable_zero _ hzero hs', hzero, entryOnZero_again]
  exact PerSlot.ext_get hget

/-- R19, R39: a pass on figure 0 leaves no flow granted. -/
theorem grantOf_passTable_zero {t : PerSlot (Option Entry)}
    (h : ∀ sl e, t.get sl = some e → e.state = .suspended → e.granted = 0) (sl : Slot) :
    grantOf ((passTable 0 t).get sl) = 0 ∧ ((passTable 0 t).get sl).isSome = (t.get sl).isSome := by
  cases he : t.get sl with
  | none => rw [passTable_get_of_aside 0 t (by simp [he]), he]; exact ⟨rfl, rfl⟩
  | some e =>
    by_cases hs : e.state = .suspended
    · rw [passTable_get_of_aside 0 t (by simp [he, hs]), he]
      exact ⟨h sl e he hs, rfl⟩
    · rw [passTable_zero t he hs]
      exact ⟨(entryOnZero_values t e).2.2.2.2.1, rfl⟩

end Sys2Proof.Machine
end

section
/-! Whom pass 1 admits (O15). -/

namespace Sys2Proof.Machine

/-- R16: the needs of the lines before an entry in pass order. -/
def needBefore (x y : Slot × Entry) : Nat := if passBefore y x then y.2.need else 0

theorem needsBefore_eq (t after : PerSlot (Option Entry)) (x : Slot × Entry) :
    needsBefore t after x = admittedSum t after (needBefore x) := rfl

theorem takenSum_congr {f g : Slot × Entry → Nat} {ls : List PassLine} (h : ∀ l ∈ ls, f l.key = g l.key) :
    takenSum f ls = takenSum g ls := by
  unfold takenSum
  congr 1
  exact List.map_congr_left fun l hl => by rw [h l hl]

theorem takenSum_append (f : Slot × Entry → Nat) (a b : List PassLine) :
    takenSum f (a ++ b) = takenSum f a + takenSum f b := by
  rw [takenSum, List.map_append, List.sum_append]
  rfl

/-- R15: the lines of a pass stand in pass order. -/
theorem passLines_sorted (figure : Nat) (t : PerSlot (Option Entry)) :
    (passLines figure t).Pairwise (fun a b => passBefore a.key b.key = true) := by
  have h := passOrder_sorted t
  rwa [← passLines_keys figure t, List.pairwise_map] at h

/-- R16: the needs before a line are those of the lines that stand before it. -/
theorem needsBefore_passTable (figure : Nat) (t : PerSlot (Option Entry)) {before after : List PassLine} {l : PassLine}
    (h : passLines figure t = before ++ l :: after) :
    needsBefore t (passTable figure t) l.key = takenSum (fun y => y.2.need) before := by
  have hsorted := passLines_sorted figure t
  rw [h, List.pairwise_append] at hsorted
  obtain ⟨-, hafter, hbefore⟩ := hsorted
  have hlater : takenSum (needBefore l.key) (l :: after) = takenSum (fun _ => 0) (l :: after) := by
    refine takenSum_congr fun x hx => if_neg ?_
    rcases List.mem_cons.mp hx with rfl | hx
    · simp [passBefore_irrefl]
    · simp [passBefore_asymm ((List.pairwise_cons.mp hafter).1 x hx)]
  have hearlier : takenSum (needBefore l.key) before = takenSum (fun y => y.2.need) before :=
    takenSum_congr fun x hx => if_pos (hbefore x hx l List.mem_cons_self)
  rw [needsBefore_eq, admittedSum_passTable, h, takenSum_append, hearlier, hlater]
  simp [takenSum]

/-- R16: the blocking urgency that some lines leave. -/
def blockingAfter (blocking : Option Nat) (ls : List PassLine) : Option Nat :=
  blocking <|> (ls.find? (fun l => !l.taken)).map (fun l => l.entry.urgency)

/-- R16: pass 1 admits a line that the lines before it neither block nor leave without its need. -/
theorem pass1_taken (before : List PassLine) {r : Nat} {blocking : Option Nat} {xs : List (Slot × Entry)} {l : PassLine}
    {after : List PassLine} (h : (pass1 r blocking xs).1 = before ++ l :: after) :
    l.taken = true ↔ isBlocked (blockingAfter blocking before) l.entry = false ∧
      l.entry.need + takenSum (fun y => y.2.need) before ≤ r := by
  induction before generalizing r blocking xs with
  | nil =>
    cases xs with
    | nil => simp [pass1] at h
    | cons x xs =>
      unfold pass1 at h
      split at h
      case isTrue htaken =>
        obtain rfl := (List.cons.inj h).1
        simpa [blockingAfter, takenSum] using htaken
      case isFalse hwaiting =>
        obtain rfl := (List.cons.inj h).1
        simpa [blockingAfter, takenSum] using hwaiting
  | cons b before ih =>
    cases xs with
    | nil => simp [pass1] at h
    | cons x xs =>
      unfold pass1 at h
      split at h
      case isTrue htaken =>
        obtain ⟨rfl, hrest⟩ := List.cons.inj h
        have hfits : x.2.need ≤ r := by simp_all
        rw [ih hrest]
        simp only [blockingAfter, takenSum, List.map_cons, List.sum_cons, List.find?_cons, PassLine.key, if_true,
          Bool.not_true]
        refine and_congr_right fun _ => ?_
        omega
      case isFalse hwaiting =>
        obtain ⟨rfl, hrest⟩ := List.cons.inj h
        rw [ih hrest]
        cases blocking <;> simp [blockingAfter, takenSum, isBlocked]

/-- R16: an entry is blocked by the first line that went WAITING, whose urgency none of the later ones exceeds. -/
theorem isBlocked_blockingAfter {before : List PassLine} (e : Entry)
    (hsorted : before.Pairwise (fun a b => b.entry.urgency ≤ a.entry.urgency)) :
    isBlocked (blockingAfter none before) e = true ↔ ∃ l ∈ before, l.taken = false ∧ e.urgency < l.entry.urgency := by
  induction before with
  | nil => simp [blockingAfter, isBlocked]
  | cons b before ih =>
    obtain ⟨hfirst, hrest⟩ := List.pairwise_cons.mp hsorted
    cases hb : b.taken with
    | true =>
      have hsame : blockingAfter none (b :: before) = blockingAfter none before := by simp [blockingAfter, hb]
      rw [hsame, ih hrest]
      simp [hb]
    | false =>
      have hsome : blockingAfter none (b :: before) = some b.entry.urgency := by simp [blockingAfter, hb]
      rw [hsome]
      simp only [isBlocked, decide_eq_true_eq, List.mem_cons, exists_eq_or_imp, hb, true_and]
      exact ⟨.inl, fun h => h.elim id fun ⟨x, hx, _, hlt⟩ => hlt.trans_le (hfirst x hx)⟩

/-- R15: a line before another is of no lower urgency. -/
theorem passLines_urgency (figure : Nat) (t : PerSlot (Option Entry)) :
    (passLines figure t).Pairwise (fun a b => b.entry.urgency ≤ a.entry.urgency) :=
  (passLines_sorted figure t).imp fun {a b} h => by
    rw [passBefore_iff] at h
    simp only [PassLine.key] at h
    omega

theorem outcome_waiting_iff (pool total left : Nat) (l : PassLine) :
    (l.outcome pool total left).state = .waiting ↔ l.taken = false := by
  cases htaken : l.taken with
  | false => simp [outcome_of_waiting htaken, Entry.wait]
  | true =>
    rw [outcome_of_taken htaken]
    unfold Entry.grant
    split_ifs <;> simp

/-- R16: among the lines of a pass, those that block an entry are the entries of higher urgency that went WAITING. -/
theorem exists_waiting_line_iff (figure : Nat) (t : PerSlot (Option Entry)) (n : Nat) :
    (∃ l ∈ passLines figure t, l.taken = false ∧ n < l.entry.urgency) ↔
      ∃ sl e g, t.get sl = some e ∧ e.state ≠ .suspended ∧ (passTable figure t).get sl = some g ∧
        g.admitted = false ∧ n < e.urgency := by
  constructor
  · rintro ⟨l, hl, htaken, hlt⟩
    have hmem : l.key ∈ passOrder t := by
      rw [← passLines_keys figure t]
      exact List.mem_map_of_mem hl
    obtain ⟨hget, hstate⟩ := (mem_passOrder t l.key).mp hmem
    have hadmits := passTable_admits_line figure t hl
    obtain ⟨g, hg, hgt⟩ := Option.map_eq_some_iff.mp hadmits
    exact ⟨l.slot, l.entry, g, hget, hstate, hg, hgt.trans htaken, hlt⟩
  · rintro ⟨sl, e, g, he, hs, hg, hadmitted, hlt⟩
    obtain ⟨l, hl, hkey⟩ := exists_line figure t he hs
    obtain ⟨rfl, rfl⟩ : l.slot = sl ∧ l.entry = e := Prod.mk.inj hkey
    have hadmits := passTable_admits_line figure t hl
    rw [hg, Option.map_some, Option.some.injEq] at hadmits
    exact ⟨l, hl, hadmits.symm.trans hadmitted, hlt⟩

/-- Settles O15: the entry is that of a line of pass 1, and the lines that can block it stand before it. -/
theorem passAdmission : Obligations.PassAdmission := by
  unfold Obligations.PassAdmission
  intro figure t sl e he hs
  obtain ⟨l, hl, hkey⟩ := exists_line figure t he hs
  obtain ⟨rfl, rfl⟩ : l.slot = sl ∧ l.entry = e := Prod.mk.inj hkey
  obtain ⟨before, after, hsplit⟩ := List.append_of_mem hl
  refine ⟨_, passTable_get_line figure t hsplit, ?_, ?_⟩
  · rw [outcome_waiting_iff, outcome_admitted]
  · have hsorted := passLines_urgency figure t
    rw [hsplit, List.pairwise_append] at hsorted
    obtain ⟨hbefore, hafter, -⟩ := hsorted
    have hblocked : isBlocked (blockingAfter none before) l.entry = true ↔
        ∃ x ∈ passLines figure t, x.taken = false ∧ l.entry.urgency < x.entry.urgency := by
      rw [isBlocked_blockingAfter l.entry hbefore, hsplit]
      refine ⟨fun ⟨x, hx, h⟩ => ⟨x, List.mem_append_left _ hx, h⟩, fun ⟨x, hx, htaken, hlt⟩ => ?_⟩
      rcases List.mem_append.mp hx with hx | hx
      · exact ⟨x, hx, htaken, hlt⟩
      · rcases List.mem_cons.mp hx with rfl | hx
        · exact absurd hlt (Nat.lt_irrefl _)
        · exact absurd hlt (Nat.not_lt.mpr ((List.pairwise_cons.mp hafter).1 x hx))
    have hneeds := needsBefore_passTable figure t hsplit
    have htaken := pass1_taken before (r := figure) hsplit
    rw [outcome_admitted, ← exists_waiting_line_iff, ← hblocked]
    change l.taken = false ↔ _ ∨ figure < l.entry.need + needsBefore t (passTable figure t) l.key
    rw [hneeds, ← Bool.not_eq_true, htaken, not_and_or, Nat.not_le, Bool.not_eq_false]

end Sys2Proof.Machine
end

section
/-! What ends a discharge (O24) and what follows it (O22). -/

namespace Sys2Proof.Machine

/-- R75 steps 1 and 6: the state of a closed discharge, block by block. -/
theorem closeDischarge_eq (src : Source) (s : State) :
    closeDischarge src s = { s with
      arbiter := { s.arbiter with requests := s.arbiter.requests.set src none }
      measure := { s.measure with chute := { s.measure.chute with enabled := false } }
      drive := match src with
        | .station st => { s.drive with gates := s.drive.gates.set st false }
        | .sludge => { s.drive with dumpValve := false }
      filter := match src with
        | .station _ => s.filter
        | .sludge => { s.filter with troughFull := false } } := by
  cases src <;> rfl

/-- R75 step 3: nothing was measured. -/
theorem finalise_of_empty (src : Source) (r : DischargeRequest) (reserved : Nat) (c : EndCause) {s : State}
    (h : measuredMass s = 0) :
    finalise src r reserved c s = (closeDischarge src s, ⟨none, 0, 0, endFlags false c⟩) := if_pos h

/-- R75 steps 4 and 5: a lot joins the queue. -/
theorem finalise_of_mass (src : Source) (r : DischargeRequest) (reserved : Nat) (c : EndCause) {s : State}
    (h : measuredMass s ≠ 0) :
    finalise src r reserved c s =
      (closeDischarge src (admitLot (finalLot src r reserved c s) s),
        ⟨some s.newNumber, measuredMass s, lotSpan (measuredMass s) s.line.mPocket reserved,
          endFlags (decide (reserved * s.line.mPocket < measuredMass s)) c⟩) := if_neg h

/-- R75: a finalisation is a closed discharge, but for the lot that joins the ring. -/
theorem finalise_eq_close (src : Source) (r : DischargeRequest) (reserved : Nat) (c : EndCause) (s : State) :
    (finalise src r reserved c s).1 =
      { closeDischarge src s with carousel := (finalise src r reserved c s).1.carousel } := by
  by_cases h : measuredMass s = 0
  · rw [finalise_of_empty src r reserved c h]
  · rw [finalise_of_mass src r reserved c h]
    cases src <;> rfl

/-- R86: the content of a lot is copied from the material's entry. -/
theorem lotContent_eq (p : Profile) (cargo : Cargo) : lotContent p cargo = match cargo with
    | .sludge => .sludge
    | .chips n => .chips n
        ⟨(p.materials.get n).family, (p.materials.get n).form, (p.materials.get n).rate, (p.materials.get n).speed,
          (p.materials.get n).stall, (p.materials.get n).purge⟩ := by
  cases cargo <;> rfl

/-- Settles O24, by whether anything was measured. -/
theorem finalisation : Obligations.Finalisation := by
  unfold Obligations.Finalisation
  intro src r reserved c s m span flags content lot closed
  refine ⟨fun hempty => ?_, fun hmass => ?_⟩
  · rw [finalise_of_empty src r reserved c hempty, closeDischarge_eq]
    rfl
  · rw [finalise_of_mass src r reserved c hmass, closeDischarge_eq]
    have hcontent : lotContent s.store.working r.cargo = content := lotContent_eq _ _
    have hlot : finalLot src r reserved c s = lot := by
      rw [finalLot, newLot, hcontent]
      rfl
    rw [hlot]
    rfl

/-! ## What follows -/

theorem chuteFreed_eq (s : State) : chuteFreed s = arbitrate (tryIndexStart s) := rfl

theorem headAppears_eq (wasEmpty : Bool) (s : State) :
    headAppears wasEmpty s = if wasEmpty = true ∧ s.carousel.queue ≠ [] then feedEvaluation s else s := by
  simp [headAppears]

theorem withdrawOffer_station (st : Station) (r : DischargeRequest) (s : State) :
    withdrawOffer (.station st) r s = postStation st .offerWithdrawn { s with
      arbiter := { s.arbiter with
        requests := s.arbiter.requests.set (.station st) (some { r with state := .pending }) } } := rfl

theorem afterRequest_displaces {src o : Source} {urgency : Nat} {s : State} {r : DischargeRequest} {k w : Nat}
    (hcurrent : s.current = some (o, r)) (hstate : r.state = .offered k w) (hother : o ≠ src)
    (hurgency : r.urgency < urgency) : afterRequest src urgency s = chuteFreed (withdrawOffer o r s) := by
  simp [afterRequest, hcurrent, displaced, hstate, hother, hurgency]

theorem afterRequest_arbitrates {src : Source} {urgency : Nat} {s : State}
    (h : ∀ o r, s.current = some (o, r) → (∀ k w, r.state ≠ .offered k w) ∨ o = src ∨ urgency ≤ r.urgency) :
    afterRequest src urgency s = arbitrate s := by
  unfold afterRequest
  split
  · next c hcurrent =>
    refine if_neg ?_
    rcases h c.1 c.2 hcurrent with hstate | hsrc | hurgency
    · unfold displaced
      split
      · next k w hoffered => exact absurd hoffered (hstate k w)
      · simp
    · unfold displaced
      split <;> simp [hsrc]
    · unfold displaced
      split <;> simp [Nat.not_lt.mpr hurgency]
  · rfl

/-- Settles O22, operation by operation; in safe stop each of the four that follow a finalisation does nothing. -/
theorem followUps : Obligations.FollowUps := by
  unfold Obligations.FollowUps
  refine ⟨?_, ?_, chuteFreed_eq, headAppears_eq, fun s => ⟨fun _ => rfl, rfl⟩, ?_, ?_⟩
  · intro src urgency s
    refine ⟨fun o r k w hcurrent hstate hother hurgency => ?_, afterRequest_arbitrates⟩
    rw [afterRequest_displaces hcurrent hstate hother hurgency, withdrawOffer_station]
  · intro s hpowered
    exact ⟨running_powered _ s hpowered, running_powered _ s hpowered, running_powered _ s hpowered,
      running_powered _ s hpowered⟩
  · intro wasEmpty s u
    have hu : u = headAppears wasEmpty s := (headAppears_eq wasEmpty s).symm
    rw [hu]
    exact ⟨fun _ => rfl, rfl, fun hstop src => afterFinalise_of_stop hstop src wasEmpty⟩
  · intro r reserved c s done
    exact ⟨rfl, fun st => ⟨rfl, fun _ _ => rfl⟩⟩

end Sys2Proof.Machine
end

section
/-! The entry into safe stop, block by block (O53). -/

namespace Sys2Proof.Machine

/-! ## The figure, the table and the valves -/

/-- R39, R157: what the figure, the table and the valves come to at the entry. -/
def stopFigure (s : State) : State := closeValves (publish 0 (postHall .safeStop s))

theorem enterSafeStop_eq (s : State) : enterSafeStop s =
    filterStopEntry (crusherStopEntry (carouselStopEntry (arbiterStopEntry (stopFigure s)))) := rfl

theorem postHall_hall (k j : HallKind) (s : State) : (postHall k s).events.hall.get j =
    (s.events.hall.get j || (decide (j = k) && decide (s.store.working.levels.get k ≠ 0))) := by
  unfold postHall
  split_ifs with hlevel
  · simp [hlevel]
  · by_cases hj : j = k
    · simp [hj, hlevel]
    · simp [PerHallKind.get_set, hj]

theorem postHall_stationSet (k : HallKind) (s : State) (st : Station) :
    (postHall k s).stationSet st = s.stationSet st := by
  unfold postHall State.stationSet
  split_ifs <;> rfl

theorem postHall_eq (k : HallKind) (s : State) : postHall k s = { s with events := (postHall k s).events } := by
  unfold postHall
  split_ifs <;> rfl

theorem closeValves_publish (u : State) : closeValves (publish 0 u) = { u with
    supply := { u.supply with published := 0 }
    slots := passTable 0 u.slots
    drive := { u.drive with channels := .same ⟨0, none, false⟩ }
    events := (publish 0 u).events } := by
  obtain ⟨hslots, -, hdrive, -⟩ := publish_passed 0 u
  have hvalves := congrArg closeValves (publish_eq 0 u)
  rw [hslots, hdrive] at hvalves
  exact hvalves

theorem stopFigure_eq (s : State) : stopFigure s = { s with
    supply := { s.supply with published := 0 }
    slots := passTable 0 s.slots
    drive := { s.drive with channels := .same ⟨0, none, false⟩ }
    events := (stopFigure s).events } :=
  calc stopFigure s = closeValves (publish 0 (postHall .safeStop s)) := rfl
    _ = _ := by rw [closeValves_publish]; simp; rfl

theorem stopFigure_hall (s : State) (k : HallKind) : (stopFigure s).events.hall.get k =
    (s.events.hall.get k || (decide (k = .safeStop) && decide (s.store.working.levels.get .safeStop ≠ 0))) := by
  obtain ⟨-, -, -, -, hhall⟩ := publish_passed 0 (postHall .safeStop s)
  have hsame : (stopFigure s).events.hall = (publish 0 (postHall .safeStop s)).events.hall := rfl
  rw [hsame, hhall, postHall_hall]

theorem stopFigure_stationSet (s : State) (st : Station) (k : StationKind) : ((stopFigure s).stationSet st).get k =
    ((s.stationSet st).get k || (decide (k = .grantChanged) && grantsDiffer s.slots (passTable 0 s.slots) st)) := by
  obtain ⟨-, -, -, hset, -⟩ := publish_passed 0 (postHall .safeStop s)
  have hsame : (stopFigure s).stationSet st = (publish 0 (postHall .safeStop s)).stationSet st := rfl
  rw [hsame, hset, postHall_stationSet, postHall_slots]

/-! ## The current discharge -/

/-- What the entry into safe stop makes of the discharges (R75, R78, R86). -/
structure DischargeStopped (s t : State) : Prop where
  frame : t = { s with
    arbiter := t.arbiter
    carousel := { s.carousel with queue := t.carousel.queue, counter := t.carousel.counter }
    filter := { s.filter with troughFull := t.filter.troughFull }
    measure := { s.measure with chute := t.measure.chute }
    drive := { s.drive with gates := t.drive.gates, dumpValve := t.drive.dumpValve }
    events := { s.events with stations := t.events.stations } }
  trough : t.filter.troughFull = (s.filter.troughFull && !s.isOpen .sludge)
  chute : t.measure.chute = { s.measure.chute with
    enabled := s.measure.chute.enabled && allSources.all (fun src => !s.isOpen src) }
  kept : ∀ st k, k ≠ .offerWithdrawn → (t.stationSet st).get k = (s.stationSet st).get k
  notOffered : ∀ st, (∀ r k w, s.request (.station st) = some r → r.state ≠ .offered k w) →
    (t.stationSet st).get .offerWithdrawn = (s.stationSet st).get .offerWithdrawn
  idle : ∀ src, ¬ t.isCurrent src
  absent : ∀ src, s.request src = none → t.request src = none
  pending : ∀ src r, s.request src = some r → r.state = .pending → t.request src = some r
  offered : ∀ src r k w, s.request src = some r → r.state = .offered k w →
    t.request src = some { r with state := .pending } ∧
      ∀ st, src = .station st → (t.stationSet st).get .offerWithdrawn = true
  opened : ∀ src r k g d, s.request src = some r → r.state = .opened k g d →
    t.request src = none ∧ t.carousel.queue = (finalise src r k .cutShort s).1.carousel.queue ∧
      t.carousel.counter = (finalise src r k .cutShort s).1.carousel.counter ∧
      ∀ st, src = .station st → t.arbiter.late.get st = some (finalise src r k .cutShort s).2
  closed : (∀ src, s.isOpen src = false) →
    t.carousel.queue = s.carousel.queue ∧ t.carousel.counter = s.carousel.counter
  late : ∀ st, s.isOpen (.station st) = false → t.arbiter.late.get st = s.arbiter.late.get st
  gates : ∀ src, t.gateOpen src = (s.gateOpen src && !s.isOpen src)

theorem isOpen_of_opened {s : State} {src : Source} {r : DischargeRequest} {k g : Nat} {d : Option Nat}
    (hr : s.request src = some r) (hstate : r.state = .opened k g d) : s.isOpen src = true := by
  simp [State.isOpen, hr, hstate]

theorem isOpen_of_offered {s : State} {src : Source} {r : DischargeRequest} {k w : Nat}
    (hr : s.request src = some r) (hstate : r.state = .offered k w) : s.isOpen src = false := by
  simp [State.isOpen, hr, hstate]

theorem isOpen_of_notCurrent {s : State} {src : Source} (h : ¬ s.isCurrent src) : s.isOpen src = false :=
  Bool.eq_false_iff.mpr fun hopen => h (isCurrent_of_isOpen hopen)

theorem isCurrent_of_offered {s : State} {src : Source} {r : DischargeRequest} {k w : Nat}
    (hr : s.request src = some r) (hstate : r.state = .offered k w) : s.isCurrent src :=
  (isCurrent_iff s src).mpr ⟨r, hr, by simp [DischargeRequest.isCurrent, hstate]⟩

theorem notCurrent_of_pending {s : State} {src : Source} {r : DischargeRequest} (hr : s.request src = some r)
    (hstate : r.state = .pending) : ¬ s.isCurrent src := by
  rw [isCurrent_iff]
  rintro ⟨r', hr', hc⟩
  obtain rfl := Option.some.inj (hr.symm.trans hr')
  simp [DischargeRequest.isCurrent, hstate] at hc

/-- R162: no gate stands on an OPEN request. -/
theorem DischargeStopped.refl {s : State} (h : ∀ src, ¬ s.isCurrent src) : DischargeStopped s s := by
  have hclosed : ∀ src, s.isOpen src = false := fun src => isOpen_of_notCurrent (h src)
  have hnone : allSources.all (fun src => !s.isOpen src) = true := by simp [hclosed]
  refine ⟨rfl, by simp [hclosed], by rw [hnone, Bool.and_true], fun _ _ _ => rfl, fun _ _ => rfl, h, fun _ hr => hr,
    fun _ _ hr _ => hr, fun src r k w hr hstate => ?_, fun src r k g d hr hstate => ?_, fun _ => ⟨rfl, rfl⟩,
    fun _ _ => rfl, fun src => by simp [hclosed]⟩
  · exact absurd (isCurrent_of_offered hr hstate) (h src)
  · exact absurd (isCurrent_of_isOpen (isOpen_of_opened hr hstate)) (h src)

/-- R66: the current discharge is the only one. -/
theorem request_of_current {s : State} {src a : Source} {r r' : DischargeRequest}
    (hunique : ∀ a b, s.isCurrent a → s.isCurrent b → a = b) (hcurrent : s.current = some (src, r))
    (hr' : s.request a = some r') (ha : s.isCurrent a) : a = src ∧ r' = r := by
  obtain ⟨hr, hc⟩ := current_some hcurrent
  have heq := hunique a src ha ((isCurrent_iff s src).mpr ⟨r, hr, hc⟩)
  subst heq
  exact ⟨rfl, Option.some.inj (hr'.symm.trans hr)⟩

theorem withdrawOffer_stationSet (src : Source) (r : DischargeRequest) (s : State) (st : Station) (k : StationKind) :
    ((withdrawOffer src r s).stationSet st).get k =
      ((s.stationSet st).get k || (decide (k = .offerWithdrawn) && decide (src = .station st))) := by
  cases src with
  | sludge => simp [withdrawOffer, State.stationSet]
  | station a =>
    by_cases hst : st = a
    · subst hst
      by_cases hk : k = .offerWithdrawn <;> simp [withdrawOffer, State.stationSet, PerStationKind.get_set, hk]
    · simp [withdrawOffer, State.stationSet, PerStation.get_set_ne _ hst, Ne.symm hst]

/-- R78: an offer is withdrawn. -/
theorem DischargeStopped.withdraw {s : State} (hunique : ∀ a b, s.isCurrent a → s.isCurrent b → a = b) {src : Source}
    {r : DischargeRequest} {k w : Nat} (hcurrent : s.current = some (src, r)) (hstate : r.state = .offered k w) :
    DischargeStopped s (withdrawOffer src r s) := by
  have hr := (current_some hcurrent).1
  have hclosed : ∀ a, s.isOpen a = false := fun a => Bool.eq_false_iff.mpr fun hopen => by
    have ha := isCurrent_of_isOpen hopen
    obtain rfl := hunique a src ha (isCurrent_of_offered hr hstate)
    simp [isOpen_of_offered hr hstate] at hopen
  have hnone : allSources.all (fun src => !s.isOpen src) = true := by simp [hclosed]
  refine ⟨?_, ?_, ?_, fun st j hj => ?_, fun st hst => ?_, fun a ha => ?_, fun a ha => ?_, fun a q hq hpending => ?_,
    fun a q k' w' hq hoffered => ?_, fun a q k' g d hq hopened => ?_, fun _ => ?_, fun st _ => ?_, fun a => ?_⟩
  · cases src <;> rfl
  · simp [hclosed]
  · rw [hnone, Bool.and_true]
    cases src <;> rfl
  · simp [withdrawOffer_stationSet, hj]
  · have hsrc : src ≠ .station st := fun heq => hst r k w (heq ▸ hr) hstate
    simp [withdrawOffer_stationSet, hsrc]
  · obtain ⟨q, hq, hc⟩ := (isCurrent_iff _ a).mp ha
    rw [request_withdrawOffer] at hq
    split at hq
    · rw [← Option.some.inj hq] at hc
      cases hc
    · next hne => exact hne (request_of_current hunique hcurrent hq ((isCurrent_iff s a).mpr ⟨q, hq, hc⟩)).1
  · have hne : a ≠ src := fun heq => by simp [heq ▸ hr] at ha
    rw [request_withdrawOffer, if_neg hne, ha]
  · have hne : a ≠ src := fun heq => by
      obtain rfl := Option.some.inj ((heq ▸ hq).symm.trans hr)
      simp [hstate] at hpending
    rw [request_withdrawOffer, if_neg hne, hq]
  · obtain ⟨rfl, rfl⟩ := request_of_current hunique hcurrent hq (isCurrent_of_offered hq hoffered)
    exact ⟨by rw [request_withdrawOffer, if_pos rfl], fun st heq => by simp [withdrawOffer_stationSet, heq]⟩
  · have hopen := isOpen_of_opened hq hopened
    simp [hclosed] at hopen
  · cases src <;> exact ⟨rfl, rfl⟩
  · cases src <;> rfl
  · rw [hclosed, Bool.not_false, Bool.and_true]
    cases a <;> cases src <;> rfl

/-- R75, R78: the open gate is closed, its discharge finalised CUT_SHORT. -/
theorem DischargeStopped.finalise {s : State} (hunique : ∀ a b, s.isCurrent a → s.isCurrent b → a = b) {src : Source}
    {r : DischargeRequest} {k g : Nat} {d : Option Nat} (hcurrent : s.current = some (src, r))
    (hstate : r.state = .opened k g d) :
    DischargeStopped s (keepLate src (finalise src r k .cutShort s).2 (finalise src r k .cutShort s).1) := by
  have hr := (current_some hcurrent).1
  have hsrc := isOpen_of_opened hr hstate
  have hopen : ∀ a, s.isOpen a = decide (a = src) := fun a => by
    by_cases heq : a = src
    · simp [heq, hsrc]
    · rw [decide_eq_false heq]
      exact Bool.eq_false_iff.mpr fun h => heq (hunique a src (isCurrent_of_isOpen h) (isCurrent_of_isOpen hsrc))
  have hall : allSources.all (fun a => !s.isOpen a) = false :=
    List.all_eq_false.mpr ⟨src, mem_allSources src, by simp [hsrc]⟩
  have hclose := finalise_eq_close src r k .cutShort s
  rw [closeDischarge_eq] at hclose
  have hmeasure := congrArg State.measure hclose
  have hdrive := congrArg State.drive hclose
  have harbiter := congrArg State.arbiter hclose
  have hcarousel := finalise_carousel_eq src r k .cutShort s
  refine ⟨?_, ?_, ?_, fun _ _ _ => ?_, fun _ _ => ?_, fun a ha => ?_, fun a ha => ?_, fun a q hq hpending => ?_,
    fun a q k' w' hq hoffered => ?_, fun a q k' g' d' hq hopened => ?_, fun hclosed => ?_, fun st hclosed => ?_,
    fun a => ?_⟩
  · have hring : (Machine.finalise src r k .cutShort s).1.carousel = { s.carousel with
        queue := (Machine.finalise src r k .cutShort s).1.carousel.queue
        counter := (Machine.finalise src r k .cutShort s).1.carousel.counter } := by
      rw [hcarousel]
      split_ifs <;> rfl
    cases src <;> rw [hclose, hring] <;> rfl
  · cases src <;> simp [hopen]
  · simp [hmeasure, hall]
  · simp [State.stationSet]
  · simp [State.stationSet]
  · obtain ⟨q, hq, hc⟩ := (isCurrent_iff _ a).mp ha
    rw [request_keepLate, request_finalise] at hq
    split at hq
    · cases hq
    · next hne => exact hne (request_of_current hunique hcurrent hq ((isCurrent_iff s a).mpr ⟨q, hq, hc⟩)).1
  · rw [request_keepLate, request_finalise, ha, ite_self]
  · have hne : a ≠ src := fun heq => by
      obtain rfl := Option.some.inj ((heq ▸ hq).symm.trans hr)
      simp [hstate] at hpending
    rw [request_keepLate, request_finalise, if_neg hne, hq]
  · obtain ⟨-, rfl⟩ := request_of_current hunique hcurrent hq (isCurrent_of_offered hq hoffered)
    simp [hstate] at hoffered
  · obtain ⟨rfl, rfl⟩ := request_of_current hunique hcurrent hq (isCurrent_of_isOpen (isOpen_of_opened hq hopened))
    obtain ⟨rfl, -⟩ : k' = k ∧ _ := by simpa [hstate] using hopened.symm
    refine ⟨by rw [request_keepLate, request_finalise, if_pos rfl], by simp, by simp, fun st heq => ?_⟩
    subst heq
    exact PerStation.get_set_same _ _ _
  · simp [hclosed] at hsrc
  · have hne : src ≠ .station st := fun heq => by simp [hopen, heq] at hclosed
    cases src with
    | sludge => simp [keepLate, harbiter]
    | station a => simp [keepLate, harbiter, PerStation.get_set_ne _ (fun h : st = a => hne (h ▸ rfl))]
  · rw [hopen]
    cases src with
    | sludge => cases a <;> simp [State.gateOpen, hdrive]
    | station b =>
      cases a with
      | sludge => simp [State.gateOpen, hdrive]
      | station a => by_cases heq : a = b <;> simp [State.gateOpen, hdrive, PerStation.get_set, heq]

end Sys2Proof.Machine
end

section
/-! The entry into safe stop as a whole (O53). -/

namespace Sys2Proof.Machine

/-! ## A figure of 0 published again -/

theorem flagGrants_same (s : State) : flagGrants s.slots s = s := by
  have hsame : ∀ st, grantsDiffer s.slots s.slots st = false := fun st => by simp [grantsDiffer]
  have hfold : ∀ sts : List Station,
      sts.foldl (fun u st => if grantsDiffer s.slots u.slots st then postStation st .grantChanged u else u) s = s := by
    intro sts
    induction sts with
    | nil => rfl
    | cons st sts ih => rw [List.foldl_cons, hsame, if_neg (by simp), ih]
  exact hfold allStations

theorem stageAll_shut {s : State} (hshut : s.drive.channels = .same ⟨0, none, false⟩)
    (hgrants : ∀ sl, grantOf (s.slots.get sl) = 0) : stageAll s = s := by
  have hchannels : s.drive.channels.mapKeys (fun sl c =>
      stageChannel (targetDuty (grantOf (s.slots.get sl)) (s.store.working.vmax.get sl)) c) = s.drive.channels := by
    refine PerSlot.ext_get fun sl => ?_
    rw [PerSlot.get_mapKeys, hgrants, hshut, PerSlot.get_same]
    have hduty : ∀ v, targetDuty 0 v = 0 := fun v => by
      rcases Nat.eq_zero_or_pos v with rfl | hv
      · rfl
      · simp [targetDuty, ceilDiv, Nat.div_eq_of_lt (Nat.sub_lt hv Nat.one_pos)]
    rw [hduty]
    rfl
  rw [stageAll, hchannels]

/-- R38, R39: with the figure 0 and the valves shut, a recomputation in safe stop does nothing. -/
theorem recompute_of_shut {s : State} (hstop : s.inSafeStop = true) (hfigure : s.supply.published = 0)
    (hshut : s.drive.channels = .same ⟨0, none, false⟩) (hgrants : ∀ sl, grantOf (s.slots.get sl) = 0)
    (htable : passTable 0 s.slots = s.slots) : recompute s = s := by
  rcases recompute_cases s with ⟨heq, -⟩ | ⟨b, -, heq⟩ <;> rw [heq]
  have hzero : newFigure s b = 0 := by rw [newFigure, hstop, if_pos rfl]
  have hsupply : ({ s with supply := { s.supply with published := 0 } } : State) = s := by
    rw [← hfigure]
  rw [hzero, publish, hsupply, allotmentPass, hfigure, htable, stageAll_shut hshut hgrants, flagGrants_same]

/-! ## Carousel, crusher and filter -/

theorem carouselStopEntry_eq (s : State) : carouselStopEntry s = { s with
    carousel := { s.carousel with index := match s.carousel.index with
      | .indexing n _ => .suspended n false
      | i => i }
    drive := { s.drive with step := s.drive.step && !s.carousel.index.isIndexing } } := by
  unfold carouselStopEntry
  cases h : s.carousel.index <;> simp [setStep, IndexState.isIndexing, ← h]

theorem driveCrusher_stopped (s : State) : driveCrusher .stopped none s = { s with
    drive := { s.drive with direction := .stopped }
    measure := { s.measure with shaft := if s.drive.direction = .stopped then s.measure.shaft else .idle } } := by
  unfold driveCrusher shaftOnDirection
  cases s.drive.direction <;> rfl

theorem crusherStopEntry_eq (s : State) : crusherStopEntry s = { s with
    crusher := { s.crusher with
      state := if s.crusher.state = .blocked then .blocked else .stopped
      stallCount := if s.crusher.state = .crushing then 0 else s.crusher.stallCount }
    drive := { s.drive with direction := .stopped }
    measure := { s.measure with shaft := if s.drive.direction = .stopped then s.measure.shaft else .idle } } := by
  unfold crusherStopEntry crusherHalt enterStopped setCrusherState
  cases h : s.crusher.state with
  | blocked =>
    have hne : s.crusher.state ≠ .crushing := by simp [h]
    simp [driveCrusher_stopped, ← h]
    rw [if_neg hne]
  | _ => simp [driveCrusher_stopped]

/-- R57: the filter's part, where its recomputation does nothing. -/
theorem filterStopEntry_eq {s : State}
    (h : recompute (setPendingFlag true (setFilterState .filtering (sprayOff s))) =
      setPendingFlag true (setFilterState .filtering (sprayOff s))) : filterStopEntry s = { s with
    filter := { s.filter with
      state :=
        if s.filter.state.isBackwash = true ∨ s.filter.state.isIndexing = true then .filtering else s.filter.state
      pending := s.filter.pending || s.filter.state.isBackwash }
    drive := { s.drive with
      spray := if s.filter.state.isBackwash = true then .off else s.drive.spray
      fleeceMotor := s.drive.fleeceMotor && !s.filter.state.isIndexing } } := by
  unfold filterStopEntry
  cases hstate : s.filter.state with
  | backwash n =>
    rw [h]
    simp [setPendingFlag, setFilterState, sprayOff, FilterState.isBackwash, FilterState.isIndexing]
  | indexing => simp [setFleeceMotor, setFilterState, FilterState.isBackwash, FilterState.isIndexing]
  | filtering | settle => simp [FilterState.isBackwash, FilterState.isIndexing, ← hstate]

/-! ## The entry -/

/-- R174: the arbiter's part of the entry. -/
theorem arbiterStopEntry_stopped {s : State} (hstop : s.inSafeStop = true)
    (hunique : ∀ a b, s.isCurrent a → s.isCurrent b → a = b) : DischargeStopped s (arbiterStopEntry s) := by
  rcases arbiterStopEntry_cases hstop with ⟨hnone, heq⟩ | ⟨src, r, k, w, hcurrent, hstate, heq⟩ |
    ⟨src, r, k, g, d, hcurrent, hstate, heq⟩ <;> rw [heq]
  · exact .refl ((current_none_iff s).mp hnone)
  · exact .withdraw hunique hcurrent hstate
  · exact .finalise hunique hcurrent hstate

/-- R174: carousel, crusher and filter, on a line whose figure is 0 and whose valves are shut. -/
theorem blocksStop_eq {s : State} (hstop : s.inSafeStop = true) (hfigure : s.supply.published = 0)
    (hshut : s.drive.channels = .same ⟨0, none, false⟩) (hgrants : ∀ sl, grantOf (s.slots.get sl) = 0)
    (htable : passTable 0 s.slots = s.slots) :
    filterStopEntry (crusherStopEntry (carouselStopEntry s)) = { s with
      carousel := { s.carousel with index := match s.carousel.index with
        | .indexing n _ => .suspended n false
        | i => i }
      crusher := { s.crusher with
        state := if s.crusher.state = .blocked then .blocked else .stopped
        stallCount := if s.crusher.state = .crushing then 0 else s.crusher.stallCount }
      measure := { s.measure with shaft := if s.drive.direction = .stopped then s.measure.shaft else .idle }
      filter := { s.filter with
        state :=
          if s.filter.state.isBackwash = true ∨ s.filter.state.isIndexing = true then .filtering else s.filter.state
        pending := s.filter.pending || s.filter.state.isBackwash }
      drive := { s.drive with
        step := s.drive.step && !s.carousel.index.isIndexing
        direction := .stopped
        spray := if s.filter.state.isBackwash = true then .off else s.drive.spray
        fleeceMotor := s.drive.fleeceMotor && !s.filter.state.isIndexing } } := by
  rw [carouselStopEntry_eq, crusherStopEntry_eq, filterStopEntry_eq]
  exact recompute_of_shut hstop hfigure hshut hgrants htable

/-- R75: the outcome of a finalisation. -/
theorem finalise_outcome_eq (src : Source) (r : DischargeRequest) (k : Nat) (c : EndCause) (s : State) :
    (finalise src r k c s).2 =
      if measuredMass s = 0 then ⟨none, 0, 0, endFlags false c⟩
      else ⟨some s.newNumber, measuredMass s, lotSpan (measuredMass s) s.line.mPocket k,
        endFlags (decide (k * s.line.mPocket < measuredMass s)) c⟩ := by
  split_ifs with h
  · rw [finalise_of_empty src r k c h]
  · rw [finalise_of_mass src r k c h]

/-- R75: a finalisation reads the ring, the chute count, the crusher slot and the working copy. -/
theorem finalise_congr {s t : State} (hcarousel : t.carousel = s.carousel) (hmeasure : t.measure = s.measure)
    (hcrusher : t.crusher = s.crusher) (hstore : t.store = s.store) (src : Source) (r : DischargeRequest) (k : Nat)
    (c : EndCause) : (finalise src r k c t).1.carousel = (finalise src r k c s).1.carousel ∧
      (finalise src r k c t).2 = (finalise src r k c s).2 := by
  have hline : t.line = s.line := by rw [State.line, hstore, State.line]
  have hnumber : t.newNumber = s.newNumber := by
    simp only [State.newNumber, State.liveNumbers, hcarousel, hcrusher]
  have hmass : measuredMass t = measuredMass s := by simp only [measuredMass, hline, hmeasure]
  have hlot : finalLot src r k c t = finalLot src r k c s := by
    simp only [finalLot, newLot, hnumber, hmass, hline, hstore]
  rw [finalise_carousel_eq, finalise_carousel_eq, finalise_outcome_eq, finalise_outcome_eq, hmass, hlot, hnumber, hline,
    hcarousel]
  exact ⟨rfl, rfl⟩

/-- Settles O53, the blocks one after the other: the figure with table and valves, the discharges, and then carousel,
crusher and filter. -/
theorem safeStopEntry : Obligations.SafeStopEntry := by
  unfold Obligations.SafeStopEntry
  intro s hstop hunique hsuspended t
  have hfigure := stopFigure_eq s
  have harbiter := arbiterStopEntry_stopped (s := stopFigure s) (by rw [hfigure]; exact hstop)
    (by rw [hfigure]; exact hunique)
  have ht : t = filterStopEntry (crusherStopEntry (carouselStopEntry (arbiterStopEntry (stopFigure s)))) := rfl
  clear_value t
  generalize arbiterStopEntry (stopFigure s) = u at harbiter ht
  rw [hfigure] at harbiter
  have hframe := harbiter.frame
  have hslots : u.slots = passTable 0 s.slots := by rw [hframe]
  have hchannels : u.drive.channels = .same ⟨0, none, false⟩ := by rw [hframe]
  have hindex : u.carousel.index = s.carousel.index := by rw [hframe]
  have hfilter : u.filter.state = s.filter.state := by rw [hframe]
  have hpending : u.filter.pending = s.filter.pending := by rw [hframe]
  have hstep : u.drive.step = s.drive.step := by rw [hframe]
  have hmotor : u.drive.fleeceMotor = s.drive.fleeceMotor := by rw [hframe]
  have hspray : u.drive.spray = s.drive.spray := by rw [hframe]
  have hcrusher : u.crusher = s.crusher := by rw [hframe]
  have hstopped : u.inSafeStop = true := by rw [hframe]; exact hstop
  have hgrants := grantOf_passTable_zero hsuspended
  have hpublished : u.supply.published = 0 := by rw [hframe]
  rw [blocksStop_eq hstopped hpublished hchannels
    (fun sl => by rw [hslots]; exact (hgrants sl).1) (by rw [hslots]; exact passTable_zero_again s.slots)] at ht
  subst ht
  refine ⟨by rw [hframe], by rw [hframe], by rw [hframe],
    by rw [hframe], by rw [hframe], by rw [hframe],
    by rw [hframe], fun k => ?_, fun st k hk hk' => ?_, hslots, fun st => ?_, by rw [hframe],
    fun sl => ?_, fun sl => ?_, harbiter.idle, harbiter.absent, harbiter.pending, harbiter.offered, fun st hst => ?_,
    ?_, harbiter.closed, harbiter.late, ?_, ?_, harbiter.chute, ?_⟩
  · have hhall : u.events.hall = (stopFigure s).events.hall := by rw [hframe]
    exact (congrArg (fun x => PerHallKind.get x k) hhall).trans (stopFigure_hall s k)
  · refine (harbiter.kept st k hk').trans ((stopFigure_stationSet s st k).trans ?_)
    simp [hk]
  · refine (harbiter.kept st .grantChanged (by simp)).trans ((stopFigure_stationSet s st _).trans ?_)
    simp
  · exact hslots ▸ hgrants sl
  · exact (congrArg (fun x => PerSlot.get x sl) hchannels).trans (PerSlot.get_same _ sl)
  · refine (harbiter.notOffered st hst).trans ((stopFigure_stationSet s st _).trans ?_)
    simp
  · intro src r k g d hr hopened f
    have hfinal := harbiter.opened src r k g d hr hopened
    rw [← hfigure] at hfinal
    obtain ⟨hnone, hqueue, hcounter, hlate⟩ := hfinal
    obtain ⟨hring, houtcome⟩ := finalise_congr (s := s) (t := stopFigure s) (by rw [hfigure]) (by rw [hfigure])
      (by rw [hfigure]) (by rw [hfigure]) src r k .cutShort
    rw [hring] at hqueue hcounter
    rw [houtcome] at hlate
    exact ⟨hnone, hqueue, hcounter, hlate⟩
  · intro src
    cases src with
    | station st => exact harbiter.gates (.station st)
    | sludge => exact harbiter.gates .sludge
  · have hmeasure : u.measure = { s.measure with chute := u.measure.chute } := by rw [hframe]
    have hdirection : u.drive.direction = s.drive.direction := by rw [hframe]
    rw [hdirection, hmeasure]
  · have hring : u.carousel.mode = s.carousel.mode ∧ u.carousel.survey = s.carousel.survey ∧
        u.carousel.requested = s.carousel.requested := by rw [hframe]; exact ⟨rfl, rfl, rfl⟩
    have hdrive : u.drive.speed = s.drive.speed ∧ u.drive.binGate = s.drive.binGate ∧ u.drive.flap = s.drive.flap ∧
        u.drive.periodLeft = s.drive.periodLeft := by rw [hframe]; exact ⟨rfl, rfl, rfl, rfl⟩
    have hkept : u.filter.gap = s.filter.gap ∧ u.filter.fleece = s.filter.fleece := by rw [hframe]; exact ⟨rfl, rfl⟩
    obtain ⟨hmode, hsurvey, hrequested⟩ := hring
    obtain ⟨hspeed, hgate, hflap, hperiod⟩ := hdrive
    obtain ⟨hgap, hfleece⟩ := hkept
    refine ⟨fun n x hi => ?_, fun hi => ?_, hmode, hsurvey, hrequested, ?_, rfl, hspeed, hgate, hflap, hperiod, hgap,
      hfleece, harbiter.trough, fun n hb => ?_, fun hb => ?_, fun x y z hx => ?_, fun hx => ?_, fun hrest => ?_⟩
    · simp [hindex, hi, IndexState.isIndexing]
    · cases hi' : s.carousel.index with
      | indexing n x => exact absurd hi' (hi n x)
      | idle | suspended | faulted => simp [hindex, hi', hstep, IndexState.isIndexing]
    · simp only [hcrusher]
    · simp [hfilter, hb, FilterState.isBackwash]
    · have hno : s.filter.state.isBackwash = false := Bool.eq_false_iff.mpr fun h =>
        let ⟨n, hn⟩ := (FilterState.isBackwash_iff _).mp h; hb n hn
      simp [hfilter, hno, hpending, hspray]
    · simp [hfilter, hx, FilterState.isIndexing]
    · have hno : s.filter.state.isIndexing = false := Bool.eq_false_iff.mpr fun h =>
        let ⟨l, m, n, hn⟩ := (FilterState.isIndexing_iff _).mp h; hx l m n hn
      simp [hfilter, hno, hmotor]
    · rcases hrest with h | ⟨n, h⟩ <;> simp [hfilter, h, FilterState.isBackwash, FilterState.isIndexing]

end Sys2Proof.Machine
end

section
/-! The queue, the idle block, reset and the logic supply (O1, O2, O4, O5, O60). -/

namespace Sys2Proof.Machine

/-- Settles O1: a step on a queue with a front command is that command. -/
theorem stepTakesFront : Obligations.StepTakesFront := by
  unfold Obligations.StepTakesFront
  intro c rest s h
  simp only [step, h]
  rfl

/-! ## The idle step -/

theorem step_of_idle {s : State} (h : s.pending = []) : step s = Machine.idleStep s := by simp only [step, h]

theorem idle_of_two {s : State} {i j : Instr} {rest : List Instr} (hpowered : s.powered = true)
    (hdue : s.due = i :: j :: rest) : ∃ c ∈ s.due, s.idle = .take c (s.ties + 1) := by
  have hlt : Config.tieChoice s.ties % (rest.length + 2) < (i :: j :: rest).length :=
    Nat.mod_lt _ (Nat.succ_pos _)
  refine ⟨(i :: j :: rest).getD (Config.tieChoice s.ties % (rest.length + 2)) i, ?_, ?_⟩
  · rw [hdue, List.getD_eq_getElem _ _ hlt]
    exact List.getElem_mem hlt
  · simp only [State.idle, hpowered, hdue, if_true]

end Sys2Proof.Machine

namespace Sys2Proof

open Machine

/-- Settles O2, by how many commands are due. -/
theorem idleStep : Obligations.IdleStep := by
  unfold Obligations.IdleStep
  intro s hqueue
  rw [step_of_idle hqueue, Machine.idleStep]
  refine ⟨fun hoff => ?_, fun hon hnone => ?_, fun hon c hone => ?_, fun hon htwo => ?_⟩
  · simp [State.idle, hoff]
  · simp only [State.idle, hon, hnone, if_true]
  · have hidle : s.idle = .take c s.ties := by simp only [State.idle, hon, hone, if_true]
    rw [hidle]
  · match hdue : s.due, htwo with
    | i :: j :: rest, _ =>
      obtain ⟨c, hc, hidle⟩ := idle_of_two hon hdue
      exact ⟨c, hdue ▸ hc, by rw [hidle]⟩

end Sys2Proof

namespace Sys2Proof.Machine

/-! ## Reset -/

/-- Settles O4: power-on with the factory's store, block by block. -/
theorem resetState : Obligations.ResetState := by
  unfold Obligations.ResetState
  refine ⟨rfl, rfl, PerPort.get_same _, PerStation.get_same _, PerSlot.get_same none, rfl, rfl, fun src => ?_,
    PerStation.get_same none, rfl, rfl, rfl, rfl, PerSlot.get_same _, rfl, rfl, rfl, rfl, rfl, rfl, rfl, rfl,
    fun src => ?_,
    fun st k => ?_, PerHallKind.get_same _, rfl⟩
  · exact PerSource.get_same none src
  · cases src with
    | station st => exact PerStation.get_same false st
    | sludge => rfl
  · cases st <;> exact PerStationKind.get_same false k

/-- Settles O60: reset is a power-on with the factory's store, and every power-on meets the laws. -/
theorem resetLaws : Obligations.ResetLaws := by
  unfold Obligations.ResetLaws
  have hstore : StoreLaw State.reset := ⟨factoryProfile_fits, factoryProfile_fits, factoryProfile_fits,
    fun _ _ _ h => nomatch h⟩
  have hselected : (factoryNonVolatile.profile factoryNonVolatile.selector).fits := factoryProfile_fits
  have hring := powerOnState_ringLaws hselected true false 0 []
  have hjams : JamsFit State.reset := .of_empty rfl
  obtain ⟨hsupply, htable, hunlive⟩ := powerOnState_flowLaw factoryNonVolatile true false 0 []
  obtain ⟨hdischarge, hpocket⟩ := (chuteLaw_iff State.reset).mpr ⟨hring.chute.fits, hring.chute.free⟩
  exact ⟨hsupply, htable, hunlive, hdischarge, hpocket, hstore, hring.chute.filter,
    powerOnState_driveLaw factoryNonVolatile true false 0 [], (ringLaw_iff _).mpr hring.ring,
    (crusherLaw_iff hring.ring).mpr ⟨hring.slot, hjams⟩⟩

/-! ## The logic supply -/

/-- R147: a first reading is GOOD from 20.0 V on. -/
theorem supplyReading_first (v : Nat) : supplyReading v false = decide (200 ≤ v) := by
  have hlow : Config.supplyLowBelow = 190 := rfl
  have hgood : Config.supplyGoodFrom = 200 := rfl
  rw [supplyReading, hlow, hgood]
  split_ifs with h1 h2 <;> simp <;> omega

/-- R175: what power-on leaves in every block but the monitor, the stop causes and the hall's events. -/
structure PoweredOn (n : NonVolatile) (made : Bool) (q : List Instr) (t : State) : Prop where
  powered : t.powered = true
  pending : t.pending = q
  store : t.store = ⟨n.profile n.selector, n, .idle⟩
  ports : ∀ p, t.ports.get p = ⟨.hunting, none, none, 0, none⟩
  watches : ∀ st, t.watches.get st = ⟨.lost, none, none⟩
  slots : ∀ sl, t.slots.get sl = none
  supply : t.supply = ⟨0, 0, false, 0, 0, false, none, 0, 0⟩
  filter : t.filter = ⟨.filtering, false, 3600000, false, none⟩
  requests : ∀ src, t.request src = none
  late : ∀ st, t.arbiter.late.get st = none
  carousel : t.carousel = ⟨[], .unsurveyed, .run, .idle, false, 1⟩
  crusher : t.crusher = ⟨.stopped, none, none, none, 0, 0, none, ⟨0, 0, 0, 0⟩, 0, .same none⟩
  measure : t.measure.conversion = ⟨.dp, (n.profile n.selector).line.dpCal, 0⟩ ∧ t.measure.shaft = .idle ∧
    t.measure.chute = ⟨0, false⟩ ∧ t.measure.sensor = ⟨made, none⟩
  channels : ∀ sl, t.drive.channels.get sl = ⟨0, none, false⟩
  drive : t.drive.periodLeft = 1000 ∧ t.drive.direction = .stopped ∧ t.drive.speed = none ∧ t.drive.step = false ∧
    t.drive.fleeceMotor = false ∧ t.drive.spray = .off ∧ t.drive.binGate = .reject ∧ t.drive.flap = .crusher
  gates : ∀ src, t.gateOpen src = false
  stations : ∀ st k, (t.stationSet st).get k = false

theorem powerOnState_poweredOn (n : NonVolatile) (good made : Bool) (ties : Nat) (q : List Instr) (c : StopCauses) :
    PoweredOn n made q { powerOnState n good made ties q with stop := c } := by
  refine ⟨rfl, rfl, rfl, PerPort.get_same _, PerStation.get_same _, PerSlot.get_same _, rfl, rfl, fun src => ?_,
    PerStation.get_same _, rfl, rfl, ⟨rfl, rfl, rfl, rfl⟩, PerSlot.get_same _,
    ⟨rfl, rfl, rfl, rfl, rfl, rfl, rfl, rfl⟩, fun src => ?_, fun st k => ?_⟩
  · exact PerSource.get_same none src
  · cases src with
    | station st => exact PerStation.get_same false st
    | sludge => rfl
  · cases st <;> exact PerStationKind.get_same false k

theorem filter_eq {f g : Filter} (hstate : f.state = g.state) (hpending : f.pending = g.pending) (hgap : f.gap = g.gap)
    (htrough : f.troughFull = g.troughFull) (hfleece : f.fleece = g.fleece) : f = g := by
  cases f
  cases g
  simp_all

theorem carousel_eq {f g : Carousel} (hqueue : f.queue = g.queue) (hsurvey : f.survey = g.survey)
    (hmode : f.mode = g.mode) (hindex : f.index = g.index) (hrequested : f.requested = g.requested)
    (hcounter : f.counter = g.counter) : f = g := by
  cases f
  cases g
  simp_all

/-- R174, R175: an entry into safe stop leaves what power-on has set. -/
theorem PoweredOn.stopEntry {n : NonVolatile} {made : Bool} {q : List Instr} {s : State} (h : PoweredOn n made q s)
    (hstop : s.inSafeStop = true) : PoweredOn n made q (enterSafeStop s) ∧
      (enterSafeStop s).measure.monitor = s.measure.monitor ∧ (enterSafeStop s).stop = s.stop ∧
      ∀ k, (enterSafeStop s).events.hall.get k = (s.events.hall.get k ||
        (decide (k = .safeStop) && decide (s.store.working.levels.get .safeStop ≠ 0))) := by
  have hidle : ∀ a, ¬ s.isCurrent a := fun a ha => by
    obtain ⟨r, hr, -⟩ := (isCurrent_iff s a).mp ha
    simp [h.requests] at hr
  have hclosed : ∀ a, s.isOpen a = false := fun a => isOpen_of_notCurrent (hidle a)
  have hentry := safeStopEntry
  unfold Obligations.SafeStopEntry at hentry
  obtain ⟨hcauses, hstore, hports, hwatches, hpowered, hpending, -, hhall, hstations, htable, hgrant, hsupply, hslots,
    hchannels, -, habsent, -, -, hoffer, -, hqueue, hlate, hgates, hmeasure, hchute, -, hindex, hmode, hsurvey,
    hrequested, hcrusher, hdirection, hspeed, hbin, hflap, hperiod, hgap, hfleece, htrough, -, hspray, -, hmotor,
    hstate⟩ := hentry s hstop (fun a _ ha => absurd ha (hidle a)) (fun sl e he => by simp [h.slots] at he)
  obtain ⟨hqueue, hcounter⟩ := hqueue hclosed
  obtain ⟨hindex, hstep⟩ := hindex (by simp [h.carousel])
  obtain ⟨hflag, hspray⟩ := hspray (by simp [h.filter])
  have hmotor := hmotor (by simp [h.filter])
  have hstate := hstate (.inl (by rw [h.filter]))
  obtain ⟨hconversion, hshaft, hcount, hsensor⟩ := h.measure
  obtain ⟨dperiod, ddirection, dspeed, dstep, dmotor, dspray, dbin, dflap⟩ := h.drive
  have hempty : ∀ sl, (enterSafeStop s).slots.get sl = none := fun sl => by
    have hsome := (hslots sl).2
    rwa [h.slots, Option.isSome_none, Option.isSome_eq_false_iff, Option.isNone_iff_eq_none] at hsome
  refine ⟨⟨hpowered.trans h.powered, hpending.trans h.pending, hstore.trans h.store, fun p => ?_, fun st => ?_, hempty,
    by rw [hsupply, h.supply], ?_, fun src => habsent src (h.requests src), fun st => ?_, ?_, ?_, ?_, hchannels, ?_,
    fun src => ?_, fun st k => ?_⟩, ?_, hcauses, hhall⟩
  · rw [hports, h.ports]
  · rw [hwatches, h.watches]
  · rw [h.filter] at hstate hflag hgap htrough hfleece
    exact filter_eq hstate hflag hgap htrough hfleece
  · rw [hlate st (hclosed _), h.late]
  · rw [h.carousel] at hqueue hsurvey hmode hindex hrequested hcounter
    exact carousel_eq hqueue hsurvey hmode hindex hrequested hcounter
  · rw [hcrusher, h.crusher]
    rfl
  · rw [hchute, hcount] at hmeasure
    rw [hmeasure, ddirection]
    exact ⟨hconversion, hshaft, rfl, hsensor⟩
  · exact ⟨hperiod.trans dperiod, hdirection, hspeed.trans dspeed, hstep.trans dstep, hmotor.trans dmotor,
      hspray.trans dspray, hbin.trans dbin, hflap.trans dflap⟩
  · rw [hgates, h.gates, Bool.false_and]
  · cases k with
    | grantChanged =>
      have hsame : passTable 0 s.slots = s.slots :=
        PerSlot.ext_get fun sl => by rw [← htable, hempty, h.slots]
      rw [hgrant, h.stations, hsame]
      simp [grantsDiffer]
    | offerWithdrawn =>
      rw [hoffer st (fun r k w hr => by simp [h.requests] at hr), h.stations]
    | _ => rw [hstations st _ (by simp) (by simp), h.stations]
  · rw [hmeasure]

theorem addCause_supply_powerOn (n : NonVolatile) (made : Bool) (ties : Nat) (q : List Instr) :
    addCause .fieldSupply (powerOnState n false made ties q) =
      enterSafeStop { powerOnState n false made ties q with stop := ⟨true, false, some .fieldSupply⟩ } := rfl

/-- R175: the first supply reading leaves the line running, or in safe stop with FIELD_SUPPLY alone. -/
theorem powerUp_poweredOn (v : Nat) (made : Bool) (s : State) :
    PoweredOn s.store.nonVolatile made s.pending (powerUp v made s) ∧
      if 200 ≤ v then
        (powerUp v made s).measure.monitor = .good ∧ (powerUp v made s).stop = ⟨false, false, none⟩ ∧
          ∀ k, (powerUp v made s).events.hall.get k = false
      else
        (powerUp v made s).measure.monitor = .failed ∧ (powerUp v made s).stop = ⟨true, false, some .fieldSupply⟩ ∧
          ∀ k, (powerUp v made s).events.hall.get k =
            (decide (k = .safeStop) && decide ((powerUp v made s).store.working.levels.get .safeStop ≠ 0)) := by
  set n := s.store.nonVolatile
  by_cases hv : 200 ≤ v
  · have ht : powerUp v made s = powerOnState n true made s.ties s.pending := by
      rw [powerUp, supplyReading_first v, decide_eq_true hv]
      rfl
    rw [if_pos hv, ht]
    exact ⟨powerOnState_poweredOn n true made s.ties s.pending _, rfl, rfl, PerHallKind.get_same _⟩
  · have ht : powerUp v made s = enterSafeStop
        { powerOnState n false made s.ties s.pending with stop := ⟨true, false, some .fieldSupply⟩ } := by
      rw [powerUp, supplyReading_first v, decide_eq_false hv]
      exact addCause_supply_powerOn n made s.ties s.pending
    obtain ⟨h, hmonitor, hcauses, hhall⟩ := (powerOnState_poweredOn n false made s.ties s.pending
      ⟨true, false, some .fieldSupply⟩).stopEntry rfl
    rw [if_neg hv, ht]
    refine ⟨h, hmonitor, hcauses, fun k => (hhall k).trans ?_⟩
    have hnone : (powerOnState n false made s.ties s.pending).events.hall.get k = false := PerHallKind.get_same _ k
    rw [h.store, hnone, Bool.false_or]
    rfl

/-- Settles O5: power-on by the first supply reading, the loss, and a device without power. -/
theorem logicSupply : Obligations.LogicSupply := by
  unfold Obligations.LogicSupply
  refine ⟨fun v made s => ?_, fun s hpowered => ⟨powerDown s, running_powered _ s hpowered, rfl, rfl⟩,
    fun c s hoff hother => ?_⟩
  · obtain ⟨h, hreading⟩ := powerUp_poweredOn v made s
    obtain ⟨hconversion, hshaft, hchute, hsensor⟩ := h.measure
    obtain ⟨hperiod, hdirection, hspeed, hstep, hmotor, hspray, hbin, hflap⟩ := h.drive
    exact ⟨_, rfl, h.powered, h.pending, h.store, h.ports, h.watches, h.slots, h.supply, h.filter, h.requests, h.late,
      h.carousel, h.crusher, by rw [hconversion, h.store], hshaft, hchute, hsensor, h.channels, hperiod, hdirection,
      hspeed, hstep, hmotor, hspray, hbin, hflap, h.gates, h.stations, hreading⟩
  · cases c with
    | powerOn v m => exact absurd rfl (hother v m)
    | _ => exact running_unpowered _ s hoff

end Sys2Proof.Machine
end

section
/-! The link ports: refusals, busy ports, the receiver and the check word (O6 to O11). -/

namespace Sys2Proof.Machine

/-! ## Refused requests -/

theorem heldCommand_refused {p : Port} {k : Kind} {tag : Byte} {payload : List Byte} {s : State} {result : Result}
    (h : Takes p ⟨tag, kindCode k, payload⟩ s) (hrefused : ∀ rule, checked p k payload rule s = bare result s) :
    ∃ t, exec (heldCommand p ⟨tag, kindCode k, payload⟩) s = .next t ∧
      Replied p tag k result [] s t ∧ ButPorts s t := by
  obtain ⟨f, hexec, hrule, -⟩ := exec_heldCommand p ⟨tag, kindCode k, payload⟩ s h.1
  obtain ⟨rule, rfl⟩ := hrule k (kindOfCode_kindCode k)
  have hanswer := requestOf_takes p k tag payload rule s h (by rw [hrefused]; rfl)
  rw [hrefused] at hanswer
  exact ⟨_, hexec, hanswer⟩

/-- Settles O6: the three tests before the owning rule, and a kind that no rule owns. -/
theorem requestRefusals : Obligations.RequestRefusals := by
  unfold Obligations.RequestRefusals
  refine ⟨fun p k tag payload s h result hcase => heldCommand_refused h fun rule => ?_,
    fun p tag code payload s h hcode => ?_⟩
  · rcases hcase with ⟨hkind, rfl⟩ | ⟨hkind, hlength, rfl⟩ | ⟨hkind, hlength, hlive, rfl⟩
    · simp [checked, hkind]
    · simp [checked, hkind, hlength]
    · simp [checked, hkind, hlength, hlive]
  · obtain ⟨rx, hserve, hrx⟩ := takeRequest_takes p ⟨tag, code, payload⟩ (bare .refusedKind) s h
    refine ⟨serve p ⟨tag, code, payload⟩ rx (bare .refusedKind) s, ?_,
      serve_replied p ⟨tag, code, payload⟩ rx (bare .refusedKind) s rfl hrx⟩
    rw [← hserve]
    simp [exec, execAbsentKindRequest, running, h.1, absentKind, hcode]

/-! ## Frames -/

/-- R179: a port as a complete frame leaves it. -/
def LinkPort.accept (r : LinkRequest) (x : LinkPort) : LinkPort :=
  match x.held, x.owed with
  | none, _ => { x with rx := .hunting, held := some r }
  | some _, none => { x with rx := .hunting, owed := some ⟨r.tag, r.kind⟩ }
  | some _, some _ => { x with rx := .hunting, discards := min 255 (x.discards + 1) }

theorem acceptFrame_eq (p : Port) (r : LinkRequest) (s : State) :
    acceptFrame p r s = { s with ports := s.ports.set p ((s.ports.get p).accept r) } := by
  unfold acceptFrame discardFrame LinkPort.accept setPort
  obtain ⟨rx, held, owed, discards, tx⟩ := s.ports.get p
  cases held <;> cases owed <;> rfl

theorem receiverTakes_iff (p : Port) (s : State) : receiverTakes p s = true ↔ (s.ports.get p).tx = none := by
  simp [receiverTakes]

theorem receiverTakes_of_sending {p : Port} {s : State} (h : (s.ports.get p).tx ≠ none) : receiverTakes p s = false :=
  Bool.eq_false_iff.mpr fun htakes => h ((receiverTakes_iff p s).mp htakes)

/-- Settles O7: a request that does not stand held at its port is one more frame there. -/
theorem requestAtBusyPort : Obligations.RequestAtBusyPort := by
  unfold Obligations.RequestAtBusyPort
  intro p r s hpowered hheld
  obtain ⟨f, hexec, -⟩ := exec_heldCommand p r s hpowered
  rw [hexec]
  refine ⟨fun htx => ?_, fun htx h hother => ?_⟩
  · have hbusy := receiverTakes_of_sending htx
    simp [takeRequest, hheld, hbusy]
  · have htake : takeRequest p r f s = acceptFrame p r s := by
      have hne : h ≠ r := fun heq => hheld (heq ▸ hother)
      simp [takeRequest, hother, hne, (receiverTakes_iff p s).mpr htx]
    rw [htake, acceptFrame_eq]
    refine ⟨_, rfl, rfl, fun q hq => PerPort.get_set_ne _ hq _, ?_⟩
    rw [PerPort.get_set_same, LinkPort.accept]
    generalize s.ports.get p = x at hother ⊢
    obtain ⟨rx, held, owed, discards, tx⟩ := x
    cases hother
    cases owed <;> rfl

/-- Table 11-2: a BUSY reply takes 2 ms. -/
theorem sendTime_busy (p : Port) (o : OwedBusy) (s : State) : sendTime (makeReply p o.tag o.kind .busy [] s) = 2 := by
  have hpayload : (makeReply p o.tag o.kind .busy [] s).payload = [] := rfl
  rw [sendTime, hpayload]
  rfl

/-- Settles O8, by what the port holds and sends. -/
theorem framesAndReplies : Obligations.FramesAndReplies := by
  unfold Obligations.FramesAndReplies
  refine ⟨fun p s hpowered => ⟨fun htx => ?_, fun htx frame hbad => ?_, fun htx tag kind payload c hc => ?_,
    fun hrx => ?_,
    fun bytes left hrx => ?_⟩, fun p s hpowered => ⟨fun htx => ?_, fun x htx => ?_⟩⟩
  · have hbusy := receiverTakes_of_sending htx
    refine ⟨fun frame => (running_powered _ s hpowered).trans ?_,
      fun tag kind payload => (running_powered _ s hpowered).trans ?_⟩
    · simp [wholeFrame, hbusy]
    · simp [goodFrame, hbusy]
  · refine (running_powered _ s hpowered).trans ?_
    simp only [wholeFrame, (receiverTakes_iff p s).mpr htx, if_true, frameArrives, hbad]
    rfl
  · have htakes := (receiverTakes_iff p s).mpr htx
    rcases hc with rfl | ⟨frame, rfl, hgood⟩
    · refine (running_powered _ s hpowered).trans ?_
      rw [goodFrame, if_pos htakes, acceptFrame_eq]
      rfl
    · refine (running_powered _ s hpowered).trans ?_
      simp only [wholeFrame, htakes, if_true, frameArrives, hgood]
      rw [acceptFrame_eq]
      rfl
  · exact (running_powered _ s hpowered).trans (by simp only [gapRunsOut, hrx])
  · refine (running_powered _ s hpowered).trans ?_
    simp only [gapRunsOut, hrx]
    rfl
  · exact (running_powered _ s hpowered).trans (by simp only [endReply, htx])
  · refine (running_powered _ s hpowered).trans ?_
    cases howed : (s.ports.get p).owed with
    | none => simp only [endReply, htx, howed, setPort_eq]
    | some o =>
      simp only [endReply, htx, howed, startReply, sendTime_busy, setPort_eq, PerPort.get_set_same, PerPort.set_set]
      cases p <;> rfl

/-! ## The receiver -/

theorem takeByte_assembling {p : Port} {b : Byte} {s : State} {bytes : List Byte} {left : Nat}
    (hrx : (s.ports.get p).rx = .assembling bytes left) :
    takeByte p b s = if lengthTooGreat (bytes ++ [b]) then discardFrame p s
      else if frameComplete (bytes ++ [b]) then frameArrives p (bytes ++ [b]) s
      else setPort p { s.ports.get p with rx := .assembling (bytes ++ [b]) 5 } s := by
  simp only [takeByte, hrx]
  rfl

theorem byteAt_append_of_lt {bytes : List Byte} {i : Nat} (h : i < bytes.length) (more : List Byte) :
    byteAt (bytes ++ more) i = byteAt bytes i := by
  rw [byteAt, List.getD_append _ _ _ _ h, byteAt]

theorem lengthTooGreat_append (bytes : List Byte) (b : Byte) :
    lengthTooGreat (bytes ++ [b]) = true ↔
      (bytes.length = 4 ∧ 32 < b.toNat) ∨ (5 ≤ bytes.length ∧ 32 < byteAt bytes 4) := by
  have hmost : Config.maxPayload = 32 := rfl
  have hlast : bytes.length = 4 → byteAt (bytes ++ [b]) 4 = b.toNat := fun h => by
    rw [byteAt, ← h, List.getD_append_right _ _ _ _ (Nat.le_refl _), Nat.sub_self]
    rfl
  rw [lengthTooGreat, hmost, Bool.and_eq_true, decide_eq_true_eq, decide_eq_true_eq, List.length_append,
    List.length_singleton]
  rcases Nat.lt_trichotomy bytes.length 4 with h | h | h
  · constructor <;> omega
  · rw [hlast h]
    constructor <;> omega
  · rw [byteAt_append_of_lt h]
    constructor <;> omega

theorem frameComplete_append {bytes : List Byte} (h : 5 ≤ bytes.length) (b : Byte) :
    frameComplete (bytes ++ [b]) = true ↔ bytes.length + 1 = byteAt bytes 4 + 7 := by
  rw [frameComplete, Bool.and_eq_true, decide_eq_true_eq, decide_eq_true_eq, List.length_append, List.length_singleton,
    byteAt_append_of_lt h]
  constructor <;> omega

/-- A frame that ends in its length byte still misses its check bytes. -/
theorem frameComplete_of_length {bytes : List Byte} (h : bytes.length ≤ 4) (b : Byte) :
    ¬ frameComplete (bytes ++ [b]) = true := by
  rw [frameComplete, Bool.and_eq_true, decide_eq_true_eq, decide_eq_true_eq, List.length_append, List.length_singleton]
  omega

/-- Settles O9, by what the receiver has assembled. -/
theorem receivedByte : Obligations.ReceivedByte := by
  unfold Obligations.ReceivedByte
  intro p b s hpowered
  have hexec : exec (.receivedByte p b) s = .next (byteArrives p b s) := running_powered _ s hpowered
  rw [hexec]
  refine ⟨fun htx => ?_, fun htx => ?_⟩
  · have hbusy := receiverTakes_of_sending htx
    simp [byteArrives, hbusy]
  have htakes := (receiverTakes_iff p s).mpr htx
  rw [byteArrives, if_pos htakes]
  refine ⟨fun hrx hb => ?_, fun hrx hb => ?_, fun bytes left hrx => ?_⟩
  · have hstart : ¬ b = startByte := hb
    simp only [takeByte, hrx, if_neg hstart]
  · have hstart : b = startByte := hb
    simp only [takeByte, hrx, hb]
    rfl
  rw [takeByte_assembling hrx]
  refine ⟨fun hlen => ?_, fun hlen hb => ?_, fun hlen hb => ?_, fun hlen hn hless => ?_, fun hlen hn hlast => ?_⟩
  · rw [if_neg (by rw [lengthTooGreat_append]; omega), if_neg (frameComplete_of_length (by omega) b)]
    rfl
  · rw [if_pos ((lengthTooGreat_append bytes b).mpr (.inl ⟨hlen, hb⟩))]
    rfl
  · rw [if_neg (by rw [lengthTooGreat_append]; omega), if_neg (frameComplete_of_length (by omega) b)]
    rfl
  · rw [if_neg (by rw [lengthTooGreat_append]; omega), if_neg (by rw [frameComplete_append hlen]; omega)]
    rfl
  · rw [if_neg (by rw [lengthTooGreat_append]; omega), if_pos ((frameComplete_append hlen b).mpr hlast)]
    exact ((running_powered _ s hpowered).trans (by rw [wholeFrame, if_pos htakes])).symm

/-! ## A whole frame -/

/-- The port while it assembles a frame. -/
def assembling (p : Port) (bytes : List Byte) (s : State) : State :=
  setPort p { s.ports.get p with rx := .assembling bytes 5 } s

theorem assembling_port (p : Port) (bytes : List Byte) (s : State) :
    ((assembling p bytes s).ports.get p) = { s.ports.get p with rx := .assembling bytes 5 } :=
        PerPort.get_set_same _ _ _

/-- R177: a byte after which the frame is neither too long nor complete. -/
theorem byteArrives_assembling {p : Port} {s : State} (htx : (s.ports.get p).tx = none) {bytes : List Byte} {b : Byte}
    (hlong : ¬ lengthTooGreat (bytes ++ [b]) = true) (hmore : ¬ frameComplete (bytes ++ [b]) = true) :
    byteArrives p b (assembling p bytes s) = assembling p (bytes ++ [b]) s := by
  have htakes : receiverTakes p (assembling p bytes s) = true :=
    (receiverTakes_iff p _).mpr (by rw [assembling_port]; exact htx)
  rw [byteArrives, if_pos htakes, takeByte_assembling (by rw [assembling_port]), if_neg hlong, if_neg hmore,
    assembling_port]
  simp only [assembling, setPort_eq, PerPort.set_set]

/-- R177: the bytes between the start byte and the last check byte are assembled. -/
theorem foldl_byteArrives_assembling {p : Port} {s : State} (htx : (s.ports.get p).tx = none) {n : Nat} (hn : n ≤ 32)
    (frame : List Byte) (hlen : byteAt frame 4 = n) (htotal : frame.length < n + 7) (bytes more : List Byte)
    (hframe : bytes ++ more = frame) :
    more.foldl (fun s b => byteArrives p b s) (assembling p bytes s) = assembling p frame s := by
  induction more generalizing bytes with
  | nil => rw [← hframe, List.append_nil]; rfl
  | cons b more ih =>
    have hsplit : (bytes ++ [b]) ++ more = frame := by simp [← hframe]
    have hat : 5 ≤ (bytes ++ [b]).length → byteAt (bytes ++ [b]) 4 = n := fun h => by
      rw [← hlen, ← hsplit, byteAt_append_of_lt h]
    have hshort : (bytes ++ [b]).length < n + 7 := by
      rw [← hsplit, List.length_append] at htotal
      omega
    rw [List.foldl_cons, byteArrives_assembling htx, ih (bytes ++ [b]) hsplit]
    · rw [lengthTooGreat, Bool.and_eq_true, decide_eq_true_eq, decide_eq_true_eq]
      rintro ⟨h5, hmost⟩
      rw [hat h5] at hmost
      exact absurd hn (Nat.not_le.mpr hmost)
    · rw [frameComplete, Bool.and_eq_true, decide_eq_true_eq, decide_eq_true_eq]
      rintro ⟨h5, heq⟩
      rw [hat h5] at heq
      omega

theorem byteOf_length {n : Nat} (h : n ≤ 32) : (byteOf n).toNat = n := by
  rw [byteOf, BitVec.toNat_ofNat]
  omega

/-- R177, Table 11-1: a request frame passes the three tests. -/
theorem frameRequest_requestFrame {p : Port} {r : LinkRequest} (h : r.payload.length ≤ 32) :
    frameRequest p (requestFrame p r) = some r := by
  have hmost : Config.maxPayload = 32 := rfl
  have hcheck : ∀ l, (checkBytes l).length = 2 := fun _ => rfl
  simp [requestFrame, frameRequest, byteOf_length h, hmost, h, hcheck]

/-- Settles O10: every byte but the last leaves the frame incomplete, and the last one brings it to its tests. -/
theorem receiverAssembles : Obligations.ReceiverAssembles := by
  unfold Obligations.ReceiverAssembles
  intro p r s hlength hrx htx hheld
  have hgood := frameRequest_requestFrame (p := p) hlength
  refine ⟨hgood, ?_⟩
  set n := r.payload.length
  have hlen := byteOf_length hlength
  obtain ⟨hi, lo, hcheck⟩ : ∃ hi lo, checkBytes ([portAddress p, r.tag, r.kind, byteOf n] ++ r.payload) = [hi, lo] :=
    ⟨_, _, rfl⟩
  have hframe : requestFrame p r =
      startByte :: (([portAddress p, r.tag, r.kind, byteOf n] ++ r.payload ++ [hi]) ++ [lo]) := by
    simp [requestFrame, ← hcheck, n]
  have hstart : byteArrives p startByte s = assembling p [startByte] s := by
    rw [byteArrives, if_pos ((receiverTakes_iff p s).mpr htx)]
    simp only [takeByte, hrx, if_true]
    rfl
  set inner := [portAddress p, r.tag, r.kind, byteOf n] ++ r.payload ++ [hi] with hinner
  have hsize : (startByte :: inner).length = n + 6 := by simp [hinner, n]
  have hat : byteAt (startByte :: inner) 4 = n := by
    rw [← hlen]
    rfl
  have hbody := foldl_byteArrives_assembling htx hlength (startByte :: inner) hat (by omega) [startByte] inner rfl
  have hlast : byteArrives p lo (assembling p (startByte :: inner) s) =
      frameArrives p (requestFrame p r) (assembling p (startByte :: inner) s) := by
    rw [byteArrives, if_pos ((receiverTakes_iff p _).mpr (by rw [assembling_port]; exact htx)),
      takeByte_assembling (by rw [assembling_port]), if_neg, if_pos, hframe]
    · rfl
    · rw [frameComplete_append (by omega), hat, hsize]
    · rw [lengthTooGreat_append, hat]
      omega
  rw [hframe, List.foldl_cons, List.foldl_append, hstart, hbody, List.foldl_cons, hlast, List.foldl_nil]
  simp only [frameArrives, hgood]
  simp only [acceptFrame_eq, LinkPort.accept, hheld, assembling, setPort_eq, PerPort.get_set_same, PerPort.set_set, hrx]

/-! ## The check word -/

theorem crcShift_of_small {r : Word16} (h : 2 * r.toNat < 65536) : (crcShift r).toNat = 2 * r.toNat := by
  have hmsb : r.msb = false := by
    rw [BitVec.msb_eq_decide, decide_eq_false_iff_not]
    omega
  rw [crcShift, hmsb]
  simp [Nat.shiftLeft_eq]
  omega

theorem crcShift_injective : Function.Injective crcShift := by
  have hlow : ∀ r : Word16, (crcShift r).getLsbD 0 = r.msb := fun r => by
    cases hr : r.msb <;> simp [crcShift, hr]
  have hhigh : ∀ r : Word16, r <<< 1 = if r.msb then crcShift r ^^^ 0x1021#16 else crcShift r := fun r => by
    cases hr : r.msb <;> simp [crcShift, hr]
  intro a b h
  have hmsb : a.msb = b.msb := by rw [← hlow, ← hlow, h]
  have hshift : a <<< 1 = b <<< 1 := by rw [hhigh, hhigh, h, hmsb]
  refine BitVec.eq_of_getLsbD_eq fun i hi => ?_
  by_cases hlast : i = 15
  · subst hlast
    simpa [BitVec.msb_eq_getLsbD_last] using hmsb
  · have hbit := congrArg (fun x => x.getLsbD (i + 1)) hshift
    simpa [show i + 1 < 16 by omega, BitVec.getLsbD_eq_getElem hi] using hbit

/-- The register after the eight shifts of one byte. -/
theorem crcByte_eq (r : Word16) (b : Byte) : crcByte r b = crcShift^[8] (r ^^^ (b.zeroExtend 16 <<< 8)) := rfl

theorem xor_injective (x : Word16) : Function.Injective (x ^^^ ·) := fun a b h => by
  have hboth := congrArg (x ^^^ ·) h
  simpa [← BitVec.xor_assoc] using hboth

theorem crcByte_injective_register (b : Byte) : Function.Injective (crcByte · b) := fun r r' h => by
  have hxor := crcShift_injective.iterate 8 ((crcByte_eq r b).symm.trans (Eq.trans h (crcByte_eq r' b)))
  rw [BitVec.xor_comm r, BitVec.xor_comm r'] at hxor
  exact xor_injective _ hxor

theorem crcByte_injective_byte (r : Word16) : Function.Injective (crcByte r) := fun a b h => by
  have hxor := crcShift_injective.iterate 8 ((crcByte_eq r a).symm.trans (h.trans (crcByte_eq r b)))
  have hshift := xor_injective r hxor
  refine BitVec.eq_of_getLsbD_eq fun i hi => ?_
  have hbit := congrArg (fun x => x.getLsbD (i + 8)) hshift
  simpa [show i + 8 < 16 by omega, hi] using hbit

theorem foldl_crcByte_injective (bytes : List Byte) : Function.Injective (fun r => bytes.foldl crcByte r) := by
  induction bytes with
  | nil => exact fun _ _ h => h
  | cons b bytes ih => exact fun r r' h => crcByte_injective_register b (ih h)

/-- Eight shifts of a register whose high byte is 0 move its low byte up. -/
theorem crcShift_iterate_of_low {r : Word16} (k : Nat) (h : 2 ^ k * r.toNat < 65536) :
    (crcShift^[k] r).toNat = 2 ^ k * r.toNat := by
  induction k with
  | zero => simp
  | succ k ih =>
    have hpow : 2 ^ (k + 1) * r.toNat = 2 * (2 ^ k * r.toNat) := by ring
    have hk := ih (by omega)
    rw [Function.iterate_succ_apply', crcShift_of_small (by omega), hk, hpow]

/-- R178: the register's own high byte leaves its low byte above 0s, and that byte leaves 0. -/
theorem crcByte_own (r : Word16) : crcByte (crcByte r (r.extractLsb' 8 8)) (r.extractLsb' 0 8) = 0 := by
  have hlow : r ^^^ ((r.extractLsb' 8 8).zeroExtend 16 <<< 8) = (r.extractLsb' 0 8).zeroExtend 16 := by
    refine BitVec.eq_of_getLsbD_eq fun i hi => ?_
    by_cases h8 : i < 8
    · simp [h8, hi]
    · simp [h8, hi, show 8 + (i - 8) = i by omega, show i - 8 < 8 by omega]
  have hfirst : crcByte r (r.extractLsb' 8 8) = (r.extractLsb' 0 8).zeroExtend 16 <<< 8 := by
    rw [crcByte_eq, hlow]
    apply BitVec.eq_of_toNat_eq
    have hlt := (r.extractLsb' 0 8).isLt
    have hext : ((r.extractLsb' 0 8).zeroExtend 16).toNat = (r.extractLsb' 0 8).toNat := by
      simp only [BitVec.truncate_eq_setWidth, BitVec.toNat_setWidth]
      omega
    rw [crcShift_iterate_of_low 8 (by omega), BitVec.toNat_shiftLeft, Nat.shiftLeft_eq, hext]
    omega
  rw [hfirst, crcByte_eq, BitVec.xor_self]
  rfl

end Sys2Proof.Machine

namespace Sys2Proof

open Machine

/-- Settles O11: the register's own two bytes take it to 0, and every byte's turn of the register is one-to-one. -/
theorem checkWord : Obligations.CheckWord := by
  unfold Obligations.CheckWord
  refine ⟨fun bytes => ?_, fun before after a b hne h => hne ?_⟩
  · rw [Machine.checkWord, checkBytes, List.foldl_append]
    exact crcByte_own (Machine.checkWord bytes)
  · rw [Machine.checkWord, Machine.checkWord, List.foldl_append, List.foldl_append, List.foldl_cons,
      List.foldl_cons] at h
    exact crcByte_injective_byte _ (foldl_crcByte_injective after h)

end Sys2Proof
end

section
/-! Coolant requests (O12, O13). -/

namespace Sys2Proof.Machine

theorem circuitOperand_unknown (p : Port) {n : Nat} (h : 3 < n) : circuitOperand p n = .unknown := by
  obtain ⟨m, rfl⟩ := Nat.exists_eq_add_of_lt h
  rw [show 3 + m + 1 = m + 4 by omega]
  cases p <;> rfl

/-- Table 01-1: SPINDLE and FLOOD are circuits of the stations, WASH1 and WASH2 of the hall. -/
theorem circuitOperand_wrongPort {p : Port} {n : Nat} (h : n ≤ 3) (hport : n ≤ 1 ↔ p = .hall) :
    circuitOperand p n = .wrongPort := by
  cases p with
  | hall =>
    have h1 := hport.mpr rfl
    interval_cases n <;> rfl
  | station st =>
    have h1 : ¬ n ≤ 1 := fun h1 => nomatch hport.mp h1
    interval_cases n <;> first | rfl | omega

/-- R14, R19: a pass keeps what an entry asks for. -/
theorem passTable_get_values (figure : Nat) (t : PerSlot (Option Entry)) {sl : Slot} {e : Entry}
    (he : t.get sl = some e) (hfloor : e.floor.getD 0 ≤ e.asked) :
    ∃ g, (passTable figure t).get sl = some g ∧ g.asked = e.asked ∧ g.floor = e.floor ∧ g.urgency = e.urgency := by
  by_cases hs : e.state = .suspended
  · refine ⟨e, ?_, rfl, rfl, rfl⟩
    rw [passTable_get_of_aside figure t fun e' he' => by rwa [← Option.some.inj (he.symm.trans he')], he]
  · obtain ⟨g, hg, hasked, hfl, hurgency, -⟩ := passTable_get_of_part figure t he hs hfloor
    exact ⟨g, hg, hasked, hfl, hurgency⟩

theorem tableEvent_ports (f : PerSlot (Option Entry) → PerSlot (Option Entry)) (s : State) :
    (tableEvent f s).ports = s.ports := by rw [tableEvent_eq]

/-- A request whose rule makes an event of the table leaves what that event leaves. -/
theorem ButPorts.tableEvent {f : PerSlot (Option Entry) → PerSlot (Option Entry)} {s t : State}
    (h : ButPorts (tableEvent f s) t) :
    Passed s.slots (passTable s.supply.published (f s.slots)) s t ∧
      t = { s with ports := t.ports, slots := t.slots, drive := t.drive, events := t.events } := by
  refine ⟨(tableEvent_passed f s).butPorts h, ?_⟩
  unfold ButPorts at h
  rw [tableEvent_eq] at h
  rw [h]

theorem clampAsk_asked (sl : Slot) (c a f u : Nat) : (clampAsk sl c a f u).asked = min c a := by
  unfold clampAsk
  split_ifs <;> rfl

theorem clampAsk_floor (sl : Slot) (c a f u : Nat) :
    (clampAsk sl c a f u).floor = if hasFloor sl then some (min (min c a) f) else none := by
  unfold clampAsk
  split_ifs <;> rfl

theorem clampAsk_urgency (sl : Slot) (c a f u : Nat) : (clampAsk sl c a f u).urgency = max 1 (min 7 u) := by
  unfold clampAsk
  split_ifs <;> rfl

/-- R5: a clamp has changed a value. -/
theorem clampAsk_cut (sl : Slot) (c a f u : Nat) : (clampAsk sl c a f u).cut = false ↔
    min c a = a ∧ (hasFloor sl = true → min (min c a) f = f) ∧ max 1 (min 7 u) = u := by
  unfold clampAsk clampUrgency
  split_ifs with h <;> simp [h, and_assoc]

theorem askedEntry_values (old : Option Entry) (v : AskValues) :
    (askedEntry old v).asked = v.asked ∧ (askedEntry old v).floor = v.floor ∧
      (askedEntry old v).urgency = v.urgency := by
  cases old <;> exact ⟨rfl, rfl, rfl⟩

/-- R4: an ask of a slot that has a ceiling, with a demand. -/
theorem ruleCoolantAsk_slot {p : Port} {payload : List Byte} {s : State} {sl : Slot}
    (hslot : circuitOperand p (byteAt payload 0) = .slot sl) (hceiling : s.ceiling sl ≠ 0)
    (hdemand : byteAt payload 1 ≠ 0) {v : AskValues}
    (hv : v = clampAsk sl (s.ceiling sl) (byteAt payload 1) (byteAt payload 2) (byteAt payload 3)) :
    ruleCoolantAsk p payload s =
      ⟨applyAsk sl v s, if v.cut then .clamped else .done, entryReply sl ((applyAsk sl v s).slots.get sl)⟩ := by
  simp only [ruleCoolantAsk, hslot, if_neg hceiling, if_neg hdemand, hv]

theorem ruleCoolantAsk_refused {p : Port} {payload : List Byte} {s : State} {sl : Slot}
    (hslot : circuitOperand p (byteAt payload 0) = .slot sl) (h : s.ceiling sl = 0 ∨ byteAt payload 1 = 0) :
    ruleCoolantAsk p payload s = bare .refusedRange s := by
  simp only [ruleCoolantAsk, hslot]
  rcases h with h | h
  · rw [if_pos h]
  · rw [if_pos h, ite_self]

/-- Settles O12: the clamped values, the entry they leave, the pass over it and the reply. -/
theorem coolantAsk : Obligations.CoolantAsk := by
  unfold Obligations.CoolantAsk
  intro p tag payload s sl h hslot hceiling hdemand
  obtain ⟨v, hv⟩ : ∃ v, v = clampAsk sl (s.ceiling sl) (byteAt payload 1) (byteAt payload 2) (byteAt payload 3) :=
    ⟨_, rfl⟩
  have hrule := ruleCoolantAsk_slot hslot hceiling hdemand hv
  obtain ⟨hreply, hports⟩ := answered h hrule (tableEvent_ports _ s)
  obtain ⟨hpassed, hframe⟩ := ButPorts.tableEvent hports
  have hasked : v.asked = min (s.ceiling sl) (byteAt payload 1) := by rw [hv, clampAsk_asked]
  have hfloor : v.floor = if hasFloor sl then some (min v.asked (byteAt payload 2)) else none := by
    rw [hasked, hv, clampAsk_floor]
  have hurgency : v.urgency = max 1 (min 7 (byteAt payload 3)) := by rw [hv, clampAsk_urgency]
  obtain ⟨easked, efloor, eurgency⟩ := askedEntry_values (s.slots.get sl) v
  have hleast : (askedEntry (s.slots.get sl) v).floor.getD 0 ≤ (askedEntry (s.slots.get sl) v).asked := by
    rw [easked, efloor, hfloor]
    split_ifs <;> simp
  obtain ⟨g, hg, gasked, gfloor, gurgency⟩ := passTable_get_values s.supply.published
    (s.slots.set sl (some (askedEntry (s.slots.get sl) v))) (PerSlot.get_set_same _ _ _) hleast
  have hentry : (applyAsk sl v s).slots.get sl = some g := by
    rw [applyAsk, (tableEvent_passed _ s).1, hg]
  refine ⟨_, askedEntry (s.slots.get sl) v, g, running_of_admits h _, easked.trans hasked, ?_, eurgency.trans hurgency,
    fun hnone => by rw [hnone]; exact ⟨rfl, rfl⟩, fun old hold => by rw [hold]; exact ⟨rfl, rfl⟩, hpassed, ?_, gasked,
    gfloor, gurgency, ?_, hframe⟩
  · rw [efloor, easked, hfloor]
  · rw [hpassed.1, hg]
  · rw [hentry] at hreply
    have hresult : (if v.cut = true then Result.clamped else .done) =
        if (askedEntry (s.slots.get sl) v).asked = byteAt payload 1 ∧
            (hasFloor sl = true → (askedEntry (s.slots.get sl) v).floor = some (byteAt payload 2)) ∧
            (askedEntry (s.slots.get sl) v).urgency = byteAt payload 3 then .done else .clamped := by
      have hcut := clampAsk_cut sl (s.ceiling sl) (byteAt payload 1) (byteAt payload 2) (byteAt payload 3)
      rw [← hv] at hcut
      have hfloor' : (hasFloor sl = true → v.floor = some (byteAt payload 2)) ↔
          (hasFloor sl = true → min (min (s.ceiling sl) (byteAt payload 1)) (byteAt payload 2) = byteAt payload 2) := by
        refine imp_congr_right fun hf => ?_
        rw [hfloor, if_pos hf, hasked, Option.some_inj]
      rw [← hfloor', ← hasked, ← hurgency, ← easked, ← efloor, ← eurgency] at hcut
      cases hc : v.cut with
      | false => rw [if_pos (hcut.mp hc), if_neg (by simp)]
      | true => rw [if_pos rfl, if_neg fun hall => by simp [hcut.mpr hall] at hc]
    rw [← hresult]
    exact hreply

/-- Settles O13, by the operand and by what the slot holds. -/
theorem coolantEnd : Obligations.CoolantEnd := by
  unfold Obligations.CoolantEnd
  refine ⟨fun p tag payload s sl h hslot => ?_, fun p tag payload s k c result hkind h hcase => ?_⟩
  · cases hentry : s.slots.get sl with
    | none =>
      have hrule : ruleCoolantEnd p payload s = bare .done s := by
        simp only [ruleCoolantEnd, hslot, hentry, Option.isNone_none, if_true]
      obtain ⟨hreply, hports⟩ := answered_bare h hrule rfl
      exact ⟨_, running_of_admits h _, hreply, fun _ => hports, fun hne => absurd rfl hne⟩
    | some e =>
      have hrule : ruleCoolantEnd p payload s = bare .done (endEntry sl s) := by
        simp [ruleCoolantEnd, hslot, hentry]
      obtain ⟨hreply, hports⟩ := answered_bare h hrule (tableEvent_ports _ s)
      exact ⟨_, running_of_admits h _, hreply, fun hnone => by simp at hnone, fun _ => ButPorts.tableEvent hports⟩
  · rcases hkind with ⟨rfl, rfl⟩ | ⟨rfl, rfl⟩
    · have hrule : ruleCoolantAsk p payload s = bare result s := by
        rcases hcase with ⟨h3, rfl⟩ | ⟨h3, hport, rfl⟩ | ⟨-, rfl, sl, hslot, hzero⟩
        · simp only [ruleCoolantAsk, circuitOperand_unknown p h3]
        · simp only [ruleCoolantAsk, circuitOperand_wrongPort h3 hport]
        · exact ruleCoolantAsk_refused hslot hzero
      exact ⟨_, running_of_admits h _, answered_bare h hrule rfl⟩
    · have hrule : ruleCoolantEnd p payload s = bare result s := by
        rcases hcase with ⟨h3, rfl⟩ | ⟨h3, hport, rfl⟩ | ⟨hk, -⟩
        · simp only [ruleCoolantEnd, circuitOperand_unknown p h3]
        · simp only [ruleCoolantEnd, circuitOperand_wrongPort h3 hport]
        · cases hk
      exact ⟨_, running_of_admits h _, answered_bare h hrule rfl⟩

end Sys2Proof.Machine
end

section
/-! Station watch, event levels and STATUS (O17, O19, O20). -/

namespace Sys2Proof.Machine

/-! ## Keep-alives -/

theorem freshTimer_eq (s : State) (st : Station) : s.freshTimer st =
    if (s.store.working.stations.get st).watchEnabled then
      some (250 * 2 ^ (s.store.working.stations.get st).keepExponent)
    else none := rfl

/-- R11: a watch set within a recovery leaves the pass of the returned entries as it is. -/
theorem ButPorts.returned {st : Station} {w : Watch} {s t : State}
    (h : ButPorts (returnStation st (setWatch st w s)) t) :
    Passed s.slots (passTable s.supply.published (onStationSlots st returnEntry s.slots)) s t ∧
      t = { s with
        ports := t.ports, watches := s.watches.set st w, slots := t.slots, drive := t.drive, events := t.events } := by
  refine ⟨(tableEvent_setWatch_passed _ st w s).butPorts h, ?_⟩
  unfold ButPorts returnStation at h
  rw [tableEvent_setWatch_eq] at h
  rw [h]

theorem keepAlive_repeats {st : Station} {ph : Phase} {s : State} (hlost : (s.watches.get st).state ≠ .lost)
    (hphase : (s.watches.get st).phase = some ph) : keepAlive st ph s = (s, true) := by
  simp [keepAlive, hlost, hphase]

theorem keepAlive_accepts {st : Station} {ph : Phase} {s : State}
    (h : (s.watches.get st).state = .lost ∨ (s.watches.get st).phase ≠ some ph) :
    keepAlive st ph s = (acceptKeepAlive st ph s, false) := by
  rw [keepAlive, if_neg]
  rcases h with h | h <;> simp [h]

theorem acceptKeepAlive_live {st : Station} {ph : Phase} {s : State} (h : (s.watches.get st).state ≠ .lapsed) :
    acceptKeepAlive st ph s = setWatch st ⟨.live, some ph, s.freshTimer st⟩ s := if_neg h

theorem acceptKeepAlive_lapsed {st : Station} {ph : Phase} {s : State} (h : (s.watches.get st).state = .lapsed) :
    acceptKeepAlive st ph s = returnStation st (setWatch st ⟨.live, some ph, s.freshTimer st⟩ s) := if_pos h

theorem acceptKeepAlive_state (st : Station) (ph : Phase) (s : State) :
    ((acceptKeepAlive st ph s).watches.get st).state = .live := by
  unfold acceptKeepAlive returnStation setWatch
  split_ifs <;> simp

theorem acceptKeepAlive_ports (st : Station) (ph : Phase) (s : State) : (acceptKeepAlive st ph s).ports = s.ports := by
  unfold acceptKeepAlive returnStation setWatch
  split_ifs <;> simp

theorem stationKeepAlive_accepts {st : Station} {ph : Phase} {s : State}
    (h : (s.watches.get st).state = .lost ∨ (s.watches.get st).phase ≠ some ph) :
    stationKeepAlive ph st s = ⟨acceptKeepAlive st ph s, .done, [byteOf 1]⟩ := by
  have hlive : watchStateCode .live = 1 := rfl
  simp only [stationKeepAlive, keepAlive_accepts h, acceptKeepAlive_state, hlive]
  rfl

/-- R165: what a keep-alive of a phase leaves, by the watch as it finds it. -/
theorem keepAlive_answered {st : Station} {tag : Byte} {s : State} {k : Kind} {ph : Phase}
    (h : Admits (.station st) k tag [] s) :
    let t := requestOf (.station st) k tag [] (stationRule (.station st) (stationKeepAlive ph)) s
    let fresh : Watch := ⟨.live, some ph, s.freshTimer st⟩
    ((s.watches.get st).state ≠ .lost → (s.watches.get st).phase = some ph →
      Answered (.station st) tag k .repeated [byteOf (watchStateCode (s.watches.get st).state)] s s t) ∧
    ((s.watches.get st).state = .lost ∨ ((s.watches.get st).state = .live ∧ (s.watches.get st).phase ≠ some ph) →
      Answered (.station st) tag k .done [byteOf 1] s { s with watches := s.watches.set st fresh } t) ∧
    ((s.watches.get st).state = .lapsed → (s.watches.get st).phase ≠ some ph →
      Replied (.station st) tag k .done [byteOf 1] s t ∧
        Passed s.slots (passTable s.supply.published (onStationSlots st returnEntry s.slots)) s t ∧
        t = { s with
          ports := t.ports, watches := s.watches.set st fresh, slots := t.slots, drive := t.drive,
          events := t.events }) := by
  intro t fresh
  refine ⟨fun hlost hphase => ?_, fun hcase => ?_, fun hlapsed hphase => ?_⟩
  · refine answered h (?_ : stationKeepAlive ph st s = _) rfl
    simp only [stationKeepAlive, keepAlive_repeats hlost hphase]
    rfl
  · refine answered h ((stationKeepAlive_accepts (hcase.imp_right And.right)).trans ?_) rfl
    rw [acceptKeepAlive_live]
    · rfl
    · rcases hcase with hlost | ⟨hlive, -⟩
      · simp [hlost]
      · simp [hlive]
  · obtain ⟨hreply, hports⟩ := answered h (stationKeepAlive_accepts (.inr hphase)) (acceptKeepAlive_ports st ph s)
    rw [acceptKeepAlive_lapsed hlapsed] at hports
    exact ⟨hreply, ButPorts.returned hports⟩

/-! ## STATION_WATCH and EVENT_LEVEL -/

theorem stationOfNumber_stationNumber (st : Station) : stationOfNumber (stationNumber st) = some st := by
  cases st <;> rfl

theorem stationOfNumber_none {n : Nat} (h : n = 0 ∨ 6 < n) : stationOfNumber n = none := by
  rcases h with rfl | h
  · rfl
  · obtain ⟨m, rfl⟩ := Nat.exists_eq_add_of_lt h
    rw [show 6 + m + 1 = m + 7 by omega]
    rfl

theorem hallKindOfNumber_hallKindNumber (k : HallKind) : hallKindOfNumber (hallKindNumber k) = some k := by
  cases k <;> rfl

theorem hallKindOfNumber_none {n : Nat} (h : n = 0 ∨ 14 < n) : hallKindOfNumber n = none := by
  have hlength : allHallKinds.length = 14 := rfl
  rcases h with rfl | h
  · rfl
  · rw [hallKindOfNumber, if_neg (by omega), List.getElem?_eq_none_iff]
    omega

/-- R168: the working copy with a station's watch enable set. -/
def withEnable (st : Station) (enable : Bool) (s : State) : State :=
  setWorking { s.store.working with
    stations := s.store.working.stations.set st { s.store.working.stations.get st with watchEnabled := enable } } s

theorem withEnable_freshTimer (st : Station) (enable : Bool) (s : State) : (withEnable st enable s).freshTimer st =
    if enable then some (250 * 2 ^ (s.store.working.stations.get st).keepExponent) else none := by
  rw [freshTimer_eq]
  simp [withEnable, setWorking]

theorem ruleStationWatch_eq {payload : List Byte} {st : Station} (h : stationNumber st = byteAt payload 0) (s : State) :
    ruleStationWatch payload s = bare .done (applyWatch st (withEnable st (decide (byteAt payload 1 ≠ 0xA5)) s)) := by
  have hcode : disableCode = 0xA5 := rfl
  have hset : Profile.set s.store.working (.station st .watchEnable) (if byteAt payload 1 = disableCode then 0 else 1) =
      { s.store.working with
        stations := s.store.working.stations.set st
          { s.store.working.stations.get st with watchEnabled := decide (byteAt payload 1 ≠ 0xA5) } } := by
    rw [hcode]
    simp only [Profile.set, StationItems.set]
    split_ifs with hoff <;> simp [hoff]
  simp only [ruleStationWatch, ← h, stationOfNumber_stationNumber, storeItem, hset]
  rfl

theorem ruleEventLevel_eq {payload : List Byte} {k : HallKind} (h : hallKindNumber k = byteAt payload 0) (s : State) :
    ruleEventLevel payload s = ⟨levelWritten k (setWorking { s.store.working with
        levels := s.store.working.levels.set k (min 7 (byteAt payload 1)) } s),
      if byteAt payload 1 ≤ 7 then .done else .clamped, [byteOf (min 7 (byteAt payload 1))]⟩ := by
  have hresult : (min 7 (byteAt payload 1) = byteAt payload 1) = (byteAt payload 1 ≤ 7) := by
    rw [eq_iff_iff]
    omega
  simp only [ruleEventLevel, ← h, hallKindOfNumber_hallKindNumber, hresult]
  rfl

theorem levelWritten_eq (k : HallKind) (n : Nat) (s : State) :
    levelWritten k (setWorking { s.store.working with levels := s.store.working.levels.set k (min 7 n) } s) = { s with
      store := { s.store with
        working := { s.store.working with levels := s.store.working.levels.set k (min 7 n) } }
      events := { s.events with hall := if n = 0 then s.events.hall.set k false else s.events.hall } } := by
  have hzero : min 7 n = 0 ↔ n = 0 := by omega
  simp only [levelWritten, setWorking, PerHallKind.get_set_same, hzero]
  split_ifs <;> rfl

/-- Settles O17: the keep-alives by the watch they find, the watch enable and the event levels by their operands. -/
theorem watchRequests : Obligations.WatchRequests := by
  unfold Obligations.WatchRequests
  refine ⟨fun st tag s k ph c hkind h => ?_, fun tag payload s h => ?_, fun tag payload s h => ?_⟩
  · rcases hkind with ⟨rfl, rfl, rfl⟩ | ⟨rfl, rfl, rfl⟩
    · have hadmits := admits_of_takes _ .keepA tag [] s h rfl rfl (.inl rfl)
      exact ⟨_, running_of_admits hadmits _, keepAlive_answered hadmits⟩
    · have hadmits := admits_of_takes _ .keepB tag [] s h rfl rfl (.inl rfl)
      exact ⟨_, running_of_admits hadmits _, keepAlive_answered hadmits⟩
  · refine ⟨_, running_of_admits h _, fun hnone => answered_bare h ?_ rfl, fun st hst => ?_⟩
    · simp only [ruleStationWatch, stationOfNumber_none hnone]
    · have hrule := ruleStationWatch_eq hst s
      set v := withEnable st (decide (byteAt payload 1 ≠ 0xA5)) s with hv
      by_cases hlapsed : (s.watches.get st).state = .lapsed
      · have happly : applyWatch st v =
            returnStation st (setWatch st ⟨.live, (s.watches.get st).phase, v.freshTimer st⟩ v) := if_pos hlapsed
        rw [happly] at hrule
        obtain ⟨hreply, hports⟩ := answered_bare h hrule (tableEvent_ports _ _)
        obtain ⟨hpassed, hframe⟩ := ButPorts.returned hports
        rw [hv, withEnable_freshTimer] at hframe
        exact ⟨hreply, fun hne => absurd hlapsed hne, fun _ => ⟨hpassed, hframe⟩⟩
      · have happly : applyWatch st v = setWatch st ⟨.live, (s.watches.get st).phase, v.freshTimer st⟩ v :=
          if_neg hlapsed
        rw [happly] at hrule
        obtain ⟨hreply, hports⟩ := answered_bare h hrule rfl
        rw [hv, withEnable_freshTimer] at hports
        exact ⟨hreply, fun _ => hports, fun hyes => absurd hyes hlapsed⟩
  · refine ⟨_, running_of_admits h _, fun hnone => answered_bare h ?_ rfl, fun k hk => ?_⟩
    · simp only [ruleEventLevel, hallKindOfNumber_none hnone]
    · have hrule := ruleEventLevel_eq hk s
      rw [levelWritten_eq] at hrule
      exact answered h hrule rfl

/-! ## STATUS on a station port -/

theorem entryStatus_length (e : Option Entry) : (entryStatus e).length = 3 := by cases e <;> rfl

theorem lastLotBytes_length (x : Option LastLot) : (lastLotBytes x).length = 3 := by cases x <;> rfl

theorem topStation_none {st : Station} {s : State} (h : ∀ k, (s.stationSet st).get k = false) :
    topStation st s = none := by
  simp [topStation, h]

/-- R171: the kinds stand in the order of their numbers, so the first pending one has the lowest. -/
theorem topStation_some {st : Station} {s : State} {k : StationKind} (hk : (s.stationSet st).get k = true)
    (hleast : ∀ j, (s.stationSet st).get j = true → stationKindNumber k ≤ stationKindNumber j) :
    topStation st s = some k := by
  obtain ⟨before, after, hkinds⟩ := List.append_of_mem (mem_allStationKinds k)
  have hsorted : allStationKinds.Pairwise (fun a b => stationKindNumber a < stationKindNumber b) := by decide
  rw [hkinds, List.pairwise_append] at hsorted
  obtain ⟨-, -, hbefore⟩ := hsorted
  rw [topStation, List.find?_eq_some_iff_append]
  refine ⟨hk, before, after, hkinds, fun j hj => ?_⟩
  have hlt := hbefore j hj k List.mem_cons_self
  have hunset : (s.stationSet st).get j = false := Bool.eq_false_iff.mpr fun hset => absurd (hleast j hset) (by omega)
  simp [hunset]

end Sys2Proof.Machine

namespace Sys2Proof

open Machine

/-- Settles O19: the payload of STATUS, with the top kind taken from the set. -/
theorem stationStatus : Obligations.StationStatus := by
  unfold Obligations.StationStatus
  intro st tag s h r items
  have hadmits := admits_of_takes _ .status tag [] s h rfl rfl (.inl rfl)
  refine ⟨fun top => ?_, _, running_of_admits hadmits _, fun hnone => answered hadmits ?_ rfl,
    fun k hk hleast => answered hadmits ?_ rfl⟩
  · simp [items, entryStatus_length, lastLotBytes_length, u16, wordBytes]
  · simp only [ruleStatus, stationStatusAnswer, Machine.stationStatus, topStation_none hnone]
    rfl
  · simp only [ruleStatus, stationStatusAnswer, Machine.stationStatus, topStation_some hk hleast]
    rfl

end Sys2Proof

namespace Sys2Proof.Machine

/-! ## STATUS on the hall port -/

theorem topHall_none {s : State} (h : ∀ k, s.events.hall.get k = false) : topHall s = none := by
  simp [topHall, h, highestLevel]

theorem topHall_some {s : State} {k : HallKind} (hk : s.events.hall.get k = true)
    (hleast : ∀ j, s.events.hall.get j = true → s.store.working.levels.get j < s.store.working.levels.get k ∨
      (s.store.working.levels.get j = s.store.working.levels.get k ∧ hallKindNumber k ≤ hallKindNumber j)) :
    topHall s = some k := by
  have hsorted : allHallKinds.Pairwise (fun a b => hallKindNumber a < hallKindNumber b) := by decide
  refine highestLevel_spec _ _ k (List.mem_filter.mpr ⟨mem_allHallKinds k, hk⟩) (hsorted.filter _) fun j hj => ?_
  exact hleast j (List.mem_filter.mp hj).2

/-! ### The coded bytes of Table 11-6 -/

theorem lastCause_byte (c : Option StopCause) : byteOf (lastCauseCode c) =
    match c with | none => 0#8 | some .fieldSupply => 1#8 | some .hall => 2#8 := by
  rcases c with _ | _ | _ <;> rfl

theorem monitor_byte (m : Monitor) : byteOf (monitorCode m) =
    match m with | .good => 0#8 | .dip _ => 1#8 | .failed => 2#8 | .recovering _ => 3#8 := by
  cases m <;> rfl

theorem watchState_byte (w : WatchState) : byteOf (watchStateCode w) =
    match w with | .lost => 0#8 | .live => 1#8 | .lapsed => 2#8 := by
  cases w <;> rfl

theorem band_byte (b : Option Band) : byteOf (bandCode b) =
    match b with
    | none => 0#8
    | some .critical => 1#8
    | some .low => 2#8
    | some .normal => 3#8
    | some .high => 4#8 := by
  rcases b with _ | _ | _ | _ | _ <;> rfl

theorem condition_byte (n : Nat) : byteOf (conditionCode (conditionOf n)) =
    if n = 0 then 0#8 else if n < 21 then 1#8 else 2#8 := by
  have hlimit : Config.faultLimit = 21 := rfl
  rw [conditionOf, hlimit]
  split_ifs <;> rfl

theorem filterState_byte (f : FilterState) : byteOf (filterStateCode f) =
    match f with | .filtering => 0#8 | .backwash _ => 1#8 | .settle _ => 2#8 | .indexing _ _ _ => 3#8 := by
  cases f <;> rfl

theorem fleece_word (f : Option Nat) : f.getD 0xFFFF = match f with | none => 65535 | some n => n := by
  cases f <;> rfl

theorem survey_byte (x : Survey) : byteOf (surveyCode x) =
    match x with | .unsurveyed => 0#8 | .flushing => 1#8 | .surveyed => 2#8 := by
  cases x <;> rfl

theorem mode_byte (m : Mode) : byteOf (modeCode m) = match m with | .run => 0#8 | .hold _ => 1#8 := by
  cases m <;> rfl

theorem releases_byte (m : Mode) : byteOf m.releases = match m with | .run => 0#8 | .hold n => byteOf n := by
  cases m <;> rfl

theorem indexState_byte (x : IndexState) : byteOf (indexStateCode x) =
    match x with | .idle => 0#8 | .indexing _ _ => 1#8 | .suspended _ _ => 2#8 | .faulted _ => 3#8 := by
  cases x <;> rfl

/-- R102: no steps are left in IDLE. -/
theorem steps_byte (x : IndexState) : byteOf x.steps =
    match x with
    | .idle => 0#8 | .indexing n _ => byteOf n | .suspended n _ => byteOf n | .faulted n => byteOf n := by
  cases x <;> rfl

theorem reservedSpan_eq (s : State) : s.reservedSpan =
    match s.current with
    | none => 0
    | some (_, r) => match r.state with | .pending => 0 | .offered k _ => k | .opened k _ _ => k := by
  unfold State.reservedSpan
  rcases s.current with _ | ⟨src, c, e, u, _ | _ | _⟩ <;> rfl

theorem occupied_eq (s : State) : s.occupied = (s.carousel.queue.map LotRecord.span).sum +
    match s.current with
    | none => 0
    | some (_, r) => match r.state with | .pending => 0 | .offered k _ => k | .opened k _ _ => k := by
  rw [← reservedSpan_eq]
  rfl

theorem crusherState_byte (x : CrusherState) : byteOf (crusherStateCode x) =
    match x with
    | .stopped => 0#8
    | .runUp _ => 1#8
    | .idleRun _ => 2#8
    | .purge _ _ => 3#8
    | .crushing => 4#8
    | .reversing _ => 5#8
    | .blocked => 6#8
    | .passThrough => 7#8
    | .runDown _ => 8#8 := by
  cases x <;> rfl

theorem currentFamily_byte (f : Option ChipFamily) : byteOf (currentFamilyCode f) =
    match f with | none => 0#8 | some .light => 1#8 | some .ferrous => 2#8 | some .hard => 3#8 := by
  rcases f with _ | _ | _ | _ <;> rfl

end Sys2Proof.Machine

namespace Sys2Proof

open Machine

/-- Settles O20: each byte of Table 11-6 by its code, and the top kind taken from the set. -/
theorem hallStatus : Obligations.HallStatus := by
  unfold Obligations.HallStatus
  intro tag s h bit condition watch discards reserved occupied items
  have hadmits := admits_of_takes _ .status tag [] s h rfl rfl (.inl rfl)
  have hitems : Machine.hallStatus s =
      items ++ [byteOf (match topHall s with | none => 0 | some k => hallKindNumber k)] := by
    have hports : allPorts.map (fun p => byteOf (s.ports.get p).discards) = allPorts.map discards := rfl
    simp only [Machine.hallStatus, hallStatusLine, hallStatusSupply, hallStatusFilter, hallStatusCarousel,
      hallStatusCrusher, hports, lastCause_byte, monitor_byte, watchState_byte, band_byte, condition_byte,
      filterState_byte, fleece_word, survey_byte, mode_byte, releases_byte, indexState_byte, steps_byte,
      State.freePockets, occupied_eq, crusherState_byte, currentFamily_byte, items,
      List.append_assoc, List.cons_append, List.nil_append]
    rfl
  have hlength : items.length = 54 := by
    have hword : ∀ n, (u16 n).length = 2 := fun _ => rfl
    simp only [items, List.length_append, List.length_cons, List.length_nil, hword]
  refine ⟨hlength, _, running_of_admits hadmits _, fun hnone => answered hadmits ?_ rfl,
    fun k hk hleast => answered hadmits ?_ rfl⟩
  · simp only [ruleStatus, hallStatusAnswer, hitems, topHall_none hnone]
    rfl
  · simp only [ruleStatus, hallStatusAnswer, hitems, topHall_some hk hleast]
    rfl

end Sys2Proof
end

section
/-! Discharge requests and windows (O21, O23, O26 to O28). -/

namespace Sys2Proof.Machine

/-! ## DISCHARGE_ASK -/

theorem materialOfNumber_materialNumber (m : Material) : materialOfNumber (materialNumber m) = some m := by
  cases m <;> rfl

theorem materialNumber_of_materialOfNumber {n : Nat} {m : Material} (h : materialOfNumber n = some m) :
    materialNumber m = n := by
  unfold materialOfNumber at h
  split at h <;> cases h <;> rfl

theorem usableMaterial_iff (s : State) (n : Nat) (m : Material) : s.usableMaterial n = some m ↔
    materialNumber m = n ∧ (s.store.working.materials.get m).inUse = true := by
  simp only [State.usableMaterial, Option.bind_eq_some_iff]
  constructor
  · rintro ⟨m', hm', huse⟩
    split_ifs at huse with h
    obtain rfl := Option.some.inj huse
    exact ⟨materialNumber_of_materialOfNumber hm', h⟩
  · rintro ⟨rfl, huse⟩
    exact ⟨m, materialOfNumber_materialNumber m, if_pos huse⟩

/-- R66, R67: an arbitration leaves a station's request as it is, or offers it pockets. -/
theorem arbitrate_request (st : Station) {s : State} {r : DischargeRequest} (hr : s.request (.station st) = some r) :
    (arbitrate s).request (.station st) = some r ∨
      ∃ k, (arbitrate s).request (.station st) = some { r with state := .offered k (1000 * s.line.tOffer) } := by
  rcases arbitrate_cases s with h | ⟨src, q, -, hq, -, -, h⟩
  · exact .inl (by rw [h, hr])
  · rw [h, request_choose]
    split_ifs with hsrc
    · subst hsrc
      obtain rfl := Option.some.inj (hr.symm.trans hq)
      exact .inr ⟨_, by rw [chosenState, sec_eq]⟩
    · exact .inl hr

theorem afterRequest_request {src : Source} {urgency : Nat} {st : Station} {s : State} {r : DischargeRequest}
    (hr : s.request (.station st) = some r) (hpending : r.state = .pending) :
    (afterRequest src urgency s).request (.station st) = some r ∨
      ∃ k, (afterRequest src urgency s).request (.station st) =
        some { r with state := .offered k (1000 * s.line.tOffer) } := by
  unfold afterRequest
  cases hcurrent : s.current with
  | none => exact arbitrate_request st hr
  | some c =>
    simp only
    split_ifs with hdisplaced
    · obtain ⟨hc, hstanding⟩ := current_some hcurrent
      have hother : Source.station st ≠ c.1 := fun heq => by
        obtain rfl := Option.some.inj (hr.symm.trans (heq ▸ hc))
        simp [DischargeRequest.isCurrent, hpending] at hstanding
      have hline : (tryIndexStart (withdrawOffer c.1 c.2 s)).line = s.line := by simp [State.line]
      have hkept : (tryIndexStart (withdrawOffer c.1 c.2 s)).request (.station st) = some r := by
        rw [request_of_arbiter (s := withdrawOffer c.1 c.2 s) (by simp), request_withdrawOffer, if_neg hother, hr]
      rw [chuteFreed_eq, ← hline]
      exact arbitrate_request st hkept
  
    · exact arbitrate_request st hr

/-- Settles O21, by the refusals in their order; an accepted request stays PENDING or is OFFERED at once. -/
theorem dischargeAsk : Obligations.DischargeAsk := by
  unfold Obligations.DischargeAsk
  intro st tag payload s h estimate urgency usable
  have hmaterial : ∀ m, usable m → s.usableMaterial (byteAt payload 0) = some m := fun m hm =>
    (usableMaterial_iff s _ m).mpr hm
  refine ⟨_, running_of_admits h _, fun hcurrent => answered_bare h ?_ rfl, fun hidle hbad => answered_bare h ?_ rfl,
    fun hidle hgood hmass hover => answered_bare h ?_ rfl, fun hidle m hm hmass hfits => ?_⟩
  · have hc : s.isCurrentSource (.station st) = true := hcurrent
    simp only [stationRule, stationDischargeAsk, hc, if_true]
  · have hc : ¬ s.isCurrentSource (.station st) = true := hidle
    simp only [stationRule, stationDischargeAsk, if_neg hc]
    cases hm : s.usableMaterial (byteAt payload 0) with
    | none => rfl
    | some m =>
      have hzero : u16At payload 1 = 0 := hbad.resolve_left fun hnone => hnone m ((usableMaterial_iff s _ m).mp hm)
      simp only [hzero, if_true]
  · have hc : ¬ s.isCurrentSource (.station st) = true := hidle
    obtain ⟨m, hm⟩ := hgood
    have hmass' : ¬ u16At payload 1 = 0 := hmass
    have hover' : 4 * s.line.mPocket < u16At payload 1 := hover
    simp only [stationRule, stationDischargeAsk, if_neg hc, hmaterial m hm, if_neg hmass', if_pos hover']
  · have hc : ¬ s.isCurrentSource (.station st) = true := hidle
    have hmass' : ¬ u16At payload 1 = 0 := hmass
    have hfits' : ¬ 4 * s.line.mPocket < u16At payload 1 := Nat.not_lt.mpr hfits
    intro u result
    have hu : acceptAsk st ⟨.chips m, estimate, urgency, .pending⟩ s = u := rfl
    have hrule : stationRule (.station st) (fun st => stationDischargeAsk st payload) s =
        ⟨u, result, askReply st u⟩ := by
      simp only [stationRule, stationDischargeAsk, if_neg hc, hmaterial m hm, if_neg hmass', if_neg hfits']
      rfl
    have hanswered := answered h hrule (afterRequest_frame _ _ _).2.1
    have hplaced : (setLate st none (setPlace (.station st) (some ⟨.chips m, estimate, urgency, .pending⟩) s)).request
        (.station st) = some ⟨.chips m, estimate, urgency, .pending⟩ :=
      PerSource.get_set_same s.arbiter.requests (.station st) _
    rcases afterRequest_request (src := .station st) (urgency := urgency) hplaced rfl with hrequest | ⟨k, hrequest⟩
    · refine .inl ⟨hrequest, ?_⟩
      have hreply : askReply st u = [byteOf 1, byteOf urgency, byteOf 0, byteOf 0] := by
        rw [askReply, show u.request (.station st) = _ from hrequest]
        rfl
      rwa [hreply] at hanswered
    · refine .inr ⟨k, hrequest, ?_⟩
      have hreply : askReply st u = [byteOf 2, byteOf urgency, byteOf k, byteOf s.line.tOffer] := by
        rw [askReply, show u.request (.station st) = _ from hrequest]
        simp only [wholeSeconds_sec]
        rfl
      rwa [hreply] at hanswered

/-! ## DISCHARGE_GO, DISCHARGE_CANCEL and DISCHARGE_DONE -/

theorem openGate_station (st : Station) (r : DischargeRequest) (k : Nat) (s : State) :
    openGate (.station st) r k none s = { s with
      arbiter := { s.arbiter with
        requests := s.arbiter.requests.set (.station st)
          (some { r with state := .opened k (1000 * s.line.tGate) none }) }
      measure := { s.measure with chute := ⟨0, true⟩ }
      drive := { s.drive with gates := s.drive.gates.set st true } } := by
  rw [← sec_eq]
  rfl

theorem openGate_sludge (r : DischargeRequest) (k d : Nat) (s : State) :
    openGate .sludge r k (some d) s = { s with
      arbiter := { s.arbiter with
        requests := s.arbiter.requests.set .sludge
          (some { r with state := .opened k (1000 * s.line.tGate) (some d) }) }
      measure := { s.measure with chute := ⟨0, true⟩ }
      drive := { s.drive with dumpValve := true } } := by
  rw [← sec_eq]
  rfl

/-- Settles O23, by the state of the station's request. -/
theorem dischargeGoCancel : Obligations.DischargeGoCancel := by
  unfold Obligations.DischargeGoCancel
  refine ⟨fun st tag s h => ⟨_, running_of_admits h _, fun r k w hr hstate => answered h ?_ rfl,
    fun hother => answered_bare h ?_ rfl⟩, fun st tag s h => ?_⟩
  · simp only [stationRule, stationDischargeGo, hr, hstate, openGate_station]
  · cases hr : s.request (.station st) with
    | none => simp only [stationRule, stationDischargeGo, hr]
    | some r =>
      cases hstate : r.state with
      | offered k w => exact absurd hstate (hother r hr k w)
      | pending => simp only [stationRule, stationDischargeGo, hr, hstate]
      | opened k g d => simp only [stationRule, stationDischargeGo, hr, hstate]
  · intro removed
    have hremoved : setPlace (.station st) none s = removed := rfl
    refine ⟨_, running_of_admits h _, fun hr => answered_bare h ?_ rfl, fun r hr => ?_⟩
    · simp only [stationRule, stationDischargeCancel, hr]
    · cases hstate : r.state with
      | pending =>
        refine answered_bare h ?_ (arbitrate_frame removed).2.1
        simp only [stationRule, stationDischargeCancel, hr, hstate, hremoved]
      | offered k w =>
        refine answered_bare h ?_ (chuteFreed_frame removed).2.1
        simp only [stationRule, stationDischargeCancel, hr, hstate, hremoved]
      | opened k g d =>
        refine answered_bare h ?_ rfl
        simp only [stationRule, stationDischargeCancel, hr, hstate]

/-- Settles O26, by the state of the station's request and by its late report. -/
theorem dischargeDone : Obligations.DischargeDone := by
  unfold Obligations.DischargeDone
  intro st tag s h bytes
  refine ⟨_, running_of_admits h _, fun r k g d hr hstate => ?_, fun r hr hstate => answered_bare h ?_ rfl,
    fun hr hlate => answered_bare h ?_ rfl, fun o hr hlate => answered h ?_ rfl⟩
  · intro f
    have hports : (afterFinalise (.station st) s.carousel.queue.isEmpty f.1).ports = s.ports := by simp [f]
    refine answered h ?_ hports
    simp only [stationRule, stationDischargeDone, hr, hstate, finaliseEvent, Option.isNone_iff_eq_none]
    rfl
  · cases hstate' : r.state with
    | opened k g d => exact absurd hstate' (hstate k g d)
    | pending => simp only [stationRule, stationDischargeDone, hr, hstate']
    | offered k w => simp only [stationRule, stationDischargeDone, hr, hstate']
  · simp only [stationRule, stationDischargeDone, hr, hlate]
  · simp only [stationRule, stationDischargeDone, hr, hlate]
    rfl

/-! ## Arbitration and the windows -/

/-- Settles O27: the conditions, the top candidate and its span. -/
theorem arbitration : Obligations.Arbitration := by
  unfold Obligations.Arbitration
  intro s hpowered may
  have hexec : exec .arbitration s = .next (arbitrate s) := running_powered _ s hpowered
  rw [hexec]
  refine ⟨fun hmay => ?_, fun hnone => ?_, fun hmay src r hr hpending htop => ?_⟩
  · have hcannot : ¬ s.mayArbitrate = true := fun h => hmay ((mayArbitrate_iff s).mp h)
    rw [arbitrate, if_neg hcannot]
  · rcases arbitrate_cases s with h | ⟨src, r, -, hr, hpending, -⟩
    · rw [h]
    · exact absurd hpending (hnone src r hr)
  · have hcan := (mayArbitrate_iff s).mpr hmay
    have htop := topCandidate_spec s src r hr hpending htop
    intro k
    have hk : requestSpan r.estimate s.line.mPocket = k := rfl
    refine ⟨fun hfree => ?_, fun hfree => ⟨fun st hst => ?_, fun hst => ?_⟩⟩
    · simp only [arbitrate, hcan, if_true, htop, hk, if_neg (Nat.not_le.mpr hfree)]
    · subst hst
      simp only [arbitrate, hcan, if_true, htop, hk, if_pos hfree]
      rw [choose, offerTo, sec_eq]
      rfl
    · subst hst
      simp only [arbitrate, hcan, if_true, htop, hk, if_pos hfree]
      rw [choose, sec_eq, openGate_sludge]

/-- Settles O28, window by window, by the state of the current discharge. -/
theorem dischargeTimers : Obligations.DischargeTimers := by
  unfold Obligations.DischargeTimers
  intro s hpowered
  refine ⟨fun st r k w hcurrent hstate => ?_, fun hother => ?_, fun st r k g d hcurrent hstate => ?_,
    fun r k g d hcurrent hstate => ?_, fun hother => ?_, fun r k g d hcurrent hstate => ?_, fun hother => ?_⟩
  · refine (running_powered _ s hpowered).trans ?_
    simp only [offerLapses, hcurrent, hstate]
    rfl
  · refine (running_powered _ s hpowered).trans (congrArg _ ?_)
    rcases hcurrent : s.current with _ | ⟨_ | _, r⟩
    · simp only [offerLapses, hcurrent]
    · cases hstate : r.state with
      | offered k w => exact absurd hstate (hother _ r hcurrent k w)
      | pending => simp only [offerLapses, hcurrent, hstate]
      | opened k g d => simp only [offerLapses, hcurrent, hstate]
    · simp only [offerLapses, hcurrent]
  · intro f
    refine (running_powered _ s hpowered).trans ?_
    simp only [gateTimesOut, hcurrent, hstate]
    rfl
  · refine (running_powered _ s hpowered).trans ?_
    simp only [gateTimesOut, hcurrent, hstate]
    rfl
  · refine (running_powered _ s hpowered).trans (congrArg _ ?_)
    rcases hcurrent : s.current with _ | ⟨src, r⟩
    · simp only [gateTimesOut, hcurrent]
    · cases hstate : r.state with
      | opened k g d => exact absurd hstate (hother _ r hcurrent k g d)
      | pending => simp only [gateTimesOut, hcurrent, hstate]
      | offered k w => simp only [gateTimesOut, hcurrent, hstate]
  · refine (running_powered _ s hpowered).trans ?_
    simp only [dumpEnds, hcurrent, hstate]
    rfl
  · refine (running_powered _ s hpowered).trans (congrArg _ ?_)
    rcases hcurrent : s.current with _ | ⟨_ | _, r⟩
    · simp only [dumpEnds, hcurrent]
    · simp only [dumpEnds, hcurrent]
    · rcases hstate : r.state with _ | ⟨k, w⟩ | ⟨k, g, _ | d⟩
      · simp only [dumpEnds, hcurrent, hstate]
      · simp only [dumpEnds, hcurrent, hstate]
      · simp only [dumpEnds, hcurrent, hstate]
      · exact absurd hstate (hother r hcurrent k g d)

end Sys2Proof.Machine
end

section
/-! The carousel: mode requests, index starts, steps and faults (O29, O31, O32). -/

namespace Sys2Proof.Machine

/-! ## The mode -/

theorem requestNotStarted_iff (s : State) :
    s.requestNotStarted = true ↔ s.carousel.requested = true ∧ s.carousel.index = .idle := by
  simp [State.requestNotStarted]

theorem withdrawEvent_ports (s : State) : (withdrawEvent s).ports = s.ports := by
  unfold withdrawEvent
  split_ifs <;> simp

theorem withdrawEvent_of_standing {s : State} (hrequested : s.carousel.requested = true)
    (hidle : s.carousel.index = .idle) :
    withdrawEvent s = arbitrate (feedEvaluation { s with
      carousel := { s.carousel with requested := false }, crusher := { s.crusher with awaited := none } }) := by
  have hstanding := (requestNotStarted_iff s).mpr ⟨hrequested, hidle⟩
  rw [withdrawEvent, if_pos hstanding, withdrawRequest, if_pos hstanding]

theorem withdrawEvent_of_none {s : State} (h : ¬ (s.carousel.requested = true ∧ s.carousel.index = .idle)) :
    withdrawEvent s = s := if_neg fun hstanding => h ((requestNotStarted_iff s).mp hstanding)

/-- R181: a result that refuses carries no payload. -/
theorem Answered.withoutPayload {p : Port} {tag : Byte} {k : Kind} {result : Result} {out : List Byte} {s u t : State}
    (hresult : result.carriesPayload = false) (h : Answered p tag k result out s u t) :
    Answered p tag k result [] s u t := by
  have hreply : makeReply p tag (kindCode k) result out t = makeReply p tag (kindCode k) result [] t := by
    simp [makeReply, hresult]
  unfold Answered Replied RepliedCode at h ⊢
  rwa [← hreply]

/-- R94: RELEASE in HOLD. -/
theorem ruleRelease_hold {payload : List Byte} {m : Nat} {s : State} (h : s.carousel.mode = .hold m) :
    ruleRelease payload s =
      ⟨tryIndexStart (if m = 0 ∧ 0 < min (m + byteAt payload 0) s.queuedLots then
          feedEvaluation (setMode (.hold (min (m + byteAt payload 0) s.queuedLots)) s)
        else setMode (.hold (min (m + byteAt payload 0) s.queuedLots)) s),
        if m + byteAt payload 0 ≤ s.queuedLots then .done else .clamped, []⟩ := by
  simp only [ruleRelease, h]
  congr 1
  · exact congrArg tryIndexStart (if_congr (by simp) rfl rfl)
  · by_cases hfit : m + byteAt payload 0 ≤ s.queuedLots
    · rw [if_pos hfit, if_neg (by omega)]
    · rw [if_neg hfit, if_pos (by omega)]

/-- Settles O29, request by request, by the mode in force. -/
theorem modeRequests : Obligations.ModeRequests := by
  unfold Obligations.ModeRequests
  intro tag n s mode
  refine ⟨fun h => ⟨_, running_of_admits h _, fun hmode hrequested hidle => ?_, fun hmode hnone => ?_, fun hmode => ?_⟩,
    fun h => ⟨_, running_of_admits h _, fun hmode => ?_, fun m hmode => ?_⟩,
    fun h => ⟨_, running_of_admits h _, fun hmode => answered_bare h ?_ rfl, fun hmode => ?_⟩⟩
  · have hrule : ruleHold s = bare .done (withdrawEvent (setMode (.hold 0) s)) := by simp only [ruleHold, hmode]
    have hanswered := answered_bare h hrule (withdrawEvent_ports _)
    rwa [withdrawEvent_of_standing (s := setMode (.hold 0) s) hrequested hidle] at hanswered
  · have hrule : ruleHold s = bare .done (withdrawEvent (setMode (.hold 0) s)) := by simp only [ruleHold, hmode]
    rw [withdrawEvent_of_none (s := setMode (.hold 0) s) hnone] at hrule
    exact answered_bare h hrule rfl
  · cases hmode' : s.carousel.mode with
    | run => exact absurd hmode' hmode
    | hold m => exact answered_bare h (by simp only [ruleHold, hmode']) rfl
  · have hrule : withReleaseCount (ruleRelease [n] s) = ⟨s, .refusedState, [byteOf 0]⟩ := by
      simp only [ruleRelease, hmode, withReleaseCount, bare]
      rfl
    exact Answered.withoutPayload rfl (answered h hrule rfl)
  · intro lots count u
    have hrule : withReleaseCount (ruleRelease [n] s) =
        ⟨u, if m + n.toNat ≤ lots then .done else .clamped, [byteOf u.carousel.mode.releases]⟩ := by
      rw [ruleRelease_hold hmode]
      rfl
    refine answered h hrule ?_
    simp only [u, tryIndexStart_frame]
    split_ifs <;> simp [mode]
  · simp only [ruleResume, hmode]
  · cases hmode' : s.carousel.mode with
    | run => exact absurd hmode' hmode
    | hold m =>
      refine answered_bare h (u := tryIndexStart (feedEvaluation (mode .run))) ?_ (by simp [mode])
      simp only [ruleResume, hmode']
      rfl

/-! ## The start of an index -/

theorem indexMayStart_iff (s : State) : s.indexMayStart = true ↔
    s.carousel.requested = true ∧ s.carousel.index = .idle ∧ s.carousel.survey = .surveyed ∧
      (∀ src, ¬ s.isCurrent src) ∧ s.inSafeStop = false ∧ s.carousel.mode ≠ .hold 0 := by
  rw [← current_none_iff, ← letsThrough_iff]
  simp [State.indexMayStart, and_assoc]

theorem startStep_eq (n : Nat) (s : State) : startStep n s = { s with
    carousel := { s.carousel with index := .indexing n (2000 * s.line.tIdx) }
    drive := { s.drive with step := true } } := by
  rw [startStep, stepTime_eq]
  rfl

/-- Settles O31. -/
theorem indexStart : Obligations.IndexStart := by
  unfold Obligations.IndexStart
  intro s hpowered may
  have hexec : exec .indexStart s = .next (tryIndexStart s) := running_powered _ s hpowered
  rw [hexec]
  refine ⟨fun hmay => ?_, fun hmay l rest hqueue => ?_⟩
  · rw [tryIndexStart, if_neg fun h => hmay ((indexMayStart_iff s).mp h)]
  · rw [tryIndexStart, if_pos ((indexMayStart_iff s).mpr hmay), hqueue]
    simp only [startStep_eq]
    cases s.carousel.mode <;> rfl

/-! ## Steps -/

theorem indexEdge_of_more {s : State} {n : Nat} {x : Nat} (h : s.carousel.index = .indexing n x) (hn : 2 ≤ n) :
    indexEdge s = { s with
      carousel := { s.carousel with index := .indexing (n - 1) (2000 * s.line.tIdx) }
      drive := { s.drive with step := true } } := by
  simp only [indexEdge, h, if_neg (show ¬ n ≤ 1 by omega), startStep_eq]
  rfl

theorem indexEdge_of_last {s : State} {n : Nat} {x : Nat} (h : s.carousel.index = .indexing n x) (hn : n ≤ 1) :
    indexEdge s = lastStepMade (setStep false s) := by
  simp only [indexEdge, h, if_pos hn]

theorem lastStepMade_of_flush {s : State} (h : s.carousel.survey = .flushing) : lastStepMade s = arbitrate { s with
    carousel := { s.carousel with index := .idle, survey := .surveyed }
    drive := { s.drive with flap := .crusher } } := if_pos h

theorem lastStepMade_of_index {s : State} (h : s.carousel.survey ≠ .flushing) {l : LotRecord} {rest : List LotRecord}
    (hqueue : s.carousel.queue = l :: rest) : lastStepMade s = arbitrate (feedEvaluation (lotArrives l { s with
      carousel := { s.carousel with queue := rest, requested := false, index := .idle } })) := by
  rw [lastStepMade, if_neg h, completeIndex, hqueue]
  simp only [takeHead, hqueue]
  rfl

theorem indexEdge_of_ignored {s : State} (hmoving : ∀ n x, s.carousel.index ≠ .indexing n x)
    (hsuspended : ∀ n, s.carousel.index ≠ .suspended n false) : indexEdge s = s := by
  rcases h : s.carousel.index with _ | ⟨n, x⟩ | ⟨n, _ | _⟩ | n
  · simp only [indexEdge, h]
  · exact absurd h (hmoving n x)
  · exact absurd h (hsuspended n)
  · simp only [indexEdge, h]
  · simp only [indexEdge, h]

theorem ruleCarouselRetry_refused {s : State} (h : s.inSafeStop = true ∨ ∀ n, s.carousel.index ≠ .faulted n) :
    ruleCarouselRetry s = bare .refusedState s := by
  rcases hindex : s.carousel.index with _ | ⟨n, x⟩ | ⟨n, b⟩ | n
  · simp only [ruleCarouselRetry, hindex]
  · simp only [ruleCarouselRetry, hindex]
  · simp only [ruleCarouselRetry, hindex]
  · have hstop := h.resolve_right fun hno => hno n hindex
    simp only [ruleCarouselRetry, hindex, hstop, if_true]

/-- Settles O32: the sensor's passages, and an edge by the index state it finds. -/
theorem stepsAndFaults : Obligations.StepsAndFaults := by
  unfold Obligations.StepsAndFaults
  refine ⟨fun s hpowered => ?_, fun tag s => ⟨fun hpowered n x hindex => ?_, fun hpowered hother => ?_, fun h => ?_⟩⟩
  · intro sensor u
    refine ⟨fun hsensor => (running_powered _ s hpowered).trans ?_,
      fun hsensor => (running_powered _ s hpowered).trans ?_,
      running_powered _ s hpowered, fun hnone => (running_powered _ s hpowered).trans ?_, fun hsome => ?_⟩
    · simp only [sensorMade, hsensor]
      rfl
    · have hbusy : (s.measure.sensor.made || s.measure.sensor.confirming.isSome) = true := by
        rcases hx : s.measure.sensor with ⟨_ | _, _ | n⟩
        · exact absurd hx hsensor
        all_goals rfl
      rw [sensorMade, if_pos hbusy]
    · simp only [sensorConfirmed, hnone]
    · have hexec : exec .indexEdge s = .next (indexEdge u) := by
        refine (running_powered _ s hpowered).trans ?_
        obtain ⟨n, hn⟩ := Option.ne_none_iff_exists'.mp hsome
        simp only [sensorConfirmed, hn]
        rfl
      rw [hexec]
      refine ⟨fun n x hindex hn => ?_, fun n x hindex hn hflush => ?_, fun n x l rest hindex hn hflush hqueue => ?_,
        fun n hindex => ?_, fun hmoving hsuspended => ?_⟩
      · rw [indexEdge_of_more (s := u) hindex hn]
        rfl
      · rw [indexEdge_of_last (s := u) hindex hn, lastStepMade_of_flush (s := setStep false u) hflush]
        rfl
      · rw [indexEdge_of_last (s := u) hindex hn, lastStepMade_of_index (s := setStep false u) hflush hqueue]
        rfl
      · have hindex' : u.carousel.index = .suspended n false := hindex
        simp only [indexEdge, hindex']
        rfl
      · rw [indexEdge_of_ignored (s := u) hmoving hsuspended]
  · refine (running_powered _ s hpowered).trans ?_
    simp only [stepFails, hindex]
    rfl
  · refine (running_powered _ s hpowered).trans ?_
    rcases hindex : s.carousel.index with _ | ⟨n, x⟩ | ⟨n, b⟩ | n
    · simp only [stepFails, hindex]
    · exact absurd hindex (hother n x)
    · simp only [stepFails, hindex]
    · simp only [stepFails, hindex]
  · refine ⟨_, running_of_admits h _, fun n hindex hstop => answered_bare h ?_ rfl,
      fun hrefused => answered_bare h (ruleCarouselRetry_refused hrefused) rfl⟩
    simp only [ruleCarouselRetry, hindex, hstop, startStep_eq]
    rfl

end Sys2Proof.Machine
end

section
/-! The crusher: feed evaluation, arrivals, timers and the ends of a lot (O33 to O38). -/

namespace Sys2Proof.Machine

/-! ## Lots -/

theorem speed?_chips {l : LotRecord} {m : Material} {c : ChipCopies} (h : l.content = .chips m c) :
    l.speed? = some c.speed := by simp [LotRecord.speed?, h]

theorem isSludge_chips {l : LotRecord} {m : Material} {c : ChipCopies} (h : l.content = .chips m c) :
    l.isSludge = false := by simp [LotRecord.isSludge, h]

theorem isSludge_sludge {l : LotRecord} (h : l.content = .sludge) : l.isSludge = true := by simp [LotRecord.isSludge, h]

/-! ## Entering states -/

theorem driveCrusher_eq (d : Direction) (setpoint : Option Nat) (s : State) : driveCrusher d setpoint s = { s with
    drive := { s.drive with direction := d, speed := if setpoint = none then s.drive.speed else setpoint }
    measure := { s.measure with
      shaft := if s.drive.direction = d then s.measure.shaft
        else if d = .forward then .counting 0 s.line.ppr 500 else .idle } } := by
  cases setpoint <;> rfl

theorem enterIdleRun_eq (s : State) : enterIdleRun s = driveCrusher .forward none
    { s with crusher := { s.crusher with state := .idleRun (1000 * s.line.tIdle) } } := by
  rw [enterIdleRun, sec_eq]
  rfl

theorem enterRunDown_eq (s : State) : enterRunDown s = driveCrusher .stopped none
    { s with crusher := { s.crusher with state := .runDown (1000 * s.line.tRunDown) } } := by
  rw [enterRunDown, sec_eq]
  rfl

theorem enterRunUp_of_speed {s : State} {v : Nat} (h : s.runUpSpeed = some v) : enterRunUp s =
    driveCrusher .forward (some v) { s with crusher := { s.crusher with state := .runUp (1000 * s.line.tRunUp) } } := by
  rw [enterRunUp, sec_eq, h]
  rfl

theorem runUpSpeed_of_slot {s : State} {x : SlotLot} {m : Material} {c : ChipCopies} (hslot : s.crusher.slot = some x)
    (hchips : x.lot.content = .chips m c) : s.runUpSpeed = some c.speed := by
  simp only [State.runUpSpeed, hslot, speed?_chips hchips]

theorem runUpSpeed_of_head {s : State} {l : LotRecord} {m : Material} {c : ChipCopies} (hslot : s.crusher.slot = none)
    (hawaited : s.crusher.awaited = none) (hhead : s.headLot = some l) (hchips : l.content = .chips m c) :
    s.runUpSpeed = some c.speed := by
  simp only [State.runUpSpeed, hslot, hawaited, hhead, Option.bind_some, speed?_chips hchips]

theorem enterCrushing_eq {s : State} {x : SlotLot} {m : Material} {c : ChipCopies} (hslot : s.crusher.slot = some x)
    (hchips : x.lot.content = .chips m c) : enterCrushing s = driveCrusher .forward (some c.speed)
      { s with crusher := { s.crusher with state := .crushing, stallCount := 0 } } := by
  rw [enterCrushing, hslot, Option.bind_some, speed?_chips hchips]

theorem enterPurge_eq (time : Nat) (f : ChipFamily) (s : State) : enterPurge time f s = driveCrusher .forward none
    { s with crusher := { s.crusher with state := .purge (1000 * time) f } } := by
  rw [enterPurge, sec_eq]
  rfl

/-! ## The feed evaluation -/

theorem takeIndexRequest_of_head {s : State} {l : LotRecord} (hhead : s.headLot = some l) (hstage : l.stage = .queued) :
    takeIndexRequest s = tryIndexStart { s with carousel := { s.carousel with requested := true } } := by
  simp only [takeIndexRequest, hhead, if_pos hstage]

theorem askForIndex_of_head {s : State} {l : LotRecord} (hhead : s.headLot = some l) (hstage : l.stage = .queued) :
    askForIndex l s = tryIndexStart { s with
      crusher := { s.crusher with awaited := some l.number }
      carousel := { s.carousel with requested := true } } :=
  takeIndexRequest_of_head (s := { s with crusher := { s.crusher with awaited := some l.number } }) hhead hstage

/-- R106 step 4. -/
theorem askForChips_of_head {s : State} {l : LotRecord} (c : ChipCopies) (hhead : s.headLot = some l)
    (hstage : l.stage = .queued) : askForChips l c s = tryIndexStart { s with
      crusher := { s.crusher with awaited := some l.number }
      drive := { s.drive with flap := .crusher, speed := some c.speed }
      carousel := { s.carousel with requested := true } } :=
  (askForIndex_of_head (s := setSpeed (some c.speed) (setFlap .crusher s)) hhead hstage).trans rfl

theorem finishPurge_of_head {s : State} {l : LotRecord} {m : Material} {c : ChipCopies} (hhead : s.headLot = some l)
    (hchips : l.content = .chips m c) (f : ChipFamily) : finishPurge f s = driveCrusher .forward none { s with
      drive := { s.drive with binGate := .bin f }
      crusher := { s.crusher with
        family := some f, heldPurge := c.purge, state := .idleRun (1000 * s.line.tIdle) } } := by
  rw [finishPurge, enterIdleRun_eq]
  simp only [hhead, Option.map_some, hchips]
  rfl

theorem finishPurge_of_other {s : State} (hother : ∀ l m c, s.headLot = some l → l.content ≠ .chips m c)
    (f : ChipFamily) : finishPurge f s = driveCrusher .forward none { s with
      drive := { s.drive with binGate := .bin f }
      crusher := { s.crusher with
        family := some f, heldPurge := s.crusher.heldPurge, state := .idleRun (1000 * s.line.tIdle) } } := by
  rw [finishPurge, enterIdleRun_eq]
  cases hhead : s.headLot with
  | none => rfl
  | some l =>
    cases hcontent : l.content with
    | chips m c => exact absurd hcontent (hother l m c hhead)
    | sludge =>
      simp only [Option.map_some, hcontent]
      rfl

/-- R105, R107: what the evaluation makes of a QUEUED head lot, the conditions holding. -/
theorem feedEvaluation_of_head {s : State} {l : LotRecord} (hmay : (s.mayFeed && s.crusher.state.isFree) = true)
    (hhead : s.headLot = some l) (hstage : l.stage = .queued) : feedEvaluation s =
      if s.binFull l.family then waitForBin l.family s
      else match l.content with
        | .chips _ c => feedChips l c (endBinWait s)
        | .sludge => feedSludge l (endBinWait s) := by
  simp only [feedEvaluation, hmay, if_true, hhead, if_pos hstage] <;> rfl

theorem feedEvaluation_of_noHead {s : State} (h : ∀ l, s.headLot = some l → l.stage ≠ .queued) :
    feedEvaluation s = s := by
  unfold feedEvaluation
  cases hhead : s.headLot with
  | none => simp
  | some l => simp [h l hhead]

end Sys2Proof.Machine

namespace Sys2Proof

open Machine

/-- Settles O33, by the fill of the bin, the content of the head lot and the state of the crusher. -/
theorem feedEvaluation : Obligations.FeedEvaluation := by
  unfold Obligations.FeedEvaluation
  intro s hpowered may
  have hexec : exec .feedEvaluation s = .next (Machine.feedEvaluation s) := running_powered _ s hpowered
  rw [hexec]
  refine ⟨fun hmay => ?_, fun hnone => by rw [feedEvaluation_of_noHead hnone], fun hmay l hhead hstage => ?_⟩
  · rw [Machine.feedEvaluation, if_neg fun h => hmay ((mayFeed_iff s).mp h)]
  have hcan := (mayFeed_iff s).mpr hmay
  obtain ⟨hslot, hawaited, -⟩ := hmay
  have hfeed := feedEvaluation_of_head hcan hhead hstage
  intro full asked
  have hbin : s.binFull l.family = true ↔ full := decide_eq_true_iff
  refine ⟨fun hfull hmark => ?_, fun hfull hmark => ?_, fun hspace m c hchips => ?_, fun hspace hsludge => ?_⟩
  · rw [hfeed, if_pos (hbin.mpr hfull), waitForBin, if_pos hmark]
  · rw [hfeed, if_pos (hbin.mpr hfull), waitForBin, if_neg hmark]
  · have hnot : ¬ s.binFull l.family = true := fun h => hspace (hbin.mp h)
    rw [if_neg hnot, hchips] at hfeed
    have hhead' : (endBinWait s).headLot = some l := hhead
    rw [hfeed]
    refine ⟨fun hstate => ?_, fun n hstate hfamily => ?_, fun n hstate hfamily => ?_⟩
    · have hstate' : (endBinWait s).crusher.state = .stopped := hstate
      simp only [feedChips, hstate']
      rw [enterRunUp_of_speed (runUpSpeed_of_head (s := endBinWait s) hslot hawaited hhead hchips)]
      rfl
    · have hstate' : (endBinWait s).crusher.state = .idleRun n := hstate
      have hfamily' : (endBinWait s).crusher.family = some c.family := hfamily
      simp only [feedChips, hstate', if_pos hfamily']
      rw [askForChips_of_head c hhead' hstage]
      rfl
    · have hstate' : (endBinWait s).crusher.state = .idleRun n := hstate
      have hfamily' : ¬ (endBinWait s).crusher.family = some c.family := hfamily
      intro time
      have htime : purgeTime c (endBinWait s) = time := by
        show (match s.crusher.family with | none => c.purge | some _ => s.crusher.heldPurge) = _
        cases hf : s.crusher.family <;> simp [time, hf]
      simp only [feedChips, hstate', if_neg hfamily', htime]
      refine ⟨fun hpurge => ?_, fun hpurge => ?_⟩
      · rw [if_neg hpurge, enterPurge_eq]
        rfl
      · rw [if_pos hpurge, finishPurge_of_head hhead' hchips, askForChips_of_head c (by exact hhead) hstage]
        rfl
  · have hnot : ¬ s.binFull l.family = true := fun h => hspace (hbin.mp h)
    rw [if_neg hnot, hsludge] at hfeed
    rw [hfeed]
    refine ⟨fun hstate => ?_, fun n hstate => ?_⟩
    · have hstate' : (endBinWait s).crusher.state = .stopped := hstate
      simp only [feedSludge, hstate']
      rw [askForIndex_of_head (s := setFlap .sludge (endBinWait s)) hhead hstage]
      rfl
    · have hstate' : (endBinWait s).crusher.state = .idleRun n := hstate
      simp only [feedSludge, hstate']
      rw [enterRunDown_eq]
      rfl

end Sys2Proof

namespace Sys2Proof.Machine

/-! ## Arrivals -/

theorem feedTime_eq (mass rate : Nat) : feedTime mass rate = max 1 (min 3600 (ceilDiv (mass * 60) rate)) := rfl

/-- R113: what entering the slot leaves of a crushable lot. -/
theorem placeInSlot_chips {l : LotRecord} {m : Material} {c : ChipCopies} (h : l.content = .chips m c) (s : State) :
    placeInSlot l s = { s with
      crusher := { s.crusher with
        slot := some ⟨{ l with stage := .inCrusher }, 1000 * max 1 (min 3600 (ceilDiv (l.mass * 60) c.rate)), 0⟩
        awaited := none
        heldPurge := c.purge } } := by
  rw [placeInSlot, arrivalRemaining, h]
  simp only [sec_eq, feedTime_eq, h]

theorem placeInSlot_sludge {l : LotRecord} (h : l.content = .sludge) (s : State) :
    placeInSlot l s = { s with
      crusher := { s.crusher with
        slot := some ⟨{ l with stage := .inCrusher }, 1000 * s.line.tTransit, 0⟩
        awaited := none
        heldPurge := s.crusher.heldPurge } } := by
  rw [placeInSlot, arrivalRemaining, h]
  simp only [sec_eq, h]

/-- Settles O34, by the content of the lot and the state that it finds. -/
theorem lotArrival : Obligations.LotArrival := by
  unfold Obligations.LotArrival
  intro l s placed
  refine ⟨fun m c hchips => ?_, fun hsludge => ?_⟩
  · intro u
    have hplaced : placeInSlot l s = u := placeInSlot_chips hchips s
    have hslot : u.crusher.slot = some ⟨{ l with stage := .inCrusher }, _, 0⟩ := rfl
    have hnot := isSludge_chips hchips
    refine ⟨fun n hstate => ?_, fun hstate hstop => ?_, fun hidle hstop => ?_⟩
    · have hstate' : u.crusher.state = .idleRun n := hstate
      simp only [lotArrives, hplaced, actOnArrival, hstate', hnot]
      exact enterCrushing_eq hslot hchips
    · have hstate' : u.crusher.state = .stopped := hstate
      have hstop' : u.inSafeStop = false := hstop
      simp only [lotArrives, hplaced, actOnArrival, hstate', hstop', hnot]
      exact enterRunUp_of_speed (runUpSpeed_of_slot hslot hchips)
    · have hstate' : u.crusher.state = s.crusher.state := rfl
      have hstop' : u.inSafeStop = s.inSafeStop := rfl
      cases hstate : s.crusher.state with
      | idleRun n => exact absurd hstate (hidle n)
      | stopped => simp only [lotArrives, hplaced, actOnArrival, hstate', hstate, hstop', hstop hstate, if_true]
      | _ => simp only [lotArrives, hplaced, actOnArrival, hstate', hstate]
  · intro u
    have hplaced : placeInSlot l s = u := placeInSlot_sludge hsludge s
    have hyes := isSludge_sludge hsludge
    refine ⟨fun hstate hstop => ?_, fun hstop => ?_⟩
    · have hstate' : u.crusher.state = .stopped := hstate
      have hstop' : u.inSafeStop = false := hstop
      simp only [lotArrives, hplaced, actOnArrival, hstate', hstop', hyes]
      rfl
    · have hstate' : u.crusher.state = s.crusher.state := rfl
      have hstop' : u.inSafeStop = s.inSafeStop := rfl
      cases hstate : s.crusher.state with
      | idleRun n => simp only [lotArrives, hplaced, actOnArrival, hstate', hstate, hyes, if_true]
      | stopped => simp only [lotArrives, hplaced, actOnArrival, hstate', hstate, hstop', hstop hstate, if_true]
      | _ => simp only [lotArrives, hplaced, actOnArrival, hstate', hstate]

/-! ## The timers -/

/-- Settles O35, timer by timer, by the crusher state it finds. -/
theorem crusherTimers : Obligations.CrusherTimers := by
  unfold Obligations.CrusherTimers
  intro s hpowered become idling stopping
  have hidling : enterIdleRun s = idling := enterIdleRun_eq s
  have hstopping : enterStopped s = stopping := rfl
  refine ⟨fun n hstate => ⟨fun x m c hslot hchips => (running_powered _ s hpowered).trans ?_,
      fun hslot hawaited => (running_powered _ s hpowered).trans ?_,
      fun hslot hawaited => (running_powered _ s hpowered).trans ?_⟩,
    fun hother => (running_powered _ s hpowered).trans ?_,
    fun n f held hstate hchips hother => (running_powered _ s hpowered).trans ?_,
    fun hother => (running_powered _ s hpowered).trans ?_, fun n hstate => (running_powered _ s hpowered).trans ?_,
    fun hother => (running_powered _ s hpowered).trans ?_,
    fun n hstate => ⟨fun hslot => (running_powered _ s hpowered).trans ?_,
      fun x m c hslot hchips => (running_powered _ s hpowered).trans ?_⟩,
    fun hother => (running_powered _ s hpowered).trans ?_,
    fun n hstate x m c hslot hchips => (running_powered _ s hpowered).trans ?_,
    fun hother => (running_powered _ s hpowered).trans ?_⟩
  · have hends : runUpEnds s = enterCrushing s := by
      simp only [runUpEnds, hstate, hslot, isSludge_chips hchips, Bool.false_eq_true, if_false]
    rw [hends, enterCrushing_eq hslot hchips]
  · obtain ⟨a, ha⟩ := Option.ne_none_iff_exists'.mp hawaited
    simp only [runUpEnds, hstate, hslot, ha, Option.isSome_some, if_true, hidling]
  · simp only [runUpEnds, hstate, hslot, hawaited, hidling]
    rfl
  · cases hstate : s.crusher.state with
    | runUp n => exact absurd hstate (hother n)
    | _ => simp only [runUpEnds, hstate]
  · simp only [purgeEnds, hstate]
    by_cases hhead : ∃ l m c, s.headLot = some l ∧ l.content = .chips m c
    · obtain ⟨l, m, c, hl, hc⟩ := hhead
      rw [finishPurge_of_head hl hc, hchips l m c hl hc]
    · have hnone : ∀ l m c, s.headLot = some l → l.content ≠ .chips m c :=
        fun l m c hl hc => hhead ⟨l, m, c, hl, hc⟩
      rw [finishPurge_of_other hnone, hother hnone]
  · cases hstate : s.crusher.state with
    | purge n f => exact absurd hstate (hother n f)
    | _ => simp only [purgeEnds, hstate]
  · simp only [idleEnds, hstate]
    rw [enterRunDown_eq]
  · cases hstate : s.crusher.state with
    | idleRun n => exact absurd hstate (hother n)
    | _ => simp only [idleEnds, hstate]
  · simp only [runDownEnds, hstate, hslot, hstopping]
  · have hends : runDownEnds s = enterRunUp (enterStopped s) := by
      simp only [runDownEnds, hstate, hslot, isSludge_chips hchips, Bool.false_eq_true, if_false]
    have hspeed : (enterStopped s).runUpSpeed = some c.speed := runUpSpeed_of_slot (s := enterStopped s) hslot hchips
    rw [hends, enterRunUp_of_speed hspeed]
    rfl
  · cases hstate : s.crusher.state with
    | runDown n => exact absurd hstate (hother n)
    | _ => simp only [runDownEnds, hstate]
  · simp only [reverseEnds, hstate]
    rw [enterRunUp_of_speed (runUpSpeed_of_slot hslot hchips)]
  · cases hstate : s.crusher.state with
    | reversing n => exact absurd hstate (hother n)
    | _ => simp only [reverseEnds, hstate]

/-! ## The ends of a lot -/

theorem addMass_eq (a b : Nat) : addMass a b = min 65535 (a + b) := rfl

/-- Settles O36, by the state and the source of the lot. -/
theorem lotEnds : Obligations.LotEnds := by
  unfold Obligations.LotEnds
  intro s hpowered
  refine ⟨fun x hstate hslot => ?_, fun hother => (running_powered _ s hpowered).trans ?_,
    fun x hstate hslot => (running_powered _ s hpowered).trans ?_,
    fun hother => (running_powered _ s hpowered).trans ?_⟩
  · intro f u
    have hends : feedEnds s = endOfFeed x s := by simp only [feedEnds, hstate, hslot]
    refine ⟨fun st hsource => (running_powered _ s hpowered).trans ?_,
      fun hsource => (running_powered _ s hpowered).trans ?_⟩
    · rw [hends, endOfFeed, enterIdleRun_eq]
      simp only [reportLot, hsource]
      rfl
    · rw [hends, endOfFeed, enterIdleRun_eq]
      simp only [reportLot, hsource]
      rfl
  · unfold feedEnds
    split
    · next x hstate hslot => simp [hstate, hslot] at hother
    · rfl
  · have hends : transitEnds s = endOfTransit x s := by simp only [transitEnds, hstate, hslot]
    rw [hends]
    rfl
  · unfold transitEnds
    split
    · next x hstate hslot => simp [hstate, hslot] at hother
    · rfl

/-! ## Pulses and windows -/

theorem windowEnds_of_counting {s : State} {n ppr left : Nat} (h : s.measure.shaft = .counting n ppr left) :
    windowEnds s = windowDone (n * 120 / ppr)
      { s with measure := { s.measure with shaft := .counting 0 s.line.ppr 500 } } := by
  simp only [windowEnds, h]
  rfl

theorem windowDone_of_other {s : State} (h : s.crusher.state ≠ .crushing ∨ s.crusher.slot = none) (rpm : Nat) :
    windowDone rpm s = s := by
  unfold windowDone
  split
  · next x hstate hslot => simp [hstate, hslot] at h
  · rfl

theorem windowDone_of_crushing {s : State} {x : SlotLot} {m : Material} {c : ChipCopies}
    (hstate : s.crusher.state = .crushing) (hslot : s.crusher.slot = some x) (hchips : x.lot.content = .chips m c)
    (rpm : Nat) : windowDone rpm s = testWindow rpm x c s := by
  simp only [windowDone, hstate, hslot, hchips]

theorem enterReversing_eq {s : State} {x : SlotLot} {m : Material} {c : ChipCopies} (hslot : s.crusher.slot = some x)
    (hchips : x.lot.content = .chips m c) : enterReversing s = driveCrusher .reverse (some c.speed)
      { s with crusher := { s.crusher with state := .reversing (1000 * s.line.tRev) } } := by
  rw [enterReversing, sec_eq, hslot, Option.bind_some, speed?_chips hchips]
  rfl

/-- Settles O37, pulse by pulse, window by window. -/
theorem pulsesAndDrive : Obligations.PulsesAndDrive := by
  unfold Obligations.PulsesAndDrive
  refine ⟨fun s hpowered => (running_powered _ s hpowered).trans ?_, fun s hpowered => ⟨fun hidle => ⟨?_, ?_⟩,
    fun n ppr left hshaft => ⟨?_, ?_⟩⟩, driveCrusher_eq, fun d => ?_⟩
  · unfold chuteCounts
    split_ifs <;> rfl
  · exact (running_powered _ s hpowered).trans (by simp only [shaftPulse, hidle])
  · exact (running_powered _ s hpowered).trans (by simp only [windowEnds, hidle])
  · refine (running_powered _ s hpowered).trans ?_
    simp only [shaftPulse, hshaft]
    rfl
  · have hexec : exec .shaftWindowEnd s = .next (windowEnds s) := running_powered _ s hpowered
    rw [hexec, windowEnds_of_counting hshaft]
    intro w count
    refine ⟨fun hother => by rw [windowDone_of_other (s := w) hother], fun x m c hstate hslot hchips => ?_⟩
    rw [windowDone_of_crushing (s := w) hstate hslot hchips]
    intro rpm jammed
    have hjam : jammed = postHall .jam { w with
        crusher := { s.crusher with stallCount := 0, slot := some { x with jams := x.jams + 1 } } } := rfl
    have hjslot : jammed.crusher.slot = some { x with jams := x.jams + 1 } := by rw [hjam, postHall_crusher]
    refine ⟨fun hturns => ?_, fun hstalls hcount => ?_, fun hstalls hcount hretry => ?_,
      fun hstalls hcount hretry => ?_⟩
    · have hgood : ¬ isStalled rpm c = true := fun h => absurd (of_decide_eq_true h) (Nat.not_lt.mpr hturns)
      rw [testWindow, if_neg hgood]
    · have hbad : isStalled rpm c = true := decide_eq_true hstalls
      have hless : w.crusher.stallCount + 1 < 3 := Nat.add_lt_add_right hcount 1
      rw [testWindow, if_pos hbad, if_pos hless]
    · have hbad : isStalled rpm c = true := decide_eq_true hstalls
      have hmore : ¬ w.crusher.stallCount + 1 < 3 := Nat.not_lt.mpr (Nat.add_le_add_right hcount 1)
      rw [testWindow, if_pos hbad, if_neg hmore, jam, if_pos (by exact hretry)]
      have hline : jammed.line = s.line := by rw [hjam]; simp [State.line, w]
      rw [← hline, ← enterReversing_eq hjslot hchips]
    · have hbad : isStalled rpm c = true := decide_eq_true hstalls
      have hmore : ¬ w.crusher.stallCount + 1 < 3 := Nat.not_lt.mpr (Nat.add_le_add_right hcount 1)
      rw [testWindow, if_pos hbad, if_neg hmore, jam, if_neg (by exact Nat.not_le.mpr (Nat.lt_succ_of_le hretry))]
      rfl
  · have hforward : d.forwardContact = true ↔ d.direction = .forward := decide_eq_true_iff
    have hreverse : d.reverseContact = true ↔ d.direction = .reverse := decide_eq_true_iff
    refine ⟨hforward, hreverse, fun ⟨hf, hr⟩ => ?_, fun hstopped => ?_, fun hruns => ?_⟩
    · cases (hforward.mp hf).symm.trans (hreverse.mp hr)
    · simp only [Drive.speedOutput, hstopped]
    · cases hd : d.direction with
      | stopped => exact absurd hd hruns
      | forward => simp only [Drive.speedOutput, hd]
      | reverse => simp only [Drive.speedOutput, hd]

/-! ## CRUSHER_CLEAR and BIN_EMPTIED -/

theorem ruleCrusherClear_unknown {a : Byte} (h1 : a ≠ 1#8) (h2 : a ≠ 2#8) (s : State) :
    ruleCrusherClear [a] s = bare .refusedRange s := by
  have hcode : clearActionOfCode a.toNat = none := by
    unfold clearActionOfCode
    split
    · next h => exact absurd (BitVec.eq_of_toNat_eq h) h1
    · next h => exact absurd (BitVec.eq_of_toNat_eq h) h2
    · rfl
  simp only [ruleCrusherClear, byteAt_singleton, hcode]

theorem ruleCrusherClear_notBlocked {a : Byte} (ha : a = 1#8 ∨ a = 2#8) {s : State} (h : s.crusher.state ≠ .blocked) :
    ruleCrusherClear [a] s = bare .refusedState s := by
  have hcode : ∃ x, clearActionOfCode (byteAt [a] 0) = some x := by
    rcases ha with rfl | rfl
    · exact ⟨.retry, rfl⟩
    · exact ⟨.reject, rfl⟩
  obtain ⟨x, hx⟩ := hcode
  simp only [ruleCrusherClear, hx]
  split
  · next y hstate hslot => exact absurd hstate h
  · rfl

theorem ruleCrusherClear_retry {s : State} {x : SlotLot} (hstate : s.crusher.state = .blocked)
    (hslot : s.crusher.slot = some x) : ruleCrusherClear [1#8] s = bare .done (clearRetry x s) := by
  have hcode : clearActionOfCode (byteAt [1#8] 0) = some .retry := rfl
  simp only [ruleCrusherClear, hcode, hstate, hslot]

theorem ruleCrusherClear_reject {s : State} {x : SlotLot} (hstate : s.crusher.state = .blocked)
    (hslot : s.crusher.slot = some x) : ruleCrusherClear [2#8] s = bare .done (clearReject x s) := by
  have hcode : clearActionOfCode (byteAt [2#8] 0) = some .reject := rfl
  simp only [ruleCrusherClear, hcode, hstate, hslot]

theorem ruleBinEmptied_unknown {b : Byte} (h : b = 0#8 ∨ 5 < b.toNat) (s : State) :
    ruleBinEmptied [b] s = bare .refusedRange s := by
  have hcode : binOfCode b.toNat = none := by
    rcases h with rfl | h
    · rfl
    · obtain ⟨m, hm⟩ := Nat.exists_eq_add_of_lt h
      rw [hm, show 5 + m + 1 = m + 6 by omega]
      rfl
  simp only [ruleBinEmptied, byteAt_singleton, hcode]

/-- Settles O38, by the operand and the state of the crusher. -/
theorem clearRequests : Obligations.ClearRequests := by
  unfold Obligations.ClearRequests
  refine ⟨fun tag a s h => ⟨_, running_of_admits h _,
    fun h1 h2 => answered_bare h (ruleCrusherClear_unknown h1 h2 s) rfl,
    fun ha hstate => answered_bare h (ruleCrusherClear_notBlocked ha hstate) rfl, fun x m c hstate hslot hchips => ?_⟩,
    fun tag b s h => ?_⟩
  · intro cleared u
    refine ⟨fun ha hstop => ?_, fun ha hstop => ?_, fun st ha hsource => ?_, fun ha hsource => ?_⟩
    · subst ha
      refine answered_bare h ((ruleCrusherClear_retry hstate hslot).trans (congrArg _ ?_)) rfl
      rw [clearRetry, if_neg (by simp [hstop])]
      exact enterRunUp_of_speed (runUpSpeed_of_slot (s := setSlot (some { x with jams := 0 }) s) rfl hchips)
    · subst ha
      refine answered_bare h ((ruleCrusherClear_retry hstate hslot).trans (congrArg _ ?_)) rfl
      rw [clearRetry, if_pos hstop]
      rfl
    · subst ha
      refine answered_bare h ((ruleCrusherClear_reject hstate hslot).trans (congrArg _ ?_)) (by simp [u])
      rw [clearReject]
      simp only [reportLot, hsource]
      rfl
    · subst ha
      refine answered_bare h ((ruleCrusherClear_reject hstate hslot).trans (congrArg _ ?_)) (by simp [u])
      rw [clearReject]
      simp only [reportLot, hsource]
      rfl
  · intro emptied fills
    have hports : ∀ f r, (emptied f r).ports = s.ports := fun f r => by simp [emptied]
    refine ⟨_, running_of_admits h _, fun hb => ?_, fun hb => ?_, fun hb => ?_, fun hb => ?_, fun hb => ?_,
      fun hb => answered_bare h (ruleBinEmptied_unknown hb s) rfl⟩
    all_goals
      subst hb
      exact answered_bare h rfl (hports _ _)

end Sys2Proof.Machine
end

section
/-! The filter sequencer: requests, fleece, timers and the DP sample (O39 to O41, O50). -/

namespace Sys2Proof.Machine

/-! ## Starts of a backwash -/

theorem gapElapsed_iff (s : State) : s.gapElapsed = true ↔ 1000 * s.line.bwGap ≤ s.filter.gap := by
  rw [State.gapElapsed, decide_eq_true_eq, sec_eq]

theorem backwashAllowed_iff (s : State) :
    s.backwashAllowed = true ↔ s.filter.troughFull = false ∧ s.inSafeStop = false := by
  simp [State.backwashAllowed]

theorem pendingMayStart_iff (s : State) :
    (decide (s.filter.state = .filtering) && s.filter.pending && s.gapElapsed && s.backwashAllowed) = true ↔
      s.filter.state = .filtering ∧ s.filter.pending = true ∧ 1000 * s.line.bwGap ≤ s.filter.gap ∧
        s.filter.troughFull = false ∧ s.inSafeStop = false := by
  simp only [Bool.and_eq_true, gapElapsed_iff, backwashAllowed_iff, decide_eq_true_eq, and_assoc]

theorem startBackwash_eq (s : State) : startBackwash s = recompute { s with
    filter := { s.filter with state := .backwash (1000 * s.line.bwTime), pending := false }
    drive := { s.drive with spray := .on true s.line.tSpray }
    supply := { s.supply with backwashDp := if s.supply.dpMark then s.supply.dp else s.line.dpTrigger } } := by
  rw [← sec_eq]
  rfl

theorem startBackwash_ports (s : State) : (startBackwash s).ports = s.ports := by simp [startBackwash_eq]

/-! ## BACKWASH_NOW and INDEX_NOW -/

theorem startFleeceIndex_eq (s : State) : startFleeceIndex s = { s with
    filter := { s.filter with state := .indexing s.line.lIdx 0 5000 }
    drive := { s.drive with fleeceMotor := true } } := rfl

theorem fleeceReady_of_known {s : State} {f : Nat} (hfleece : s.filter.fleece = some f) (hleft : 0 < f)
    (hstop : s.inSafeStop = false) : s.fleeceReady = true := by
  simp [State.fleeceReady, hfleece, hleft, hstop]

theorem fleeceReady_of_none {s : State}
    (h : s.filter.fleece = none ∨ s.filter.fleece = some 0 ∨ s.inSafeStop = true) : s.fleeceReady = false := by
  rcases h with h | h | h <;> simp [State.fleeceReady, h]

/-- Settles O39, request by request, by the filter state. -/
theorem filterRequests : Obligations.FilterRequests := by
  unfold Obligations.FilterRequests
  intro tag s flagged
  refine ⟨fun h => ⟨_, running_of_admits h _, fun hstate htrough hstop => ?_, fun hstate hwait => ?_,
    fun x hstate => ?_,
    fun x hstate => ?_, fun x y z hstate => ?_⟩, fun h => ⟨_, running_of_admits h _,
    fun f hstate hfleece hleft hstop => ?_, fun hstate hnone => ?_, fun hstate => ?_⟩⟩
  · refine answered_bare h ?_ (startBackwash_ports s)
    simp only [ruleBackwashNow, hstate, (backwashAllowed_iff s).mpr ⟨htrough, hstop⟩, if_true]
  · have hnot : ¬ s.backwashAllowed = true := by
      rw [backwashAllowed_iff]
      rcases hwait with hfull | hstop
      · simp [hfull]
      · simp [hstop]
    refine answered_bare h (u := flagged) ?_ rfl
    simp only [ruleBackwashNow, hstate, if_neg hnot]
    rfl
  · refine answered_bare h (u := flagged) ?_ rfl
    simp only [ruleBackwashNow, hstate]
    rfl
  · exact answered_bare h (by simp only [ruleBackwashNow, hstate]) rfl
  · exact answered_bare h (by simp only [ruleBackwashNow, hstate]) rfl
  · refine answered_bare h (u := startFleeceIndex s) ?_ rfl
    simp only [ruleIndexNow, hstate, fleeceReady_of_known hfleece hleft hstop, if_true]
  · refine answered_bare h ?_ rfl
    simp only [ruleIndexNow, hstate, fleeceReady_of_none hnone]
    rfl
  · refine answered_bare h ?_ rfl
    cases hs : s.filter.state with
    | filtering => exact absurd hs hstate
    | _ => simp only [ruleIndexNow, hs]

/-! ## The fleece -/

theorem endFleeceIndex_eq (s : State) : endFleeceIndex s = tryPendingBackwash { s with
    filter := { s.filter with state := .filtering }, drive := { s.drive with fleeceMotor := false } } := rfl

theorem loadFleece_eq (n : Nat) (s : State) : loadFleece n s =
    if n = 0 ∧ s.filter.state.isIndexing = true then
      endFleeceIndex { s with filter := { s.filter with fleece := some n } }
    else { s with filter := { s.filter with fleece := some n } } := by
  cases hs : s.filter.state <;> simp [loadFleece, hs, FilterState.isIndexing]

theorem ruleFleeceLoaded_eq (payload : List Byte) (s : State) : ruleFleeceLoaded payload s =
    ⟨loadFleece (min 30000 (u16At payload 0)) s,
      if min 30000 (u16At payload 0) = u16At payload 0 then .done else .clamped,
      u16 (min 30000 (u16At payload 0))⟩ := rfl

theorem fleecePulse_of_indexing {s : State} {length metered stall : Nat}
    (h : s.filter.state = .indexing length metered stall) : fleecePulse s = meterPulse length metered s := by
  simp only [fleecePulse, h]

theorem fleeceStalls_of_indexing {s : State} {length metered stall : Nat}
    (h : s.filter.state = .indexing length metered stall) :
    fleeceStalls s = endFleeceIndex (postHall .fleeceStall s) := by
  simp only [fleeceStalls, h]

/-- R51: what a pulse makes of the metered length and the fleece, before its events and its end. -/
def pulsed (length metered : Nat) (f : Option Nat) (s : State) : State :=
  { s with filter := { s.filter with state := .indexing length (metered + 1) 5000, fleece := f } }

theorem meterPulse_unknown {s : State} (h : s.filter.fleece = none) (length metered : Nat) :
    meterPulse length metered s =
      if length ≤ metered + 1 then endFleeceIndex (pulsed length metered none s) else pulsed length metered none s := by
  simp only [meterPulse, h, fleeceAfterPulse, Option.map_none, postFleeceLow]
  rfl

/-- R53: FLEECE_LOW by the pulse that takes the fleece below Lwarn, FLEECE_OUT by the one that takes it to 0. -/
theorem meterPulse_known {s : State} {n : Nat} (h : s.filter.fleece = some n) (length metered : Nat) :
    meterPulse length metered s =
      (let low : State := if s.line.lWarn ≤ n ∧ n - 1 < s.line.lWarn then
          postHall .fleeceLow (pulsed length metered (some (n - 1)) s) else pulsed length metered (some (n - 1)) s
        if n ≤ 1 then endFleeceIndex (postHall .fleeceOut low)
        else if length ≤ metered + 1 then endFleeceIndex low else low) := by
  have hout : (some (n - 1) = some 0) = (n ≤ 1) := by
    rw [Option.some_inj, eq_iff_iff]
    omega
  simp only [meterPulse, h, fleeceAfterPulse, Option.map_some, postFleeceLow, hout, Bool.and_eq_true, decide_eq_true_eq]
  rfl

/-- Settles O40, by the filter state and what the fleece has left. -/
theorem fleece : Obligations.Fleece := by
  unfold Obligations.Fleece
  intro tag payload s left
  have hleft : ∀ u, endFleeceIndex u = left u := endFleeceIndex_eq
  refine ⟨fun h => ⟨_, running_of_admits h _, ?_⟩, fun hpowered length metered stall hstate => ?_,
    fun hpowered hother => ?_⟩
  · intro n u result
    have hrule : ruleFleeceLoaded payload s = ⟨loadFleece n s, result, u16 n⟩ := ruleFleeceLoaded_eq payload s
    rw [loadFleece_eq, hleft] at hrule
    refine ⟨fun hzero x y z hindexing => ?_, fun hother => ?_⟩
    · rw [if_pos ⟨hzero, by simp [hindexing, FilterState.isIndexing]⟩] at hrule
      exact answered h hrule (by simp only [left, tryPendingBackwash_frame, u])
    · rw [if_neg fun ⟨hzero, hindexing⟩ => by
        obtain ⟨x, y, z, hx⟩ := (FilterState.isIndexing_iff _).mp hindexing
        rcases hother with hn | hno
        · exact hn hzero
        · exact hno x y z hx] at hrule
      exact answered h hrule rfl
  · have hpulse : exec .fleeceMeterPulse s = .next (meterPulse length metered s) :=
      (running_powered _ s hpowered).trans (by rw [fleecePulse_of_indexing hstate])
    have hstall : exec .fleeceStallExpiry s = .next (endFleeceIndex (postHall .fleeceStall s)) :=
      (running_powered _ s hpowered).trans (by rw [fleeceStalls_of_indexing hstate])
    rw [hpulse, hstall, hleft]
    refine ⟨rfl, ?_⟩
    intro pulse
    have hpulsed : ∀ f, pulsed length metered f s = pulse f := fun _ => rfl
    refine ⟨fun hnone hdone => ?_, fun hnone hmore => ?_, fun n hn => ?_⟩
    · rw [meterPulse_unknown hnone, if_pos hdone, hleft, hpulsed]
    · rw [meterPulse_unknown hnone, if_neg (Nat.not_le.mpr hmore), hpulsed]
    · intro low
      rw [meterPulse_known hn]
      simp only [hleft, hpulsed]
      refine ⟨fun hout => ?_, fun hsome hdone => ?_, fun hsome hmore => ?_⟩
      · rw [if_pos hout]
      · rw [if_neg (Nat.not_le.mpr hsome), if_pos hdone]
      · rw [if_neg (Nat.not_le.mpr hsome), if_neg (Nat.not_le.mpr hmore)]
  · refine ⟨(running_powered _ s hpowered).trans ?_, (running_powered _ s hpowered).trans ?_⟩
    · cases hs : s.filter.state with
      | indexing x y z => exact absurd hs (hother x y z)
      | _ => simp only [fleecePulse, hs]
    · cases hs : s.filter.state with
      | indexing x y z => exact absurd hs (hother x y z)
      | _ => simp only [fleeceStalls, hs]

/-! ## The timers -/

/-- Settles O41, timer by timer. -/
theorem filterTimers : Obligations.FilterTimers := by
  unfold Obligations.FilterTimers
  refine ⟨fun s hpowered => ?_, startBackwash_eq⟩
  intro mayStart reached
  have hgap : gapEnds s = tryPendingBackwash reached := by rw [gapEnds, sec_eq]
  refine ⟨fun n hstate => (running_powered _ s hpowered).trans ?_,
    fun hother => (running_powered _ s hpowered).trans ?_,
    fun n hstate => (running_powered _ s hpowered).trans ?_, fun hother => (running_powered _ s hpowered).trans ?_,
    fun hmay => (running_powered _ s hpowered).trans ?_, fun hmay => (running_powered _ s hpowered).trans ?_,
    fun hmay => (running_powered _ s hpowered).trans ?_, fun hmay => (running_powered _ s hpowered).trans ?_⟩
  · simp only [backwashEnds, hstate, sec_eq]
    rfl
  · cases hs : s.filter.state with
    | backwash n => exact absurd hs (hother n)
    | _ => simp only [backwashEnds, hs]
  · simp only [settleEnds, hstate]
    rfl
  · rcases hs : s.filter.state with _ | _ | ⟨_ | n⟩ | _
    · simp only [settleEnds, hs]
    · simp only [settleEnds, hs]
    · simp only [settleEnds, hs]
    · exact absurd hs (hother n)
    · simp only [settleEnds, hs]
  · rw [hgap, tryPendingBackwash, if_pos ((pendingMayStart_iff reached).mpr hmay)]
  · rw [hgap, tryPendingBackwash, if_neg fun h => hmay ((pendingMayStart_iff reached).mp h)]
  · rw [tryPendingBackwash, if_pos ((pendingMayStart_iff s).mpr hmay)]
  · rw [tryPendingBackwash, if_neg fun h => hmay ((pendingMayStart_iff s).mp h)]

/-! ## The DP sample -/

theorem degraded_iff (n : Nat) : conditionOf n = .degraded ↔ 21 ≤ n := by
  have hlimit : Config.faultLimit = 21 := rfl
  rw [conditionOf, hlimit]
  split_ifs <;> simp <;> omega

theorem good_iff (n : Nat) : conditionOf n = .good ↔ n = 0 := by
  rw [conditionOf]
  split_ifs <;> simp_all

theorem testTrigger_eq (s : State) : testTrigger s =
    if s.line.dpTrigger ≤ s.supply.dp ∧ s.supply.dpFaults < 21 then
      if (1000 * s.line.bwGap ≤ s.filter.gap ∧ s.filter.troughFull = false) ∧ s.inSafeStop = false then startBackwash s
      else deferBackwash s
    else s := by
  rw [testTrigger]
  simp only [Bool.and_eq_true, decide_eq_true_eq, ne_eq, degraded_iff, Nat.not_le, gapElapsed_iff, backwashAllowed_iff,
    and_assoc]

/-- R50: the settle decision in its order. -/
theorem settleDecision_eq (s : State) : settleDecision s =
    (let left := recompute { s with filter := { s.filter with state := .filtering } }
      if s.inSafeStop = true then left
      else if s.filter.pending = true ∧ 1000 * s.line.bwGap ≤ s.filter.gap ∧ s.filter.troughFull = false then
        startBackwash left
      else if 21 ≤ s.supply.dpFaults then left
      else if s.line.dpIndex ≤ s.supply.dp then
        if s.filter.fleece = some 0 then postHall .fleeceOut left else recompute (startFleeceIndex s)
      else left) := by
  have hpending : (s.filter.pending && !s.filter.troughFull && s.gapElapsed) = true ↔
      s.filter.pending = true ∧ 1000 * s.line.bwGap ≤ s.filter.gap ∧ s.filter.troughFull = false := by
    simp only [Bool.and_eq_true, gapElapsed_iff, Bool.not_eq_true', and_assoc]
    tauto
  simp only [settleDecision, hpending, degraded_iff]
  rfl

/-- Settles O50, by the filter state and the order of the decision. -/
theorem filterSample : Obligations.FilterSample := by
  unfold Obligations.FilterSample
  intro s may left
  refine ⟨fun hstate => ?_, fun hstate => ?_, fun hother => ?_⟩
  · intro triggered
    have hsample : filterDpSample s = testTrigger s := by simp only [filterDpSample, hstate]
    rw [hsample, testTrigger_eq]
    refine ⟨fun hnot => if_neg hnot, fun htrigger hmay hstop => ?_, fun htrigger hmay hpending => ?_,
      fun htrigger hmay hpending => ?_⟩
    · rw [if_pos htrigger, if_pos ⟨hmay, hstop⟩]
    · rw [if_pos htrigger, if_neg hmay, deferBackwash, if_pos hpending]
      have hsame : setPendingFlag s.filter.pending s = s := rfl
      rwa [hpending] at hsame
    · rw [if_pos htrigger, if_neg hmay, deferBackwash, if_neg (by simp [hpending])]
      unfold postHall
      split_ifs <;> rfl
  · have hsample : filterDpSample s = settleDecision s := by simp only [filterDpSample, hstate]
    rw [hsample, settleDecision_eq]
    refine ⟨fun hstop => if_pos hstop, fun hstop hpending hmay => ?_, fun hstop hnot => ?_⟩
    · rw [if_neg (by simp [hstop]), if_pos ⟨hpending, hmay⟩]
    · rw [if_neg (by simp [hstop]), if_neg hnot]
      refine ⟨fun hfaults => if_pos hfaults, fun hfaults hdp => ?_, fun hfaults hdp hnone => ?_,
        fun hfaults hdp hsome => ?_⟩
      · rw [if_neg (Nat.not_le.mpr hfaults), if_neg (Nat.not_le.mpr hdp)]
      · rw [if_neg (Nat.not_le.mpr hfaults), if_pos hdp, if_pos hnone]
      · rw [if_neg (Nat.not_le.mpr hfaults), if_pos hdp, if_neg hsome, startFleeceIndex_eq]
  · rcases hother with ⟨n, h⟩ | ⟨n, h⟩ | ⟨x, y, z, h⟩ <;> simp only [filterDpSample, h]

end Sys2Proof.Machine
end

section
/-! Level bands and conversions (O47, O48). -/

namespace Sys2Proof.Machine

/-! ## Level bands -/

/-- R32: the bands from CRITICAL up. -/
def bandRank : Band → Nat
  | .critical => 0
  | .low => 1
  | .normal => 2
  | .high => 3

/-- R32: the edges for a rise. -/
def raisedEdges (l : LineParams) : LineParams :=
  { l with lMin := l.lMin + l.hyst, lLo := l.lLo + l.hyst, lHi := l.lHi + l.hyst }

theorem bandDown_eq {l : LineParams} (hlo : l.lMin < l.lLo) (hhi : l.lLo < l.lHi) (level : Nat) (b : Band) :
    bandDown l level b = if bandRank (firstBand l level) < bandRank b then firstBand l level else b := by
  unfold firstBand
  cases b <;> simp only [bandDown] <;> split_ifs <;> simp_all [bandRank] <;> omega

theorem bandUp_eq {l : LineParams} (hlo : l.lMin < l.lLo) (hhi : l.lLo < l.lHi) (level : Nat) (b : Band) :
    bandUp l level b = if bandRank b < bandRank (firstBand (raisedEdges l) level) then firstBand (raisedEdges l) level
      else b := by
  unfold firstBand raisedEdges
  cases b <;> simp only [bandUp] <;> split_ifs <;> simp_all [bandRank] <;> omega

theorem bandFrom_of_down {l : LineParams} (hlo : l.lMin < l.lLo) (hhi : l.lLo < l.lHi) {level : Nat} {b : Band}
    (h : bandRank (firstBand l level) < bandRank b) : bandFrom l level b = firstBand l level := by
  have hne : firstBand l level ≠ b := fun heq => by simp [heq] at h
  rw [bandFrom, bandDown_eq hlo hhi, if_pos h, if_neg hne]

theorem bandFrom_of_up {l : LineParams} (hlo : l.lMin < l.lLo) (hhi : l.lLo < l.lHi) {level : Nat} {b : Band}
    (h : bandRank b ≤ bandRank (firstBand l level)) : bandFrom l level b =
      if bandRank b < bandRank (firstBand (raisedEdges l) level) then firstBand (raisedEdges l) level else b := by
  rw [bandFrom, bandDown_eq hlo hhi, if_neg (Nat.not_lt.mpr h), if_pos rfl, bandUp_eq hlo hhi]

theorem setBand_eq (b : Band) (s : State) : setBand b s =
    if b = .critical ∧ s.supply.band ≠ some .critical then
      postHall .levelCritical { s with supply := { s.supply with band := some b } }
    else { s with supply := { s.supply with band := some b } } := by
  simp [setBand]

/-- Settles O48, from the moves down by the edges and up by the raised edges. -/
theorem levelBands : Obligations.LevelBands := by
  unfold Obligations.LevelBands
  intro l level b hlo hhi rank first raised
  have hrank : rank = bandRank := by
    funext x
    cases x <;> rfl
  have hraised : raised = firstBand (raisedEdges l) level := rfl
  rw [hrank]
  refine ⟨?_, ?_, ?_, ?_, bandFrom_of_down hlo hhi, fun hdown hup => ?_, fun hdown hup => ?_, fun s => ⟨fun hnone => ?_,
    fun x hband hgood => ?_⟩⟩
  · simp only [first, firstBand]
    split_ifs <;> simp <;> omega
  · simp only [first, firstBand]
    split_ifs <;> simp <;> omega
  · simp only [first, firstBand]
    split_ifs <;> simp <;> omega
  · simp only [first, firstBand]
    split_ifs <;> simp <;> omega
  · exact (bandFrom_of_up hlo hhi hdown).trans (if_neg (Nat.not_lt.mpr hup))
  · exact (bandFrom_of_up hlo hhi hdown).trans (if_pos hup)
  · unfold reevaluateBand
    rcases hnone with hnone | hfaults
    · simp only [hnone]
    · cases s.supply.band with
      | none => rfl
      | some x => exact if_neg fun hgood => hfaults ((good_iff _).mp hgood)
  · intro y u
    simp only [reevaluateBand, hband, if_pos ((good_iff _).mpr hgood), setBand_eq, ne_eq, Option.some_inj]
    rfl

/-! ## Conversions -/

theorem nextFaults_eq (nothingHeld : Bool) (n : Nat) :
    nextFaults nothingHeld n = if nothingHeld = true ∧ n = 0 then 21 else min 21 (n + 1) := by
  have hlimit : Config.faultLimit = 21 := rfl
  simp [nextFaults, hlimit]

theorem onRail_iff (raw : BitVec 12) : onRail raw = true ↔ ¬ (raw ≠ 0#12 ∧ raw ≠ 4095#12) := by
  simp only [onRail, Bool.or_eq_true, decide_eq_true_eq]
  tauto

/-- R138, R139: the next conversion takes the calibration of a working copy that the sample leaves as it was. -/
theorem startConversion_eq {s u : State} (h : u.store = s.store) (c : Analog) : startConversion c u = { u with
    measure := { u.measure with conversion := ⟨c, s.line.calibration c, 0⟩ } } := by
  have hline : u.line = s.line := by rw [State.line, State.line, h]
  rw [startConversion, hline]

theorem conversionCompletes_dp {s : State} (h : s.measure.conversion.channel = .dp) (raw : BitVec 12) :
    conversionCompletes raw s = startConversion .level (dpCompletes raw s.measure.conversion.calibration s) := by
  simp only [conversionCompletes, h]
  rfl

theorem conversionCompletes_level {s : State} (h : s.measure.conversion.channel = .level) (raw : BitVec 12) :
    conversionCompletes raw s = startConversion .dp (levelCompletes raw s.measure.conversion.calibration s) := by
  simp only [conversionCompletes, h]
  rfl

theorem dpCompletes_store (raw : BitVec 12) (k : Int) (s : State) : (dpCompletes raw k s).store = s.store := by
  unfold dpCompletes
  split_ifs <;> simp

theorem levelCompletes_store (raw : BitVec 12) (k : Int) (s : State) : (levelCompletes raw k s).store = s.store := by
  unfold levelCompletes
  split_ifs <;> simp

/-- R28: the band that a good sample gives. -/
theorem bandAfterLevel_eq (s : State) (level : Nat) : bandAfterLevel s level =
    match s.supply.band with
    | none => firstBand s.line level
    | some x => bandFrom s.line level (if 21 ≤ s.supply.levelFaults then .low else x) := by
  unfold bandAfterLevel
  cases s.supply.band with
  | none => rfl
  | some x =>
    simp only [degraded_iff]
    split_ifs <;> rfl

/-- Settles O47, by the channel and the raw code. -/
theorem conversions : Obligations.Conversions := by
  unfold Obligations.Conversions
  intro raw s hpowered good code sup after faulted
  have hexec : exec (.conversionCompletion raw) s = .next (conversionCompletes raw s) := running_powered _ s hpowered
  have hfaulted : ∀ u n, postFaultStart n u = faulted u n := fun _ _ => rfl
  rw [hexec]
  refine ⟨fun hchannel => ?_, fun hchannel => ?_⟩
  · rw [conversionCompletes_dp hchannel, startConversion_eq (dpCompletes_store raw _ s)]
    refine ⟨fun hgood => ?_, fun hbad n hn => ?_⟩
    · rw [dpCompletes, if_neg fun h => (onRail_iff raw).mp h hgood]
      rfl
    · have hcount : nextFaults (!s.supply.dpMark) s.supply.dpFaults = n := by
        rw [nextFaults_eq, hn]
        exact if_congr (by rw [Bool.not_eq_true']) rfl rfl
      rw [dpCompletes, if_pos ((onRail_iff raw).mpr hbad), takeFaultedDp]
      simp only [hcount, hfaulted]
      rfl
  · rw [conversionCompletes_level hchannel, startConversion_eq (levelCompletes_store raw _ s)]
    refine ⟨fun hgood b hb => ?_, fun hbad n hn => ?_⟩
    · intro u
      have hband : bandAfterLevel s (code * s.line.lFull / 4096) = b := by
        rw [bandAfterLevel_eq, hb] <;> rfl
      have hsample :
          takeGoodLevel (sampleValue .level s.line.lFull (correctedCode raw s.measure.conversion.calibration)) s =
          if b = .critical ∧ sup.band ≠ some .critical then postHall .levelCritical u else u := by
        rw [takeGoodLevel, setBand_eq, show bandAfterLevel s (sampleValue .level s.line.lFull
          (correctedCode raw s.measure.conversion.calibration)) = b from hband]
        rfl
      rw [levelCompletes, if_neg fun h => (onRail_iff raw).mp h hgood, hsample]
      rfl
    · have hcount : nextFaults s.supply.band.isNone s.supply.levelFaults = n := by
        rw [nextFaults_eq, hn]
        exact if_congr (by rw [Option.isNone_iff_eq_none]) rfl rfl
      rw [levelCompletes, if_pos ((onRail_iff raw).mpr hbad), takeFaultedLevel]
      simp only [hcount, hfaulted]
      rfl

end Sys2Proof.Machine
end

section
/-! Valve outputs, stop causes and the exit from safe stop (O51, O52, O54). -/

namespace Sys2Proof.Machine

/-! ## Valve outputs -/

theorem holdsReduction_iff (c : Channel) : c.holdsReduction = true ↔ ∃ d, c.pending = some (.reduction d) := by
  obtain ⟨applied, pending, output⟩ := c
  rcases pending with _ | _ | _ <;> simp [Channel.holdsReduction]

theorem anyReduction_iff (t : PerSlot Channel) :
    anyReduction t = true ↔ ∃ sl d, (t.get sl).pending = some (.reduction d) := by
  simp only [anyReduction, List.any_eq_true, holdsReduction_iff]
  exact ⟨fun ⟨sl, _, h⟩ => ⟨sl, h⟩, fun ⟨sl, h⟩ => ⟨sl, mem_allSlots sl, h⟩⟩

theorem loadChannel_reduction {c : Channel} {d : Nat} (h : c.pending = some (.reduction d)) (b : Bool) :
    loadChannel b c = { c with applied := d, pending := none } := by
  simp only [loadChannel, h]

theorem loadChannel_increase {c : Channel} {d : Nat} (h : c.pending = some (.increase d)) (b : Bool) :
    loadChannel b c = if b then c else { c with applied := d, pending := none } := by
  simp only [loadChannel, h]

theorem loadChannel_none {c : Channel} (h : c.pending = none) (b : Bool) : loadChannel b c = c := by
  simp only [loadChannel, h]

/-- R155: with a reduction staged anywhere no channel rises. -/
theorem loadChannel_falls {c : Channel} (h : ChannelFits c) : (loadChannel true c).applied ≤ c.applied := by
  rcases hp : c.pending with _ | d | d
  · rw [loadChannel_none hp]
  · rw [loadChannel_reduction hp]
    have hside := h.2
    rw [hp] at hside
    exact Nat.le_of_lt hside
  · rw [loadChannel_increase hp, if_pos rfl]

/-- R155: with none staged no channel falls. -/
theorem loadChannel_rises {c : Channel} (h : ChannelFits c) (hnone : ∀ d, c.pending ≠ some (.reduction d)) :
    c.applied ≤ (loadChannel false c).applied := by
  rcases hp : c.pending with _ | d | d
  · rw [loadChannel_none hp]
  · exact absurd hp (hnone d)
  · rw [loadChannel_increase hp]
    have hside := h.2
    rw [hp] at hside
    exact Nat.le_of_lt hside.1

theorem periodEnds_channel (s : State) (sl : Slot) : (periodEnds s).drive.channels.get sl =
    switchOn (loadChannel (anyReduction s.drive.channels) (s.drive.channels.get sl)) := by
  simp [periodEnds, loadPending]

/-- Settles O51, from the load of each channel. -/
theorem valveOutputs : Obligations.ValveOutputs := by
  unfold Obligations.ValveOutputs
  intro s hpowered before
  refine ⟨⟨periodEnds s, running_powered _ s hpowered, rfl, ?_⟩, fun sl => ⟨fun hless => ?_, fun hfull => ?_⟩,
    fun hoff => ⟨?_, ?_⟩, fun b n hon => ⟨?_, ?_⟩⟩
  · intro now staged
    have hnow :
        ∀ sl, now sl = switchOn (loadChannel (anyReduction s.drive.channels) (before sl)) := periodEnds_channel s
    have hstaged : anyReduction s.drive.channels = true ↔ staged := anyReduction_iff _
    refine ⟨fun sl => ?_, fun sl d hd => ?_, fun sl d hd => ⟨fun hyes => ?_, fun hno => ?_⟩, fun sl hnone => ?_,
      fun hfits x y hrise => ?_⟩
    · rw [hnow]
      rfl
    · rw [hnow, loadChannel_reduction hd]
      exact ⟨rfl, rfl⟩
    · rw [hnow, loadChannel_increase hd, if_pos (hstaged.mpr hyes)]
      exact ⟨rfl, rfl⟩
    · rw [hnow, loadChannel_increase hd, if_neg fun h => hno (hstaged.mp h)]
      exact ⟨rfl, rfl⟩
    · rw [hnow, loadChannel_none hnone]
      exact ⟨rfl, hnone⟩
    · rw [hnow] at hrise ⊢
      cases hany : anyReduction s.drive.channels with
      | true =>
        rw [hany] at hrise
        exact absurd hrise (Nat.not_lt.mpr (loadChannel_falls (hfits x)))
      | false =>
        have hnone : ∀ d, (before y).pending ≠ some (.reduction d) := fun d hd => by
          simp [(anyReduction_iff s.drive.channels).mpr ⟨y, d, hd⟩] at hany
        exact loadChannel_rises (hfits y) hnone
  · exact (running_powered _ s hpowered).trans (congrArg _ (if_pos hless))
  · exact (running_powered _ s hpowered).trans (congrArg _ (if_neg (Nat.not_lt.mpr hfull)))
  · simp only [Drive.sprayValveOpen, hoff]
  · exact (running_powered _ s hpowered).trans (by simp only [sprayToggles, hoff])
  · simp only [Drive.sprayValveOpen, hon]
  · exact (running_powered _ s hpowered).trans (by simp only [sprayToggles, hon])

/-! ## Stop causes -/

theorem supplyReading_low {v : Nat} (h : v < 190) (last : Bool) : supplyReading v last = false := if_pos h

theorem supplyReading_good {v : Nat} (h : 200 ≤ v) (last : Bool) : supplyReading v last = true := by
  have hlow : Config.supplyLowBelow = 190 := rfl
  have hgood : Config.supplyGoodFrom = 200 := rfl
  rw [supplyReading, hlow, hgood, if_neg (by omega), if_pos h]

theorem supplyAt_fall {s : State} {v : Nat} (hgood : s.measure.supplyGood = true) (hv : v < 190) :
    supplyAt v s = setMonitor s.measure.monitor.afterFall false s := by
  simp only [supplyAt, hgood, supplyReading_low hv]

theorem supplyAt_return {s : State} {v : Nat} (hgood : s.measure.supplyGood = false) (hv : 200 ≤ v) :
    supplyAt v s = setMonitor s.measure.monitor.afterReturn true s := by
  simp only [supplyAt, hgood, supplyReading_good hv]

theorem supplyAt_same {s : State} {v : Nat} (h : supplyReading v s.measure.supplyGood = s.measure.supplyGood) :
    supplyAt v s = s := by
  unfold supplyAt
  rw [h]
  cases s.measure.supplyGood <;> rfl

theorem addCause_present {k : StopCause} {s : State} (h : s.stop.has k = true) : addCause k s = s := if_pos h

theorem addCause_second {k : StopCause} {s : State} (h : s.stop.has k = false) (hstop : s.inSafeStop = true) :
    addCause k s = { s with stop := { s.stop.put k true with last := some k } } := by
  rw [addCause, if_neg (by simp [h])]
  exact if_pos hstop

theorem addCause_first {k : StopCause} {s : State} (h : s.stop.has k = false) (hstop : s.inSafeStop = false) :
    addCause k s = enterSafeStop { s with stop := { s.stop.put k true with last := some k } } := by
  rw [addCause, if_neg (by simp [h])]
  exact if_neg (by simp [hstop])

theorem removeCause_absent {k : StopCause} {s : State} (h : s.stop.has k = false) : removeCause k s = s :=
  if_neg (by simp [h])

theorem removeCause_one {k : StopCause} {s : State} (h : s.stop.has k = true)
    (hstop : (s.stop.put k false).fieldSupply = true ∨ (s.stop.put k false).hall = true) :
    removeCause k s = { s with stop := s.stop.put k false } := by
  rw [removeCause, if_pos h]
  exact if_pos (by simpa [State.inSafeStop] using hstop)

theorem removeCause_last {k : StopCause} {s : State} (h : s.stop.has k = true)
    (hsupply : (s.stop.put k false).fieldSupply = false) (hhall : (s.stop.put k false).hall = false) :
    removeCause k s = exitSafeStop { s with stop := s.stop.put k false } := by
  rw [removeCause, if_pos h]
  exact if_neg (by simp [State.inSafeStop, hsupply, hhall])

/-- Settles O52, by the reading and by the causes that stand. -/
theorem stopCauses : Obligations.StopCauses := by
  unfold Obligations.StopCauses
  intro s v tag monitor failed well stop
  refine ⟨fun hpowered hv hgood => ⟨fun hm => (running_powered _ s hpowered).trans ?_,
      fun n hm => (running_powered _ s hpowered).trans ?_⟩,
    fun hpowered hv hgood => (running_powered _ s hpowered).trans ?_,
    fun hpowered hv hgood => ⟨fun n hm => (running_powered _ s hpowered).trans ?_,
      fun hm => (running_powered _ s hpowered).trans ?_⟩,
    fun hpowered hv hgood => (running_powered _ s hpowered).trans ?_,
    fun hpowered hother => (running_powered _ s hpowered).trans ?_,
    fun hpowered hother => (running_powered _ s hpowered).trans ?_, fun hpowered n hm => ?_, fun hpowered n hm => ?_,
    fun h => ?_, fun h => ?_⟩
  · rw [supplyAt_fall hgood hv, hm]
    rfl
  · rw [supplyAt_fall hgood hv, hm]
    rfl
  · rw [supplyAt_same (by rw [hgood, supplyReading_low hv])]
  · rw [supplyAt_return hgood hv, hm]
    rfl
  · rw [supplyAt_return hgood hv, hm]
    rfl
  · rw [supplyAt_same (by rw [hgood, supplyReading_good hv])]
  · cases hm : s.measure.monitor with
    | dip n => exact absurd hm (hother n)
    | _ => simp only [dipEnds, hm]
  · cases hm : s.measure.monitor with
    | recovering n => exact absurd hm (hother n)
    | _ => simp only [recoveryEnds, hm]
  · have hexec : exec .dipTimerExpiry s = .next (addCause .fieldSupply failed) := by
      refine (running_powered _ s hpowered).trans ?_
      simp only [dipEnds, hm]
      rfl
    rw [hexec]
    refine ⟨fun hsupply => ?_, fun hsupply hhall => ?_, fun hsupply hhall => ?_⟩
    · rw [addCause_present (k := .fieldSupply) (s := failed) hsupply]
    · have hin : failed.inSafeStop = true := by simp [State.inSafeStop, failed, monitor, hhall]
      rw [addCause_second (k := .fieldSupply) (s := failed) hsupply hin]
      simp only [stop, StopCauses.put, failed, monitor, hhall]
    · have hout : failed.inSafeStop = false := by simp [State.inSafeStop, failed, monitor, hhall, hsupply]
      rw [addCause_first (k := .fieldSupply) (s := failed) hsupply hout]
      simp only [stop, StopCauses.put, failed, monitor, hhall]
  · have hexec : exec .recoveryTimerExpiry s = .next (removeCause .fieldSupply well) := by
      refine (running_powered _ s hpowered).trans ?_
      simp only [recoveryEnds, hm]
      rfl
    rw [hexec]
    refine ⟨fun hsupply => ?_, fun hsupply hhall => ?_, fun hsupply hhall => ?_⟩
    · rw [removeCause_absent (k := .fieldSupply) (s := well) hsupply]
    · rw [removeCause_one (k := .fieldSupply) (s := well) hsupply (.inr hhall)]
      simp only [stop, StopCauses.put, well, monitor, hhall]
    · rw [removeCause_last (k := .fieldSupply) (s := well) hsupply rfl hhall]
      simp only [stop, StopCauses.put, well, monitor, hhall]
  · refine ⟨_, running_of_admits h _, fun hhall => ?_, fun hhall hsupply => ?_, fun hhall hsupply => ?_⟩
    · exact answered_bare h (by rw [ruleLineStop, addCause_present (k := .hall) hhall]) rfl
    · have hin : s.inSafeStop = true := by simp [State.inSafeStop, hsupply]
      refine answered_bare h (u := stop ⟨true, true, some .hall⟩ s) ?_ rfl
      rw [ruleLineStop, addCause_second (k := .hall) hhall hin]
      simp only [stop, StopCauses.put, hsupply]
    · have hout : s.inSafeStop = false := by simp [State.inSafeStop, hsupply, hhall]
      refine answered_bare h (u := enterSafeStop (stop ⟨false, true, some .hall⟩ s)) ?_ (by simp [stop])
      rw [ruleLineStop, addCause_first (k := .hall) hhall hout]
      simp only [stop, StopCauses.put, hsupply]
  · refine ⟨_, running_of_admits h _, fun hhall => ?_, fun hhall hsupply => ?_, fun hhall hsupply => ?_⟩
    · exact answered_bare h (by rw [ruleLineResume, removeCause_absent (k := .hall) hhall]) rfl
    · refine answered_bare h (u := stop ⟨true, false, s.stop.last⟩ s) ?_ rfl
      rw [ruleLineResume, removeCause_one (k := .hall) hhall (.inl hsupply)]
      simp only [stop, StopCauses.put, hsupply]
    · refine answered_bare h (u := exitSafeStop (stop ⟨false, false, s.stop.last⟩ s)) ?_ (by simp [stop])
      rw [ruleLineResume, removeCause_last (k := .hall) hhall hsupply rfl]
      simp only [stop, StopCauses.put, hsupply]

/-! ## The exit from safe stop -/

/-- Settles O54, block by block. -/
theorem safeStopExit : Obligations.SafeStopExit := by
  unfold Obligations.SafeStopExit
  intro s
  refine ⟨rfl, fun n b hindex hn => ?_, fun b hindex hflush => ?_, fun b l rest hindex hflush hqueue => ?_,
    fun hindex => ?_, fun n hindex => ?_, fun hstate => ⟨fun x m c hslot hchips => ?_, fun x hslot hsludge => ?_,
    fun n l m c hslot hawaited hl hchips => ?_, fun n l hslot hawaited hl hsludge => ?_, fun hslot hawaited => ?_⟩,
    fun hstate => ?_⟩
  · simp only [carouselStopExit, hindex, if_neg hn, startStep_eq]
  · simp only [carouselStopExit, hindex, if_true]
    rw [lastStepMade_of_flush hflush]
  · simp only [carouselStopExit, hindex, if_true]
    rw [lastStepMade_of_index hflush hqueue]
  · simp only [carouselStopExit, hindex]
  · simp only [carouselStopExit, hindex]
  · have hgo : crusherGoOn s = enterRunUp s := by
      simp only [crusherGoOn, hstate, hslot, isSludge_chips hchips, Bool.false_eq_true, if_false]
    rw [hgo]
    exact enterRunUp_of_speed (runUpSpeed_of_slot hslot hchips)
  · have hgo : crusherGoOn s = enterPassThrough s := by
      simp only [crusherGoOn, hstate, hslot, isSludge_sludge hsludge, if_true]
    rw [hgo]
    rfl
  · have hgo : crusherGoOn s = enterRunUp s := by
      simp only [crusherGoOn, hstate, hslot, hawaited, hl, isSludge_chips hchips, Bool.false_eq_true, if_false]
    have hspeed : s.runUpSpeed = some c.speed := by
      simp only [State.runUpSpeed, hslot, hawaited, hl, Option.bind_some, speed?_chips hchips]
    rw [hgo]
    exact enterRunUp_of_speed hspeed
  · simp only [crusherGoOn, hstate, hslot, hawaited, hl, isSludge_sludge hsludge, if_true]
  · simp only [crusherGoOn, hstate, hslot, hawaited]
  · unfold crusherGoOn
    split
    · next h => exact absurd h hstate
    · rfl

end Sys2Proof.Machine
end

section
/-! The profile store: the items by their numbers, PROFILE_WRITE, its hand-overs, PROFILE_LOAD and PROFILE_SAVE
(O43 to O46). -/

namespace Sys2Proof.Machine

/-! ## Items by their numbers -/

theorem itemOfNumber_lineItemNumber (l : LineItem) :
    itemOfNumber (lineItemNumber l) = some (.writable (.line l)) := by cases l <;> rfl

theorem lineItemNumber_getElem : ∀ k (h : k < allLineItems.length), lineItemNumber allLineItems[k] = k + 1 := by decide

theorem itemOfNumber_watchEnable (st : Station) :
    itemOfNumber (47 + 4 * stationNumber st) = some (.writable (.station st .watchEnable)) := by cases st <;> rfl

theorem itemOfNumber_hallLevel (k : HallKind) :
    itemOfNumber (87 + hallKindNumber k) = some (.writable (.level k)) := by cases k <;> rfl

/-- The numbers that an item of each class can have (Tables 07-2 to 07-5). -/
def Item.HasNumber (n : Nat) : Item → Prop
  | .line l => n = lineItemNumber l
  | .station _ f => 48 ≤ n ∧ n ≤ 71 ∧ f = stationFieldOfOffset ((n - 48) % 4)
  | .vmax _ => 72 ≤ n ∧ n ≤ 85
  | .level _ => 88 ≤ n ∧ n ≤ 101
  | .material _ _ => 112 ≤ n ∧ n ≤ 175

/-- The writable items among the results of a look-up have the number looked up. -/
def NumbersItem (n : Nat) (r : Option ItemRef) : Prop := ∀ i, r = some (.writable i) → i.HasNumber n

theorem numbersItem_none (n : Nat) : NumbersItem n none := fun _ h => by cases h

theorem numbersItem_map {α : Type} {n : Nat} {o : Option α} {f : α → Item} (h : ∀ a, o = some a → (f a).HasNumber n) :
    NumbersItem n (o.map fun a => .writable (f a)) := by
  intro i hi
  obtain ⟨a, ha, hitem⟩ := Option.map_eq_some_iff.mp hi
  obtain rfl := ItemRef.writable.inj hitem
  exact h a ha

theorem numbersItem_line {n : Nat} (h : n ≠ 0) :
    NumbersItem n ((allLineItems[n - 1]?).map fun l => .writable (.line l)) := by
  refine numbersItem_map fun l hl => ?_
  obtain ⟨hlt, rfl⟩ := List.getElem?_eq_some_iff.mp hl
  have hnumber := lineItemNumber_getElem _ hlt
  rw [Item.HasNumber]
  omega

theorem numbersItem_itemOfNumber (n : Nat) : NumbersItem n (itemOfNumber n) := by
  have hnone := numbersItem_none n
  unfold itemOfNumber
  refine iteInduction (fun _ => hnone) fun _ => iteInduction (fun _ => numbersItem_line (by assumption)) fun _ =>
    iteInduction (fun _ => hnone) fun _ =>
    iteInduction (fun _ => numbersItem_map fun _ _ => ⟨by omega, by omega, rfl⟩) fun _ =>
    iteInduction (fun _ => numbersItem_map fun _ _ => ⟨by omega, by omega⟩) fun _ =>
    iteInduction (fun _ => hnone) fun _ =>
    iteInduction (fun _ => numbersItem_map fun _ _ => ⟨by omega, by omega⟩) fun _ =>
    iteInduction (fun _ => hnone) fun _ => iteInduction (fun _ i h => by cases h) fun _ =>
    iteInduction (fun _ i h => by cases h) fun _ => iteInduction (fun _ => hnone) fun _ =>
    iteInduction (fun _ i h => ?_) fun _ => iteInduction (fun _ i h => by cases h) fun _ => hnone
  obtain ⟨m, -, hm⟩ := Option.bind_eq_some_iff.mp h
  obtain ⟨f, -, hi⟩ := Option.map_eq_some_iff.mp hm
  obtain rfl := ItemRef.writable.inj hi
  exact ⟨by omega, by omega⟩

theorem hasNumber_of_itemOfNumber {n : Nat} {i : Item} (h : itemOfNumber n = some (.writable i)) : i.HasNumber n :=
  numbersItem_itemOfNumber n i h

theorem eq_of_itemOfNumber {n : Nat} {i j : Item} (hi : itemOfNumber n = some (.writable i))
    (hj : itemOfNumber n = some (.writable j)) : i = j := by simpa [hi] using hj

theorem lineItemNumber_le (l : LineItem) : lineItemNumber l ≤ 41 := by cases l <;> decide

theorem eq_watchEnable_iff (k : Nat) (h : k < 4) : stationFieldOfOffset k = .watchEnable ↔ k = 3 := by
  interval_cases k <;> decide

/-! ## PROFILE_WRITE -/

/-- R129: the groups of items with an order, by their numbers. -/
theorem orderKept_iff {n : Nat} {i : Item} (h : itemOfNumber n = some (.writable i)) (p : Profile) :
    orderKept i p = true ↔
      (n = 2 ∨ n = 3 ∨ n = 4 → p.line.dpClean < p.line.dpTrigger ∧ p.line.dpTrigger < p.line.dpLimit) ∧
      (n = 6 ∨ n = 7 ∨ n = 8 → p.line.lMin < p.line.lLo ∧ p.line.lLo < p.line.lHi) := by
  have hnumber := hasNumber_of_itemOfNumber h
  cases i with
  | line l =>
    obtain rfl : n = lineItemNumber l := hnumber
    cases l <;> simp [orderKept, lineItemNumber, LineParams.dpOrdered, LineParams.levelOrdered]
  | station st f | vmax c | level k | material m f =>
    simp only [Item.HasNumber] at hnumber
    exact iff_of_true rfl ⟨fun _ => by omega, fun _ => by omega⟩

/-- R96: the items kept while the carousel holds something, by their numbers. -/
theorem needsEmptyRing_iff {n : Nat} {i : Item} (h : itemOfNumber n = some (.writable i)) :
    i.needsEmptyRing = true ↔ n = 26 ∨ n = 27 := by
  have hnumber := hasNumber_of_itemOfNumber h
  cases i with
  | line l =>
    obtain rfl : n = lineItemNumber l := hnumber
    cases l <;> simp [Item.needsEmptyRing, lineItemNumber]
  | station st f | vmax c | level k | material m f =>
    simp only [Item.HasNumber] at hnumber
    exact iff_of_false Bool.false_ne_true (by omega)

theorem saving_false {s : State} (h : s.store.save = .idle) : s.saving = false := by simp [State.saving, h]

theorem saving_true {s : State} (h : s.store.save ≠ .idle) : s.saving = true := by
  unfold State.saving
  split
  · next hidle => exact absurd hidle h
  · rfl

theorem itemOfNumber_readOnly {n : Nat} (h : n = 104 ∨ n = 105 ∨ n = 176) (payload : List Byte) (s : State)
    (hn : byteAt payload 0 = n) : ruleProfileWrite payload s = bare .refusedKind s := by
  rcases h with rfl | rfl | rfl <;> simp only [ruleProfileWrite, hn] <;> rfl

/-- Settles O43: the refusals in the rule's order, and the write of what the clamp leaves. -/
theorem profileWrite : Obligations.ProfileWrite := by
  unfold Obligations.ProfileWrite
  intro tag payload s h number asked empty
  refine ⟨_, running_of_admits h _, fun hnone => answered_bare h ?_ rfl, fun hread => answered_bare h
    (itemOfNumber_readOnly hread payload s rfl) rfl, fun i hi => ?_⟩
  · have hnone' : itemOfNumber (byteAt payload 0) = none := hnone
    simp only [ruleProfileWrite, hnone']
  · intro v p ordered ringItem
    have hrule : ruleProfileWrite payload s = writeItem number i asked s := by
      have hi' : itemOfNumber (byteAt payload 0) = some (.writable i) := hi
      simp only [ruleProfileWrite, hi', number, asked]
    have hordered : orderKept i p = true ↔ ordered := orderKept_iff hi p
    have hring : i.needsEmptyRing = true ↔ ringItem := needsEmptyRing_iff hi
    have hempty : s.carouselEmpty = true ↔ empty := carouselEmpty_iff s
    refine ⟨fun hsave => ?_, fun hsave hbroken => ?_, fun hsave hkept hitem hfull => ?_, fun hsave hkept hitem => ?_⟩
    · refine answered_bare h (hrule.trans ?_) rfl
      simp only [writeItem, saving_true hsave, if_true]
    · refine answered_bare h (hrule.trans ?_) rfl
      have hno : orderKept i (s.store.working.set i (clampTo (itemRange i) asked)) = false :=
        Bool.eq_false_iff.mpr fun hyes => hbroken (hordered.mp hyes)
      simp [writeItem, saving_false hsave, hno]
    · refine answered_bare h (hrule.trans ?_) rfl
      have hyes : orderKept i (s.store.working.set i (clampTo (itemRange i) asked)) = true := hordered.mpr hkept
      have hno : s.carouselEmpty = false := Bool.eq_false_iff.mpr fun hyes => hfull (hempty.mp hyes)
      simp [writeItem, saving_false hsave, hyes, hring.mpr hitem, hno]
    · refine answered h (hrule.trans ?_) (handOver_frame i _).2.1
      have hyes : orderKept i (s.store.working.set i (clampTo (itemRange i) asked)) = true := hordered.mpr hkept
      have hmay : ¬ (i.needsEmptyRing && !s.carouselEmpty) = true := fun hboth => by
        obtain ⟨hneeds, hnot⟩ := Bool.and_eq_true_iff.mp hboth
        have := hempty.mpr (hitem (hring.mp hneeds))
        simp [this] at hnot
      have hbyte : payload.take 1 = [byteOf (byteAt payload 0)] := by
        obtain ⟨-, -, hlength, -⟩ := h
        clear hrule
        match payload, hlength with
        | [a, _, _], _ => exact congrArg (fun b => [b]) (byteOf_toNat a).symm
      rw [writeItem, saving_false hsave, if_neg Bool.false_ne_true, hyes, if_neg (by decide), if_neg hmay, hbyte]
      rfl

/-! ## The hand-overs -/

/-- R130: the line items that are read only where they are used. -/
theorem handOverLine_unread {l : LineItem} {n : Nat} (hn : n = lineItemNumber l)
    (h : n = 3 ∨ n = 12 ∨ n = 13 ∨ n = 14 ∨ (16 ≤ n ∧ n ≤ 25) ∨ (28 ≤ n ∧ n ≤ 33) ∨ 39 ≤ n) (s : State) :
    handOverLine l s = s := by
  subst hn
  cases l <;> simp [lineItemNumber] at h <;> rfl

theorem retryLimitWritten_eq {s : State} {x : SlotLot} (h : s.crusher.slot = some x) : retryLimitWritten s =
    match x.lot.content with
    | .sludge => s
    | .chips _ _ => { s with
        crusher := { s.crusher with
          slot := some { x with
            jams := if s.crusher.state = .blocked then s.line.nRetry + 1 else min x.jams s.line.nRetry } } } := by
  have hslot : retryLimitWritten s = if x.lot.isSludge then s
      else if s.crusher.state = .blocked then setSlot (some { x with jams := s.line.nRetry + 1 }) s
      else setSlot (some { x with jams := min x.jams s.line.nRetry }) s := by simp only [retryLimitWritten, h]
  rw [hslot]
  cases hcontent : x.lot.content with
  | sludge => rw [if_pos (isSludge_sludge hcontent)]
  | chips m c =>
    rw [if_neg (Bool.eq_false_iff.mp (isSludge_chips hcontent))]
    split_ifs <;> rfl

theorem retryLimitWritten_none {s : State} (h : s.crusher.slot = none) : retryLimitWritten s = s := by
  simp only [retryLimitWritten, h]

/-- R112: what withdraws the index request at a write of one bin's capacity. -/
def CapacityHit (f : Family) (s : State) : Prop :=
  ∃ l, s.carousel.requested = true ∧ s.carousel.index = .idle ∧
    s.crusher.awaited.bind s.queuedLot = some l ∧ l.family = f ∧ s.line.cBin f ≤ s.crusher.fills.get f

theorem capacityHit_iff (f : Family) (s : State) :
    (s.requestNotStarted && (match s.crusher.awaited.bind s.queuedLot with
      | some l => [f].contains l.family && s.binFull l.family
      | none => false)) = true ↔ CapacityHit f s := by
  rw [Bool.and_eq_true, requestNotStarted_iff, CapacityHit]
  cases s.crusher.awaited.bind s.queuedLot with
  | none => simp
  | some l =>
    simp only [Option.some.injEq, State.binFull, List.contains_cons, List.contains_nil, Bool.or_false,
      Bool.and_eq_true, beq_iff_eq, decide_eq_true_eq]
    constructor
    · rintro ⟨⟨hrequested, hidle⟩, rfl, hfull⟩
      exact ⟨l, hrequested, hidle, rfl, rfl, hfull⟩
    · rintro ⟨l', hrequested, hidle, rfl, rfl, hfull⟩
      exact ⟨⟨hrequested, hidle⟩, rfl, hfull⟩

theorem capacitiesWritten_hit {f : Family} {s : State} (h : CapacityHit f s) :
    capacitiesWritten [f] s = arbitrate (feedEvaluation { s with
      carousel := { s.carousel with requested := false }, crusher := { s.crusher with awaited := none } }) := by
  obtain ⟨l, hrequested, hidle, -⟩ := id h
  refine (if_pos ((capacityHit_iff f s).mpr h)).trans ?_
  rw [withdrawRequest, if_pos ((requestNotStarted_iff s).mpr ⟨hrequested, hidle⟩)]

theorem capacitiesWritten_miss {f : Family} {s : State} (h : ¬ CapacityHit f s) :
    capacitiesWritten [f] s = feedEvaluation s := if_neg fun hit => h ((capacityHit_iff f s).mp hit)

theorem handOver_capacity {n : Nat} {i : Item} {f : Family} (hi : itemOfNumber n = some (.writable i))
    (h : (n = 35 ∧ f = .chip .light) ∨ (n = 36 ∧ f = .chip .ferrous) ∨ (n = 37 ∧ f = .chip .hard) ∨
      (n = 38 ∧ f = .sludge)) (s : State) : handOver i s = capacitiesWritten [f] s := by
  rcases h with ⟨rfl, rfl⟩ | ⟨rfl, rfl⟩ | ⟨rfl, rfl⟩ | ⟨rfl, rfl⟩
  · rw [eq_of_itemOfNumber hi (itemOfNumber_lineItemNumber .cBinLight)]; rfl
  · rw [eq_of_itemOfNumber hi (itemOfNumber_lineItemNumber .cBinFerrous)]; rfl
  · rw [eq_of_itemOfNumber hi (itemOfNumber_lineItemNumber .cBinHard)]; rfl
  · rw [eq_of_itemOfNumber hi (itemOfNumber_lineItemNumber .cBinSludge)]; rfl

theorem handOver_unread {n : Nat} {i : Item} (hi : itemOfNumber n = some (.writable i))
    (h : n = 3 ∨ n = 12 ∨ n = 13 ∨ n = 14 ∨ (16 ≤ n ∧ n ≤ 25) ∨ (28 ≤ n ∧ n ≤ 33) ∨ (39 ≤ n ∧ n ≤ 41) ∨
      (48 ≤ n ∧ n ≤ 71 ∧ n % 4 ≠ 3) ∨ (72 ≤ n ∧ n ≤ 85) ∨ 112 ≤ n) (s : State) : handOver i s = s := by
  have hnumber := hasNumber_of_itemOfNumber hi
  cases i with
  | line l =>
    obtain rfl : n = lineItemNumber l := hnumber
    have hle := lineItemNumber_le l
    exact handOverLine_unread rfl (by omega) s
  | station st f =>
    obtain ⟨hleast, hgreatest, hfield⟩ := hnumber
    cases f with
    | floodLimit | spindleLimit | keepExponent => rfl
    | watchEnable =>
      have hlast := (eq_watchEnable_iff _ (Nat.mod_lt _ (by decide))).mp hfield.symm
      omega
  | level k =>
    obtain ⟨hleast, hgreatest⟩ := hnumber
    omega
  | vmax c | material m f => rfl

/-- R130: the line items of one owner, by their numbers. -/
theorem handOver_line {n : Nat} {i : Item} (hi : itemOfNumber n = some (.writable i)) (l : LineItem)
    (h : n = lineItemNumber l) (s : State) : handOver i s = handOverLine l s := by
  subst h
  rw [eq_of_itemOfNumber hi (itemOfNumber_lineItemNumber l), handOver]

end Sys2Proof.Machine

namespace Sys2Proof
open Machine

/-- Settles O44: the number fixes the item, and the item its owner. -/
theorem handOver : Obligations.HandOver := by
  unfold Obligations.HandOver
  intro n i s hi
  refine ⟨?_, fun hleast hgreatest => ?_, fun h => handOver_line hi .bwGap h s, ?_, fun h => ?_, fun f h => ?_,
    fun st h => ?_, fun k h => ?_, fun h => handOver_unread hi h s⟩
  · rintro (h | h | h | h | h | h)
    · exact handOver_line hi .crated h s
    · exact handOver_line hi .dpClean h s
    · exact handOver_line hi .dpLimit h s
    · exact handOver_line hi .bwKeep h s
    · exact handOver_line hi .bMax h s
    · exact handOver_line hi .pMax h s
  · obtain h | h | h | h : n = 6 ∨ n = 7 ∨ n = 8 ∨ n = 9 := by omega
    · exact handOver_line hi .lMin h s
    · exact handOver_line hi .lLo h s
    · exact handOver_line hi .lHi h s
    · exact handOver_line hi .hyst h s
  · rintro (h | h)
    · exact handOver_line hi .mPocket h s
    · exact handOver_line hi .inService h s
  · have hretry : Machine.handOver i s = retryLimitWritten s := handOver_line hi .nRetry h s
    rw [hretry]
    exact ⟨retryLimitWritten_none, fun x hx => retryLimitWritten_eq hx⟩
  · rw [handOver_capacity hi h]
    exact ⟨capacitiesWritten_hit, capacitiesWritten_miss⟩
  · subst h
    rw [eq_of_itemOfNumber hi (itemOfNumber_watchEnable st)]
    rfl
  · subst h
    rw [eq_of_itemOfNumber hi (itemOfNumber_hallLevel k)]
    rfl

end Sys2Proof

namespace Sys2Proof.Machine

/-! ## PROFILE_LOAD -/

theorem ringDiffers_false_iff (a b : LineParams) :
    ringDiffers a b = false ↔ a.inService = b.inService ∧ a.mPocket = b.mPocket := by
  simp [ringDiffers]

theorem edgesDiffer_false_iff (a b : LineParams) :
    edgesDiffer a b = false ↔ b.lMin = a.lMin ∧ b.lLo = a.lLo ∧ b.lHi = a.lHi ∧ b.hyst = a.hyst := by
  simp only [edgesDiffer, Bool.or_eq_false_iff, decide_eq_false_iff_not, not_not, and_assoc]
  exact and_congr eq_comm (and_congr eq_comm (and_congr eq_comm eq_comm))

theorem loadSupply_eq {old : LineParams} {s : State} {same : Prop} [Decidable same]
    (h : edgesDiffer old s.line = false ↔ same) :
    loadSupply old s = recompute (if same then s else reevaluateBand s) := by
  rw [loadSupply]
  by_cases hsame : same
  · rw [if_pos hsame, h.mpr hsame, if_neg Bool.false_ne_true]
  · rw [if_neg hsame, if_pos (Bool.not_eq_false _ ▸ fun hno => hsame (h.mp hno))]

theorem loadArbiter_eq {old : LineParams} {s : State} {same : Prop} [Decidable same]
    (h : ringDiffers old s.line = false ↔ same) : loadArbiter old s = if same then s else arbitrate s := by
  rw [loadArbiter]
  by_cases hsame : same
  · rw [if_pos hsame, h.mpr hsame, if_neg Bool.false_ne_true]
  · rw [if_neg hsame, if_pos (Bool.not_eq_false _ ▸ fun hno => hsame (h.mp hno))]

theorem applyWatch_watches (st : Station) (s : State) : (applyWatch st s).watches =
    s.watches.set st ⟨.live, (s.watches.get st).phase, s.freshTimer st⟩ := by
  simp only [applyWatch]
  split_ifs
  · simp [returnStation, setWatch]
  · rfl

theorem applyWatch_live {st : Station} {s : State} (q : Station)
    (h : q = st ∨ (s.watches.get q).state = .live) : ((applyWatch st s).watches.get q).state = .live := by
  rw [applyWatch_watches]
  by_cases heq : q = st
  · rw [heq, PerStation.get_set_same]
  · rw [PerStation.get_set_ne _ heq]
    exact h.resolve_left heq

/-- R134: the stations that a fold of watch enables has reached are LIVE. -/
theorem applyWatches_live (l : List Station) (s : State) (q : Station)
    (h : q ∈ l ∨ (s.watches.get q).state = .live) :
    ((l.foldl (fun u st => applyWatch st u) s).watches.get q).state = .live := by
  induction l generalizing s with
  | nil => exact h.resolve_left (List.not_mem_nil)
  | cons st rest ih =>
    refine ih (applyWatch st s) ?_
    rcases h with h | h
    · rcases List.mem_cons.mp h with rfl | h
      · exact .inr (applyWatch_live q (.inl rfl))
      · exact .inl h
    · exact .inr (applyWatch_live q (.inr h))

/-- R134: the owners of a loaded set in their order, each by what the set changes for it. -/
theorem loadProfile_eq (p : Profile) (s : State) {ringSame edgesSame : Prop} [Decidable ringSame] [Decidable edgesSame]
    (hring : ringDiffers s.line p.line = false ↔ ringSame) (hedges : edgesDiffer s.line p.line = false ↔ edgesSame) :
    let u0 := setWorking p s
    let u2 := tryPendingBackwash (recompute (if edgesSame then u0 else reevaluateBand u0))
    loadProfile p s = loadLevels (loadWatches (loadCrusher (if ringSame then u2 else arbitrate u2))) := by
  intro u0 u2
  have hu2 : tryPendingBackwash (loadSupply s.line u0) = u2 := congrArg _ (loadSupply_eq (s := u0) hedges)
  have hline : u2.line = p.line := by
    rw [← hu2, State.line, (tryPendingBackwash_frame _).2.2.2.2.2.2.1, (loadSupply_frame _ _).2.2.2.2.2.2.2.1]
    rfl
  have hu3 :
      loadArbiter s.line u2 = if ringSame then u2 else arbitrate u2 := loadArbiter_eq (by rw [hline]; exact hring)
  rw [← hu3, ← hu2]
  rfl

theorem loadProfile_live (p : Profile) (s : State) (q : Station) :
    ((loadProfile p s).watches.get q).state = .live := by
  have hwatches : ∀ v : State, (loadLevels v).watches = v.watches := fun v => by simp
  rw [loadProfile, hwatches, loadWatches]
  exact applyWatches_live _ _ q (.inl (by cases q <;> decide))

theorem loadProfile_store (p : Profile) (s : State) :
    (loadProfile p s).store = { s.store with working := p } ∧ (loadProfile p s).ports = s.ports := by
  simp [loadProfile, setWorking]

theorem ButPorts.store_watches {u t : State} (h : ButPorts u t) : t.store = u.store ∧ t.watches = u.watches := by
  rw [ButPorts] at h
  rw [h]
  exact ⟨rfl, rfl⟩

theorem setOfNumber_none {n : Nat} (h : 2 < n) : setOfNumber n = none := by
  match n, h with
  | _ + 3, _ => rfl

/-- The set that a number up to 2 names. -/
theorem setOfNumber_profile {n : Byte} {v : NonVolatile} {p : Profile}
    (h : (n = 0#8 ∧ p = factoryProfile) ∨ (n = 1#8 ∧ p = v.set1) ∨ (n = 2#8 ∧ p = v.set2)) :
    ∃ k, setOfNumber n.toNat = some k ∧ v.profile k = p := by
  rcases h with ⟨rfl, rfl⟩ | ⟨rfl, rfl⟩ | ⟨rfl, rfl⟩
  · exact ⟨.set0, rfl, rfl⟩
  · exact ⟨.set1, rfl, rfl⟩
  · exact ⟨.set2, rfl, rfl⟩

theorem setOfNumber_some {n : Nat} (h : n ≤ 2) : ∃ k, setOfNumber n = some k := by
  interval_cases n
  · exact ⟨.set0, rfl⟩
  · exact ⟨.set1, rfl⟩
  · exact ⟨.set2, rfl⟩

/-- Settles O45: the refusals in the rule's order, and the owners of the loaded set one after the other. -/
theorem profileLoad : Obligations.ProfileLoad := by
  unfold Obligations.ProfileLoad
  intro tag n s h empty old
  refine ⟨_, running_of_admits h _, fun habove => answered_bare h ?_ rfl, fun hset hsave => answered_bare h ?_ rfl,
    fun p hsave hp => ?_⟩
  · simp only [ruleProfileLoad, byteAt_singleton, setOfNumber_none habove]
  · obtain ⟨k, hk⟩ := setOfNumber_some hset
    simp only [ruleProfileLoad, byteAt_singleton, hk, saving_true hsave, if_true]
  · intro ringSame edgesSame u0 u1 u2 u3 u4 u5 u6
    obtain ⟨k, hk, hprofile⟩ := setOfNumber_profile hp
    have hring : ringDiffers p.line s.line = false ↔ ringSame := ringDiffers_false_iff _ _
    have hempty : s.carouselEmpty = true ↔ empty := carouselEmpty_iff s
    have hrule : ruleProfileLoad [n] s =
        if (ringDiffers p.line s.line && !s.carouselEmpty) = true then bare .busy s
        else bare .done (loadProfile p s) := by
      simp only [ruleProfileLoad, byteAt_singleton, hk, hprofile, saving_false hsave, Bool.false_eq_true, if_false]
    obtain ⟨hstore, hports⟩ := loadProfile_store p s
    refine ⟨fun hother hfull => answered_bare h (hrule.trans (if_pos ?_)) rfl, fun hmay => ?_⟩
    · simp only [Bool.and_eq_true, Bool.not_eq_true', Bool.eq_false_iff]
      exact ⟨Bool.not_eq_false _ ▸ fun hno => hother (hring.mp hno), fun hyes => hfull (hempty.mp hyes)⟩
    · have hload := answered_bare h (hrule.trans (if_neg ?_)) hports
      · have hu6 : loadProfile p s = u6 := loadProfile_eq p s
          ((ringDiffers_false_iff _ _).trans (and_congr eq_comm eq_comm)) (edgesDiffer_false_iff _ _)
        obtain ⟨hreply, hbut⟩ := hload
        obtain ⟨hsameStore, hsameWatches⟩ := hbut.store_watches
        refine ⟨?_, hsameStore.trans hstore, fun st => ?_⟩
        · rw [← hu6]
          exact ⟨hreply, hbut⟩
        · rw [hsameWatches]
          exact loadProfile_live p s st
      · simp only [Bool.and_eq_true, Bool.not_eq_true', not_and, Bool.eq_false_iff, not_not]
        exact fun hdiffers => hempty.mpr (hmay.resolve_left fun hsame =>
            Bool.false_ne_true ((hring.mpr hsame).symm.trans hdiffers))

/-! ## PROFILE_SAVE -/

/-- Settles O46: the save by the set's number, and its timer by the save state. -/
theorem profileSave : Obligations.ProfileSave := by
  unfold Obligations.ProfileSave
  refine ⟨fun tag n s h => ⟨_, running_of_admits h _, fun habove => answered_bare h ?_ rfl,
    fun hset hsave => answered_bare h ?_ rfl, ?_, ?_, ?_⟩, fun s hpowered => ⟨fun hidle => ?_,
    fun k p left hsave => ?_⟩⟩
  · simp only [ruleProfileSave, byteAt_singleton, setOfNumber_none habove]
  · obtain ⟨k, hk⟩ := setOfNumber_some hset
    simp only [ruleProfileSave, byteAt_singleton, hk, saving_true hsave, if_true]
  · rintro rfl hsave
    refine answered_bare h ?_ rfl
    simp only [ruleProfileSave, saving_false hsave, Bool.false_eq_true, if_false] <;> rfl
  · rintro rfl hsave
    refine answered_bare h ?_ rfl
    simp only [ruleProfileSave, saving_false hsave, Bool.false_eq_true, if_false] <;> rfl
  · rintro rfl hsave
    refine answered_bare h ?_ rfl
    simp only [ruleProfileSave, saving_false hsave, Bool.false_eq_true, if_false] <;> rfl
  · refine (running_powered _ s hpowered).trans (congrArg _ ?_)
    simp only [saveDone, hidle]
  · refine (running_powered _ s hpowered).trans (congrArg _ ?_)
    simp only [saveDone, hsave]
    cases k <;> rfl

end Sys2Proof.Machine
end

section
/-! The first half of a line restart, stage by stage (R176): the open gate, the filter, the pending backwash, the
carousel and the crusher. -/

namespace Sys2Proof.Machine

/-! ## The open gate -/

/-- R162: where one request is OPEN, its gate alone is. -/
theorem isOpen_eq_decide {s : State} {src : Source} (hunique : ∀ a b, s.isCurrent a → s.isCurrent b → a = b)
    (hopen : s.isOpen src = true) (a : Source) : s.isOpen a = decide (a = src) := by
  by_cases heq : a = src
  · rw [heq, hopen, decide_eq_true rfl]
  · rw [decide_eq_false heq]
    exact Bool.eq_false_iff.mpr fun h => heq (hunique a src (isCurrent_of_isOpen h) (isCurrent_of_isOpen hopen))

/-- R144: whether no gate stands on an OPEN request. -/
def State.noneOpen (s : State) : Bool := allSources.all fun src => !s.isOpen src

theorem noneOpen_iff (s : State) : s.noneOpen = true ↔ ∀ src, s.isOpen src = false := by
  simp [State.noneOpen, mem_allSources]

/-- R79 step 1: what stays of the lots when the open gate, if there is one, is finalised. -/
structure LotsEnded (s v : State) : Prop where
  kept : (∀ src, s.isOpen src = false) → v.carousel = s.carousel
  finalised : ∀ src r k g d, s.request src = some r → r.state = .opened k g d →
    v.carousel = (finalise src r k .cutShort s).1.carousel
  ring : v.carousel = { s.carousel with queue := v.carousel.queue, counter := v.carousel.counter }

/-- R79: what the arbiter's part of a restart leaves in every block. -/
structure DischargeEnded (s v : State) : Prop where
  blocks : v = { s with
    watches := .same watchPowerOn, slots := .same none, arbiter := arbiterPowerOn, carousel := v.carousel
    filter := { s.filter with troughFull := s.filter.troughFull && !s.isOpen .sludge }
    measure := { s.measure with
      chute := { s.measure.chute with enabled := s.measure.chute.enabled && s.noneOpen } }
    drive := { s.drive with gates := v.drive.gates, dumpValve := s.drive.dumpValve && !s.isOpen .sludge } }
  gates : ∀ st, v.drive.gates.get st = (s.drive.gates.get st && !s.isOpen (.station st))
  lots : LotsEnded s v

/-- R79: with no gate on an OPEN request the requests and late reports alone go. -/
theorem DischargeEnded.ofClosed {s : State} (h : ∀ src, s.isOpen src = false) :
    DischargeEnded s { restartStations s with arbiter := arbiterPowerOn } := by
  refine ⟨?_, fun st => by simp [h], fun _ => rfl, fun src r k g d hr hstate => ?_, rfl⟩
  · rw [(noneOpen_iff s).mpr h, h]
    simp only [Bool.not_false, Bool.and_true]
    rfl
  · have hopen := isOpen_of_opened hr hstate
    rw [h] at hopen
    cases hopen

/-- R79: an OPEN request is finalised CUT_SHORT. -/
theorem DischargeEnded.ofOpen {s : State} (hunique : ∀ a b, s.isCurrent a → s.isCurrent b → a = b) {src : Source}
    {r : DischargeRequest} {k g : Nat} {d : Option Nat} (hr : s.request src = some r)
    (hstate : r.state = .opened k g d) :
    DischargeEnded s { (finalise src r k .cutShort (restartStations s)).1 with arbiter := arbiterPowerOn } := by
  have hsrc := isOpen_of_opened hr hstate
  have hopen := isOpen_eq_decide hunique hsrc
  have hnone : s.noneOpen = false := List.all_eq_false.mpr ⟨src, mem_allSources src, by simp [hsrc]⟩
  have hsame : (finalise src r k .cutShort (restartStations s)).1.carousel =
      (finalise src r k .cutShort s).1.carousel := by
    rw [finalise_carousel_eq, finalise_carousel_eq]
    rfl
  have hclose := finalise_eq_close src r k .cutShort (restartStations s)
  rw [closeDischarge_eq] at hclose
  refine ⟨?_, fun st => ?_, fun hclosed => ?_, fun a r' k' g' d' hr' hstate' => ?_, ?_⟩
  · rw [hnone, hopen, Bool.and_false, hclose]
    cases src <;> simp [restartStations]
  · have hdrive := congrArg State.drive hclose
    rw [hopen]
    cases src with
    | sludge => simp [hdrive]
    | station a =>
      by_cases heq : st = a <;> simp [hdrive, PerStation.get_set, heq]
  · simp [hclosed] at hsrc
  · obtain rfl : a = src := by simpa [hopen] using isOpen_of_opened hr' hstate'
    obtain rfl := Option.some.inj (hr.symm.trans hr')
    obtain ⟨rfl, -⟩ : k' = k ∧ _ := by simpa [hstate] using hstate'.symm
    exact hsame
  · show (finalise src r k .cutShort (restartStations s)).1.carousel = _
    rw [hsame, finalise_carousel_eq]
    split_ifs <;> rfl

theorem arbiterRestart_ended {s : State} (hunique : ∀ a b, s.isCurrent a → s.isCurrent b → a = b) :
    DischargeEnded s (arbiterRestart (restartStations s)) := by
  have hcurrent : (restartStations s).current = s.current := current_of_requests rfl
  rcases arbiterRestart_cases (restartStations s) with ⟨hnot, heq⟩ | ⟨src, r, k, g, d, hsome, hstate, heq⟩ <;> rw [heq]
  · refine .ofClosed fun src => Bool.eq_false_iff.mpr fun hopen => ?_
    obtain ⟨r, k, g, d, hr, hstate⟩ := (placeOpen_iff _).mp hopen
    cases hnow : s.current with
    | none => exact (current_none_iff s).mp hnow src (isCurrent_of_isOpen hopen)
    | some c =>
      obtain ⟨a, r'⟩ := c
      obtain ⟨-, rfl⟩ := request_of_current hunique hnow hr (isCurrent_of_isOpen hopen)
      exact hnot a r (hcurrent.trans hnow) k g d hstate
  · exact .ofOpen hunique (current_some (hcurrent.symm.trans hsome)).1 hstate

end Sys2Proof.Machine
end

section
/-! The filter's part of a line restart, and the backwash that it may start (R45, R58). -/

namespace Sys2Proof.Machine

/-! ## Passes over the emptied table -/

theorem passTable_empty (figure : Nat) : passTable figure (.same none) = .same none :=
  PerSlot.ext_get fun sl => by
    rw [passTable_get_of_aside figure _ fun e he => by rw [PerSlot.get_same] at he; cases he]

/-- A publication's part in each block, the table being empty: the figure, and the channels staged anew. -/
structure Republished (s t : State) : Prop where
  blocks : t = { s with
    supply := { s.supply with published := t.supply.published }
    drive := { s.drive with channels := t.drive.channels }
    events := t.events }
  applied : ∀ sl, t.drive.channels.get sl =
    { s.drive.channels.get sl with pending := (t.drive.channels.get sl).pending }

theorem Republished.refl (s : State) : Republished s s := ⟨rfl, fun _ => rfl⟩

theorem publish_republished {s : State} (h : s.slots = .same none) (figure : Nat) :
    Republished s (publish figure s) := by
  obtain ⟨hslots, hchannels, hdrive, -⟩ := publish_passed figure s
  refine ⟨?_, fun sl => by rw [hchannels sl]; rfl⟩
  have heq := publish_eq figure s
  rw [hslots, h, passTable_empty, hdrive] at heq
  rw [heq, h]

theorem recompute_republished {s : State} (h : s.slots = .same none) : Republished s (recompute s) := by
  rcases recompute_cases s with ⟨heq, -⟩ | ⟨b, -, heq⟩ <;> rw [heq]
  · exact .refl s
  · exact publish_republished h _

/-! ## The filter -/

/-- R58: the request of a trough still FULL, as the restart posts it again. -/
def repostedRequests (v : State) : PerSource (Option DischargeRequest) :=
  if v.filter.troughFull then v.arbiter.requests.set .sludge
    (some ⟨.sludge, min v.line.mSludge (4 * v.line.mPocket), 6, .pending⟩)
  else v.arbiter.requests

/-- R58: a backwash goes to its settle, and a fleece index to FILTERING. -/
def FilterState.rested (tSettle : Nat) : FilterState → FilterState
  | .filtering => .filtering
  | .backwash _ => .settle (some (1000 * tSettle))
  | .settle left => .settle left
  | .indexing _ _ _ => .filtering

/-- R58: the spray is shut with a backwash. -/
def FilterState.restedSpray (spray : Spray) : FilterState → Spray
  | .backwash _ => .off
  | .filtering | .settle _ | .indexing _ _ _ => spray

/-- R58: the fleece motor stops with an index. -/
def FilterState.restedMotor (motor : Bool) : FilterState → Bool
  | .indexing _ _ _ => false
  | .filtering | .backwash _ | .settle _ => motor

/-- R58: what the filter's part of a restart leaves, before a pending backwash starts. -/
def filterRested (v : State) : State := { v with
  arbiter := { v.arbiter with requests := repostedRequests v }
  filter := { v.filter with state := v.filter.state.rested v.line.tSettle }
  drive := { v.drive with
    spray := v.filter.state.restedSpray v.drive.spray
    fleeceMotor := v.filter.state.restedMotor v.drive.fleeceMotor } }

theorem rested_filtering_iff (n : Nat) (f : FilterState) :
    f.rested n = .filtering ↔ f = .filtering ∨ ∃ l m t, f = .indexing l m t := by
  cases f <;> simp [FilterState.rested]

theorem filterRestart_eq (v : State) : filterRestart v = { filterRested v with arbiter := v.arbiter } := by
  rw [filterRestart, sec_eq]
  obtain ⟨_, _, _, _, _, ⟨state, _, _, _, _⟩, _, _, _, _, _, _, _, _, _, _⟩ := v
  cases state <;> rfl

theorem repostSludge_filterRestart (v : State) : repostSludge (filterRestart v) = filterRested v := by
  have htrough : (filterRested v).filter.troughFull = v.filter.troughFull := rfl
  have hrested : filterRested v = { filterRested v with
      arbiter := { v.arbiter with requests := repostedRequests v } } := rfl
  rw [filterRestart_eq, repostSludge, hrested, repostedRequests]
  simp only [htrough]
  split_ifs <;> rfl

/-- R45: the backwash that the restart of `s` starts, its discharge being ended in `v`. -/
def RestartStarts (s v : State) : Prop :=
  v.filter.pending = true ∧ 1000 * v.line.bwGap ≤ v.filter.gap ∧ v.inSafeStop = false ∧ v.filter.troughFull = false ∧
    (s.filter.state = .filtering → s.filter.troughFull = true)

/-- R45, R58: what the filter's part of a restart leaves in every block. -/
structure FilterRestarted (s v w : State) : Prop where
  blocks : w = { filterRested v with
    supply := { v.supply with backwashDp := w.supply.backwashDp, published := w.supply.published }
    filter := w.filter
    drive := { (filterRested v).drive with channels := w.drive.channels, spray := w.drive.spray }
    events := w.events }
  applied : ∀ sl, w.drive.channels.get sl =
    { v.drive.channels.get sl with pending := (w.drive.channels.get sl).pending }
  held : (¬ ((filterRested v).filter.state = .filtering ∧ RestartStarts s v)) → w = filterRested v
  started : (filterRested v).filter.state = .filtering → RestartStarts s v →
    w.filter = { v.filter with state := .backwash (1000 * v.line.bwTime), pending := false } ∧
      w.drive.spray = .on true v.line.tSpray ∧
      w.supply.backwashDp = if v.supply.dpMark then v.supply.dp else v.line.dpTrigger

/-- R47: a backwash begun, before the recomputation. -/
def backwashBegun (s : State) : State := { s with
  filter := { s.filter with state := .backwash (1000 * s.line.bwTime), pending := false }
  drive := { s.drive with spray := .on true s.line.tSpray }
  supply := { s.supply with backwashDp := if s.supply.dpMark then s.supply.dp else s.line.dpTrigger } }

theorem FilterRestarted.ofBegun {s v w : State} (hstate : (filterRested v).filter.state = .filtering)
    (hstarts : RestartStarts s v) (h : Republished (backwashBegun (filterRested v)) w) : FilterRestarted s v w := by
  obtain ⟨hblocks, happlied⟩ := h
  have hsupply := congrArg State.supply hblocks
  have hfilter := congrArg State.filter hblocks
  have hspray := congrArg (fun x => x.drive.spray) hblocks
  refine ⟨hblocks.trans ?_, happlied, fun h => absurd ⟨hstate, hstarts⟩ h, fun _ _ => ⟨hfilter, hspray, ?_⟩⟩
  · rw [hsupply, hfilter, hspray]
    rfl
  · rw [hsupply]
    rfl

theorem startBackwash_restarted {s v : State} (hslots : v.slots = .same none)
    (hstate : (filterRested v).filter.state = .filtering) (hstarts : RestartStarts s v) :
    FilterRestarted s v (startBackwash (filterRested v)) :=
  startBackwash_eq (filterRested v) ▸
    .ofBegun hstate hstarts (recompute_republished (s := backwashBegun (filterRested v)) hslots)

theorem restartFreesBackwash_iff (s v : State) : restartFreesBackwash s (filterRested v) = true ↔
    (s.filter.troughFull = true ∧ v.filter.troughFull = false) ∨ ∃ l m t, s.filter.state = .indexing l m t := by
  have htrough : (filterRested v).filter.troughFull = v.filter.troughFull := rfl
  rw [restartFreesBackwash, htrough]
  cases s.filter.state <;> simp

theorem restartPendingStart_restarted {s v : State} (hslots : v.slots = .same none)
    (hstate : v.filter.state = s.filter.state) :
    FilterRestarted s v (restartPendingStart s (filterRested v)) := by
  have hrested : ¬ ((filterRested v).filter.state = .filtering ∧ RestartStarts s v) →
      FilterRestarted s v (filterRested v) := fun hnot => ⟨rfl, fun _ => rfl, fun _ => rfl,
    fun hfiltering hstarts => absurd ⟨hfiltering, hstarts⟩ hnot⟩
  by_cases hgo : (filterRested v).filter.state = .filtering ∧ RestartStarts s v
  · obtain ⟨hfiltering, hstarts⟩ := hgo
    obtain ⟨hpending, hgap, hstop, htrough, hemptied⟩ := id hstarts
    have hfrees : restartFreesBackwash s (filterRested v) = true := by
      refine (restartFreesBackwash_iff s v).mpr ?_
      rcases (rested_filtering_iff _ _).mp hfiltering with hs | ⟨l, m, t, hs⟩ <;> rw [hstate] at hs
      · exact .inl ⟨hemptied hs, htrough⟩
      · exact .inr ⟨l, m, t, hs⟩
    rw [restartPendingStart, if_pos hfrees, tryPendingBackwash,
      if_pos ((pendingMayStart_iff (filterRested v)).mpr ⟨hfiltering, hpending, hgap, htrough, hstop⟩)]
    exact startBackwash_restarted hslots hfiltering hstarts
  · have hsame : restartPendingStart s (filterRested v) = filterRested v := by
      rw [restartPendingStart]
      split_ifs with hfrees
      · rw [tryPendingBackwash, if_neg fun hmay => hgo ?_]
        obtain ⟨hfiltering, hpending, hgap, htrough, hstop⟩ := (pendingMayStart_iff (filterRested v)).mp hmay
        refine ⟨hfiltering, hpending, hgap, hstop, htrough, fun hs => ?_⟩
        rcases (restartFreesBackwash_iff s v).mp hfrees with ⟨hfull, -⟩ | ⟨l, m, t, hindexing⟩
        · exact hfull
        · rw [hs] at hindexing
          cases hindexing
      · rfl
    rw [hsame]
    exact hrested hgo

end Sys2Proof.Machine
end

section
/-! The state that a line restart reaches before the line is set going again, block by block (R176). -/

namespace Sys2Proof.Machine

/-! ## The carousel and the crusher -/

/-- R87: whether an index request stands whose index has not started. -/
def State.withdrawn (s : State) : Bool := s.carousel.requested && decide (s.carousel.index = .idle)

theorem carouselRestart_eq (s : State) : carouselRestart s = { s with
    carousel := { s.carousel with mode := .run, requested := s.carousel.requested && !s.withdrawn }
    crusher := { s.crusher with awaited := if s.withdrawn then none else s.crusher.awaited } } := by
  have hnot : ({ s with carousel := { s.carousel with mode := .run } } : State).requestNotStarted = s.withdrawn := rfl
  rw [carouselRestart, withdrawRequest, hnot]
  cases s.withdrawn with
  | false => simp
  | true => simp

theorem crusherRestart_eq (s : State) : crusherRestart s = { s with
    crusher := { s.crusher with
      state := if s.crusher.state = .blocked then .blocked else .stopped
      stallCount := 0
      binWait := none }
    drive := { s.drive with direction := .stopped }
    measure := { s.measure with shaft := if s.drive.direction = .stopped then s.measure.shaft else .idle } } := by
  rw [crusherRestart, crusherHalt, enterStopped, driveCrusher_stopped, driveCrusher_stopped, setCrusherState]
  split_ifs <;> simp_all

/-! ## The publication -/

theorem targetDuty_zero (vmax : Nat) : targetDuty 0 vmax = 0 := by
  simp [targetDuty, ceilDiv, Nat.eq_zero_or_pos]

theorem grantsDiffer_self (t : PerSlot (Option Entry)) (st : Station) : grantsDiffer t t st = false := by
  simp [grantsDiffer]

/-- R41: the figure that a restart publishes. -/
def forcedFigure (s : State) : Nat :=
  match figureBand s with
  | none => 0
  | some b => newFigure s b

theorem forcedFigure_congr {s t : State} (hsupply : t.supply = s.supply) (hfilter : t.filter = s.filter)
    (hstore : t.store = s.store) (hstop : t.stop = s.stop) : forcedFigure t = forcedFigure s := by
  have hfigure : ∀ b, newFigure t b = newFigure s b := fun b => by
    simp only [newFigure, keptCapacity, State.line, inSafeStop_congr hstop, hsupply, hfilter, hstore]
  rw [forcedFigure, figureBand_congr (s := s) (by rw [hsupply]) (by rw [hsupply]) (by rw [hsupply])]
  simp only [hfigure] <;> rfl

theorem publishForced_eq_publish (s : State) : publishForced s = publish (forcedFigure s) s := by
  unfold publishForced forcedFigure
  cases figureBand s <;> rfl

/-- R41: with the table and the event sets empty, the publication sets the figure and stages every channel to be
shut. -/
structure ForcedPublished (s u : State) : Prop where
  blocks : u = { s with
    supply := { s.supply with published := forcedFigure s }
    drive := { s.drive with channels := u.drive.channels }
    events := u.events }
  channels : ∀ sl, u.drive.channels.get sl = { s.drive.channels.get sl with
    pending := if 0 < (s.drive.channels.get sl).applied then some (.reduction 0) else none }
  stations : ∀ st k, (u.stationSet st).get k = false
  hall : ∀ k, u.events.hall.get k = false

theorem publishForced_forced {s : State} (hslots : s.slots = .same none) (hevents : s.events = eventsPowerOn) :
    ForcedPublished s (publishForced s) := by
  rw [publishForced_eq_publish]
  obtain ⟨htable, hchannels, hdrive, hstations, hhall⟩ := publish_passed (forcedFigure s) s
  have heq := publish_eq (forcedFigure s) s
  refine ⟨?_, fun sl => ?_, fun st k => ?_, fun k => ?_⟩
  · rw [htable, hslots, passTable_empty, hdrive] at heq
    rw [heq, hslots]
  · have hnone : grantOf ((PerSlot.same none : PerSlot (Option Entry)).get sl) = 0 := by rw [PerSlot.get_same]; rfl
    rw [hchannels, hslots, passTable_empty, hnone, targetDuty_zero]
    simp [stageChannel]
  · rw [hstations, hslots, passTable_empty, grantsDiffer_self, State.stationSet, hevents]
    simp [eventsPowerOn]
  · rw [hhall, hevents]
    exact PerHallKind.get_same false k

/-! ## The state before the line goes on -/

/-- R176: where the arbiter's and the filter's parts of a restart have left `w`, the state before the line goes on. -/
def restartHalted (w : State) : State := emptyEventSets (clearDiscards (crusherRestart (carouselRestart w)))

theorem restartHalted_eq (w : State) : restartHalted w = { w with
    ports := w.ports.mapKeys fun _ p => { p with discards := 0 }
    carousel := { w.carousel with mode := .run, requested := w.carousel.requested && !w.withdrawn }
    crusher := { w.crusher with
      state := if w.crusher.state = .blocked then .blocked else .stopped
      stallCount := 0
      binWait := none
      awaited := if w.withdrawn then none else w.crusher.awaited }
    drive := { w.drive with direction := .stopped }
    measure := { w.measure with shaft := if w.drive.direction = .stopped then w.measure.shaft else .idle }
    events := eventsPowerOn } := by
  rw [restartHalted, carouselRestart_eq, crusherRestart_eq]
  rfl

/-- R176: the state of a restart before the arbiter arbitrates. -/
def restartMiddle (s : State) : State := publishForced (restartEnd s)

theorem lineRestart_eq (s : State) : lineRestart s = crusherAfterRestart (arbitrate (restartMiddle s)) := rfl

/-- The states that a restart of `s` passes through: `v` with the discharge ended, `w` with the filter at rest or its
backwash begun, and `u`, from which the line goes on. -/
structure RestartPath (s v w u : State) : Prop where
  ended : DischargeEnded s v
  filter : FilterRestarted s v w
  published : ForcedPublished (restartHalted w) u

theorem restart_path {s : State} (hunique : ∀ a b, s.isCurrent a → s.isCurrent b → a = b) :
    ∃ v w, RestartPath s v w (restartMiddle s) := by
  have hended := arbiterRestart_ended hunique
  have hslots := congrArg State.slots hended.blocks
  have hstate := congrArg (fun v => v.filter.state) hended.blocks
  have hfilter := restartPendingStart_restarted (s := s) hslots hstate
  have hhalted : restartEnd s =
      restartHalted (restartPendingStart s (filterRested (arbiterRestart (restartStations s)))) := by
    rw [restartEnd, repostSludge_filterRestart]
    rfl
  have hempty := (congrArg State.slots hfilter.blocks).trans hslots
  refine ⟨_, _, hended, hfilter, ?_⟩
  rw [restartMiddle, hhalted]
  refine publishForced_forced ?_ rfl
  rw [restartHalted_eq]
  exact hempty

section
variable {s v w u : State} (h : RestartPath s v w u)
include h

theorem RestartPath.same : u.powered = s.powered ∧ u.store = s.store ∧ u.stop = s.stop ∧ u.pending = s.pending ∧
    u.ties = s.ties ∧ u.watches = .same watchPowerOn ∧ u.slots = .same none ∧
    u.ports = s.ports.mapKeys fun _ p => { p with discards := 0 } := by
  rw [h.published.blocks, restartHalted_eq, h.filter.blocks, filterRested, h.ended.blocks]
  exact ⟨rfl, rfl, rfl, rfl, rfl, rfl, rfl, rfl⟩

/-- R45, R58: the filter of the restart, where no pending backwash starts. -/
theorem RestartPath.filter_held (hnot : ¬ ((filterRested v).filter.state = .filtering ∧ RestartStarts s v)) :
    u.filter = { s.filter with
      state := s.filter.state.rested s.line.tSettle, troughFull := s.filter.troughFull && !s.isOpen .sludge } ∧
    u.drive.spray = s.filter.state.restedSpray s.drive.spray ∧ u.supply.backwashDp = s.supply.backwashDp := by
  rw [h.published.blocks, restartHalted_eq, h.filter.held hnot, filterRested, h.ended.blocks]
  exact ⟨rfl, rfl, rfl⟩

/-- R45, R47: the filter of the restart, where a pending backwash starts. -/
theorem RestartPath.filter_started (hstate : (filterRested v).filter.state = .filtering) (hstarts : RestartStarts s v) :
    u.filter = { s.filter with
      state := .backwash (1000 * s.line.bwTime), pending := false
      troughFull := s.filter.troughFull && !s.isOpen .sludge } ∧
    u.drive.spray = .on true s.line.tSpray ∧
    u.supply.backwashDp = if s.supply.dpMark then s.supply.dp else s.line.dpTrigger := by
  obtain ⟨hfilter, hspray, hdp⟩ := h.filter.started hstate hstarts
  rw [h.published.blocks, restartHalted_eq]
  refine ⟨hfilter.trans ?_, hspray.trans ?_, hdp.trans ?_⟩ <;> rw [h.ended.blocks] <;> rfl

theorem RestartPath.trough : u.filter.troughFull = v.filter.troughFull ∧
    u.filter.troughFull = (s.filter.troughFull && !s.isOpen .sludge) := by
  have hv : v.filter.troughFull = (s.filter.troughFull && !s.isOpen .sludge) := by rw [h.ended.blocks]
  rw [hv]
  by_cases hgo : (filterRested v).filter.state = .filtering ∧ RestartStarts s v
  · rw [(h.filter_started hgo.1 hgo.2).1]
    exact ⟨rfl, rfl⟩
  · rw [(h.filter_held hgo).1]
    exact ⟨rfl, rfl⟩

/-- R45: the backwash of the restart in terms of the state it finds. -/
theorem RestartPath.starts_iff :
    ((filterRested v).filter.state = .filtering ∧ RestartStarts s v) ↔
      (s.filter.state = .filtering ∨ ∃ x y z, s.filter.state = .indexing x y z) ∧ s.filter.pending = true ∧
        1000 * s.line.bwGap ≤ s.filter.gap ∧ s.inSafeStop = false ∧ u.filter.troughFull = false ∧
        (s.filter.state = .filtering → s.filter.troughFull = true) := by
  rw [h.trough.1]
  have hv := h.ended.blocks
  have hstate : v.filter.state = s.filter.state := by rw [hv]
  have hrested : (filterRested v).filter.state = v.filter.state.rested v.line.tSettle := rfl
  rw [hrested, rested_filtering_iff, RestartStarts, hstate]
  have hpending : v.filter.pending = s.filter.pending := by rw [hv]
  have hgap : v.filter.gap = s.filter.gap := by rw [hv]
  have hline : v.line = s.line := by rw [hv]; rfl
  have hstop : v.inSafeStop = s.inSafeStop := by rw [hv]; rfl
  rw [hpending, hgap, hline, hstop]

/-- R45, R58: the filter of the restart, by the state in which the restart finds it. -/
structure FilterEnds (s t : State) : Prop where
  backwash : ∀ n, s.filter.state = .backwash n →
    t.filter = { s.filter with
      state := .settle (some (1000 * s.line.tSettle)), troughFull := t.filter.troughFull } ∧ t.drive.spray = .off
  settle : ∀ n, s.filter.state = .settle n →
    t.filter = { s.filter with troughFull := t.filter.troughFull } ∧ t.drive.spray = s.drive.spray
  indexing : ∀ x y z, s.filter.state = .indexing x y z → t.drive.fleeceMotor = false
  notIndexing : (∀ x y z, s.filter.state ≠ .indexing x y z) → t.drive.fleeceMotor = s.drive.fleeceMotor
  free : s.filter.state = .filtering ∨ (∃ x y z, s.filter.state = .indexing x y z) →
    let starts : Prop := s.filter.pending = true ∧ 1000 * s.line.bwGap ≤ s.filter.gap ∧ s.inSafeStop = false ∧
      t.filter.troughFull = false ∧ (s.filter.state = .filtering → s.filter.troughFull = true)
    (starts → t.filter = { s.filter with
        state := .backwash (1000 * s.line.bwTime), pending := false, troughFull := false } ∧
      t.drive.spray = .on true s.line.tSpray ∧
      t.supply.backwashDp = if s.supply.dpMark then s.supply.dp else s.line.dpTrigger) ∧
    (¬ starts → t.filter = { s.filter with state := .filtering, troughFull := t.filter.troughFull } ∧
      t.drive.spray = s.drive.spray ∧ t.supply.backwashDp = s.supply.backwashDp)
  backwashDp : (∃ n, s.filter.state = .backwash n) ∨ (∃ n, s.filter.state = .settle n) →
    t.supply.backwashDp = s.supply.backwashDp

theorem RestartPath.fleeceMotor : u.drive.fleeceMotor = s.filter.state.restedMotor s.drive.fleeceMotor := by
  rw [h.published.blocks, restartHalted_eq, h.filter.blocks, filterRested, h.ended.blocks]

theorem RestartPath.filterEnds : FilterEnds s u := by
  have hnot (hs : ¬ (s.filter.state = .filtering ∨ ∃ x y z, s.filter.state = .indexing x y z)) :
      ¬ ((filterRested v).filter.state = .filtering ∧ RestartStarts s v) := fun hgo => hs (h.starts_iff.mp hgo).1
  have htrough := h.trough.2
  refine ⟨fun n hs => ?_, fun n hs => ?_, fun x y z hs => ?_, fun hs => ?_, fun hs => ⟨fun hstarts => ?_,
    fun hno => ?_⟩,
    fun hs => ?_⟩
  · obtain ⟨hfilter, hspray, -⟩ := h.filter_held (hnot (by simp [hs]))
    rw [htrough, hspray, hfilter, hs]
    exact ⟨rfl, rfl⟩
  · obtain ⟨hfilter, hspray, -⟩ := h.filter_held (hnot (by simp [hs]))
    have hrested : s.filter.state.rested s.line.tSettle = s.filter.state := by rw [hs]; rfl
    rw [hrested, ← htrough] at hfilter
    exact ⟨hfilter, hspray.trans (by rw [hs]; rfl)⟩
  · rw [h.fleeceMotor, hs]
    rfl
  · rw [h.fleeceMotor]
    cases hstate : s.filter.state with
    | indexing x y z => exact absurd hstate (hs x y z)
    | filtering | backwash n | settle n => rfl
  · obtain ⟨hfiltering, hrestart⟩ := h.starts_iff.mpr ⟨hs, hstarts⟩
    obtain ⟨hfilter, hrest⟩ := h.filter_started hfiltering hrestart
    obtain ⟨-, -, -, hempty, -⟩ := hstarts
    rw [← htrough, hempty] at hfilter
    exact ⟨hfilter, hrest⟩
  · obtain ⟨hfilter, hspray, hdp⟩ := h.filter_held fun hgo => hno (h.starts_iff.mp hgo).2
    have hrested : s.filter.state.rested s.line.tSettle = .filtering := (rested_filtering_iff _ _).mpr hs
    have hsame : s.filter.state.restedSpray s.drive.spray = s.drive.spray := by
      rcases hs with hs | ⟨x, y, z, hs⟩ <;> rw [hs] <;> rfl
    rw [hrested, ← htrough] at hfilter
    exact ⟨hfilter, hspray.trans hsame, hdp⟩
  · exact (h.filter_held (hnot (by rcases hs with ⟨n, hs⟩ | ⟨n, hs⟩ <;> simp [hs]))).2.2

theorem RestartPath.requests :
    (∀ st, u.request (.station st) = none ∧ u.arbiter.late.get st = none) ∧
    u.request .sludge = (if u.filter.troughFull then
      some ⟨.sludge, min s.line.mSludge (4 * s.line.mPocket), 6, .pending⟩ else none) := by
  have hv := h.ended.blocks
  have harbiter : u.arbiter = { arbiterPowerOn with requests := repostedRequests v } := by
    rw [h.published.blocks, restartHalted_eq, h.filter.blocks, filterRested, congrArg State.arbiter hv]
  have htrough : u.filter.troughFull = v.filter.troughFull := h.trough.1
  have hline : v.line = s.line := by rw [hv]; rfl
  have hnone : v.arbiter.requests = .same none := by rw [hv]; rfl
  have hrequests : u.arbiter.requests = repostedRequests v := by rw [harbiter]
  rw [repostedRequests, hnone, hline, ← htrough] at hrequests
  refine ⟨fun st => ⟨?_, ?_⟩, ?_⟩
  · rw [State.request, hrequests]
    split_ifs
    · exact (PerSource.get_set_ne _ (by simp) _).trans (PerSource.get_same none _)
    · exact PerSource.get_same none _
  · rw [harbiter]
    exact PerStation.get_same none st
  · rw [State.request, hrequests]
    split_ifs <;> simp

theorem RestartPath.carousel :
    u.carousel = { s.carousel with
      queue := u.carousel.queue, counter := u.carousel.counter, mode := .run,
      requested := s.carousel.requested && !s.withdrawn } ∧
    ((∀ src, s.isOpen src = false) →
      u.carousel.queue = s.carousel.queue ∧ u.carousel.counter = s.carousel.counter) ∧
    (∀ src r k g d, s.request src = some r → r.state = .opened k g d →
      u.carousel.queue = (finalise src r k .cutShort s).1.carousel.queue ∧
        u.carousel.counter = (finalise src r k .cutShort s).1.carousel.counter) := by
  have hring := h.ended.lots.ring
  have hcarousel : u.carousel = { v.carousel with
      mode := .run, requested := v.carousel.requested && !v.withdrawn } := by
    rw [h.published.blocks, restartHalted_eq, h.filter.blocks]
    rfl
  have hwithdrawn : v.withdrawn = s.withdrawn := by rw [State.withdrawn, hring]; rfl
  refine ⟨?_, fun hclosed => ?_, fun src r k g d hr hstate => ?_⟩
  · rw [hcarousel, hwithdrawn, hring]
  · rw [hcarousel, h.ended.lots.kept hclosed]
    exact ⟨rfl, rfl⟩
  · rw [hcarousel, h.ended.lots.finalised src r k g d hr hstate]
    exact ⟨rfl, rfl⟩

theorem RestartPath.crusher : u.crusher = { s.crusher with
    state := if s.crusher.state = .blocked then .blocked else .stopped
    stallCount := 0
    binWait := none
    awaited := if s.withdrawn then none else s.crusher.awaited } := by
  have hwithdrawn : v.withdrawn = s.withdrawn := by rw [State.withdrawn, h.ended.lots.ring]; rfl
  have hw : w.withdrawn = v.withdrawn := by rw [h.filter.blocks]; rfl
  have hcrusher : w.crusher = s.crusher := by rw [h.filter.blocks, filterRested, h.ended.blocks]
  rw [h.published.blocks, restartHalted_eq, hw, hwithdrawn, hcrusher]

theorem RestartPath.measure : u.measure = { s.measure with
    chute := { s.measure.chute with enabled := s.measure.chute.enabled && s.noneOpen }
    shaft := if s.drive.direction = .stopped then s.measure.shaft else .idle } := by
  rw [h.published.blocks, restartHalted_eq, h.filter.blocks, filterRested, h.ended.blocks]

theorem RestartPath.drive :
    u.drive = { s.drive with
      channels := u.drive.channels, spray := u.drive.spray, fleeceMotor := u.drive.fleeceMotor
      gates := u.drive.gates, dumpValve := s.drive.dumpValve && !s.isOpen .sludge, direction := .stopped } ∧
    (∀ st, u.drive.gates.get st = (s.drive.gates.get st && !s.isOpen (.station st))) ∧
    ∀ sl, u.drive.channels.get sl = { s.drive.channels.get sl with
      pending := if 0 < (s.drive.channels.get sl).applied then some (.reduction 0) else none } := by
  have hu : u.drive = { w.drive with direction := .stopped, channels := u.drive.channels } :=
    (congrArg State.drive h.published.blocks).trans (by rw [restartHalted_eq])
  have hw := congrArg State.drive h.filter.blocks
  have hv := congrArg State.drive h.ended.blocks
  have hgates : u.drive.gates = v.drive.gates := by rw [hu, hw]; rfl
  refine ⟨?_, fun st => by rw [hgates, h.ended.gates], fun sl => ?_⟩
  · have hspray : u.drive.spray = w.drive.spray := by rw [hu]
    have hmotor : u.drive.fleeceMotor = v.filter.state.restedMotor v.drive.fleeceMotor := by rw [hu, hw]; rfl
    rw [hspray, hmotor, hgates, hu, hw, filterRested, hv]
  · have hchannel := h.published.channels sl
    have hhalted : (restartHalted w).drive.channels = w.drive.channels := by rw [restartHalted_eq]
    have hsame : v.drive.channels = s.drive.channels := by rw [hv]
    rw [hchannel, hhalted, h.filter.applied sl, hsame]

theorem RestartPath.supply : u.supply = { s.supply with
    backwashDp := u.supply.backwashDp
    published := forcedFigure u } := by
  have hforced : forcedFigure u = forcedFigure (restartHalted w) := by
    rw [h.published.blocks]
    rfl
  have hu : u.supply = { w.supply with published := forcedFigure u } := by
    rw [hforced]
    exact (congrArg State.supply h.published.blocks).trans (by rw [restartHalted_eq])
  have hw : w.supply = { s.supply with
      backwashDp := w.supply.backwashDp, published := w.supply.published } := by
    have hv : v.supply = s.supply := by rw [h.ended.blocks]
    exact hv ▸ congrArg State.supply h.filter.blocks
  have hdp : u.supply.backwashDp = w.supply.backwashDp := by rw [hu]
  rw [hdp]
  refine hu.trans ?_
  rw [hw]

end

end Sys2Proof.Machine
end

section
/-! How a line restart goes on (R176): the arbitration over the sludge request alone, and the crusher from STOPPED. -/

namespace Sys2Proof.Machine

/-! ## The arbitration -/

/-- R76: an arbitration at which the sludge request is the only one. -/
structure SludgeArbitrated (u a : State) : Prop where
  stations : ∀ st, a.request (.station st) = none
  late : a.arbiter.late = u.arbiter.late
  sludge : a.request .sludge ≠ none ↔ u.request .sludge ≠ none
  blocks : a = { u with
    arbiter := a.arbiter
    measure := { u.measure with chute := if a.isOpen .sludge then ⟨0, true⟩ else u.measure.chute }
    drive := { u.drive with dumpValve := a.isOpen .sludge || u.drive.dumpValve } }

theorem arbitrate_sludge {u : State} (hstations : ∀ st, u.request (.station st) = none)
    (hpending : ∀ r, u.request .sludge = some r → r.state = .pending) : SludgeArbitrated u (arbitrate u) := by
  rcases arbitrate_cases u with heq | ⟨src, r, -, hr, -, -, heq⟩ <;> rw [heq]
  · have hclosed : u.isOpen .sludge = false := by
      cases hr : u.request .sludge with
      | none => rw [isOpen_eq, hr]; rfl
      | some r => exact isOpen_of_notCurrent (notCurrent_of_pending hr (hpending r hr))
    refine ⟨hstations, rfl, .rfl, ?_⟩
    simp [hclosed]
  · cases src with
    | station st =>
      rw [hstations] at hr
      cases hr
    | sludge =>
      have hrequest (a : Source) := request_choose .sludge a r (requestSpan r.estimate u.line.mPocket) u
      have hopen : (choose .sludge r (requestSpan r.estimate u.line.mPocket) u).isOpen .sludge = true := by
        rw [isOpen_eq, hrequest, if_pos rfl]
        rfl
      refine ⟨fun st => by rw [hrequest, if_neg (by simp), hstations], rfl, by simp [hrequest, hr], ?_⟩
      rw [hopen, choose, sec_eq, openGate_sludge]
      rfl

/-! ## The crusher -/

/-- A lot whatever its stage. -/
def LotRecord.unstaged (l : LotRecord) : LotRecord := { l with stage := .queued }

/-- R123: what stays as it is when the crusher goes on from STOPPED. -/
structure GoesOn (s t : State) : Prop where
  lots : t.carousel.queue.map LotRecord.unstaged = s.carousel.queue.map LotRecord.unstaged
  counter : t.carousel.counter = s.carousel.counter
  survey : t.carousel.survey = s.carousel.survey
  mode : s.carousel.mode = .run → t.carousel.mode = .run
  slot : t.crusher.slot = s.crusher.slot
  measure : t.measure = { s.measure with shaft := t.measure.shaft }
  drive : t.drive = { s.drive with
    direction := t.drive.direction, speed := t.drive.speed, flap := t.drive.flap, step := t.drive.step }
  stations : t.events.stations = s.events.stations
  hall : ∀ k, k ≠ .binFull → t.events.hall.get k = s.events.hall.get k

theorem GoesOn.refl (s : State) : GoesOn s s := ⟨rfl, rfl, rfl, id, rfl, rfl, rfl, rfl, fun _ _ => rfl⟩

theorem GoesOn.trans {s t u : State} (h : GoesOn s t) (g : GoesOn t u) : GoesOn s u :=
  ⟨g.lots.trans h.lots, g.counter.trans h.counter, g.survey.trans h.survey, fun hm => g.mode (h.mode hm),
    g.slot.trans h.slot, by rw [g.measure, h.measure], by rw [g.drive, h.drive], g.stations.trans h.stations,
    fun k hk => (g.hall k hk).trans (h.hall k hk)⟩

theorem driveCrusher_goesOn (d : Direction) (setpoint : Option Nat) (s : State) (c : CrusherState) :
    GoesOn s (driveCrusher d setpoint (setCrusherState c s)) := by
  rw [driveCrusher_eq]
  exact ⟨rfl, rfl, rfl, id, rfl, rfl, rfl, rfl, fun _ _ => rfl⟩

theorem waitForBin_goesOn (f : Family) (s : State) : GoesOn s (waitForBin f s) := by
  unfold waitForBin postHall
  split_ifs
  · exact .refl s
  · exact ⟨rfl, rfl, rfl, id, rfl, rfl, rfl, rfl, fun _ _ => rfl⟩
  · exact ⟨rfl, rfl, rfl, id, rfl, rfl, rfl, rfl, fun k hk => (PerHallKind.get_set _ _ _ _).trans (if_neg hk)⟩

theorem tryIndexStart_goesOn (s : State) : GoesOn s (tryIndexStart s) := by
  unfold tryIndexStart
  split
  · split
    · exact .refl s
    · next l rest hqueue =>
      refine ⟨?_, rfl, rfl, fun hmode => ?_, rfl, rfl, rfl, rfl, fun _ _ => rfl⟩
      · rw [hqueue]
        rfl
      · show s.carousel.mode.useRelease = .run
        rw [hmode]
        rfl
  · exact .refl s

theorem askForIndex_goesOn {l : LotRecord} {s : State} (hhead : s.headLot = some l) (hstage : l.stage = .queued) :
    GoesOn s (askForIndex l s) := by
  rw [askForIndex_eq hhead hstage]
  have hrequest : GoesOn s (requestIndex l s) := ⟨rfl, rfl, rfl, id, rfl, rfl, rfl, rfl, fun _ _ => rfl⟩
  exact hrequest.trans (tryIndexStart_goesOn _)

theorem endBinWait_goesOn (s : State) : GoesOn s (endBinWait s) :=
  ⟨rfl, rfl, rfl, id, rfl, rfl, rfl, rfl, fun _ _ => rfl⟩

theorem setFlap_goesOn (f : Flap) (s : State) : GoesOn s (setFlap f s) :=
  ⟨rfl, rfl, rfl, id, rfl, rfl, rfl, rfl, fun _ _ => rfl⟩

/-- R106, R107, R111: from STOPPED the evaluation waits for the bin, runs the crusher up or asks for the sludge lot. -/
theorem feedEvaluation_goesOn {s : State} (hstate : s.crusher.state = .stopped) : GoesOn s (feedEvaluation s) := by
  have hstate' : (endBinWait s).crusher.state = .stopped := hstate
  unfold feedEvaluation
  split
  · split
    · exact .refl s
    · next l hhead =>
      have hhead' : (setFlap .sludge (endBinWait s)).headLot = some l := hhead
      split_ifs with hstage hfull
      · exact waitForBin_goesOn l.family s
      · refine (endBinWait_goesOn s).trans ?_
        cases l.content with
        | chips m c =>
          simp only [feedChips, hstate']
          exact driveCrusher_goesOn _ _ _ _
        | sludge =>
          simp only [feedSludge, hstate']
          exact (setFlap_goesOn _ _).trans (askForIndex_goesOn hhead' hstage)
      · exact .refl s
  · exact .refl s

/-- R123 step 4: what the crusher's going on leaves as it is. -/
theorem crusherGoOn_goesOn (s : State) : GoesOn s (crusherGoOn s) := by
  unfold crusherGoOn
  split
  · next hstate =>
    split
    · split_ifs
      · exact driveCrusher_goesOn _ _ _ _
      · exact driveCrusher_goesOn _ _ _ _
    · split
      · split
        · split_ifs
          · exact .refl s
          · exact driveCrusher_goesOn _ _ _ _
        · exact .refl s
      · exact feedEvaluation_goesOn hstate
  · exact .refl s

end Sys2Proof.Machine
end

section
/-! LINE_RESTART (O55). -/

namespace Sys2Proof.Machine

/-- R176: what a restart of `s`, which reached `u`, leaves as `u` has it, and how it goes on. -/
structure RestartDone (s u x : State) : Prop where
  goesOn : x = if s.inSafeStop then arbitrate u else crusherGoOn (arbitrate u)
  same : x.powered = u.powered ∧ x.ports = u.ports ∧ x.watches = u.watches ∧ x.slots = u.slots ∧
    x.supply = u.supply ∧ x.filter = u.filter ∧ x.store = u.store ∧ x.stop = u.stop ∧ x.ties = u.ties ∧
    x.pending = u.pending
  arbiter : x.arbiter = (arbitrate u).arbiter
  arbitrated : SludgeArbitrated u (arbitrate u)
  keeps : GoesOn (arbitrate u) x

theorem RestartPath.pendingSludge {s v w u : State} (h : RestartPath s v w u) {r : DischargeRequest}
    (hr : u.request .sludge = some r) : r.state = .pending := by
  rw [h.requests.2] at hr
  split_ifs at hr
  obtain rfl := Option.some.inj hr
  rfl

theorem RestartPath.done {s v w u : State} (h : RestartPath s v w u) :
    RestartDone s u (crusherAfterRestart (arbitrate u)) := by
  have hstop : (arbitrate u).inSafeStop = s.inSafeStop :=
    (inSafeStop_congr (by simp)).trans (inSafeStop_congr h.same.2.2.1)
  refine ⟨?_, by simp, by simp, arbitrate_sludge (fun st => (h.requests.1 st).1) fun r hr => h.pendingSludge hr, ?_⟩
  · rw [crusherAfterRestart, hstop]
  · rw [crusherAfterRestart]
    split_ifs
    · exact .refl _
    · exact crusherGoOn_goesOn _

section
variable {s u x : State} (h : RestartDone s u x)
include h

theorem RestartDone.drive : x.drive.channels = u.drive.channels ∧ x.drive.spray = u.drive.spray ∧
    x.drive.fleeceMotor = u.drive.fleeceMotor ∧ x.drive.gates = u.drive.gates ∧ x.drive.binGate = u.drive.binGate ∧
    x.drive.periodLeft = u.drive.periodLeft ∧ x.drive.dumpValve = (x.isOpen .sludge || u.drive.dumpValve) := by
  have hopen : x.isOpen .sludge = (arbitrate u).isOpen .sludge := isOpen_of_requests (by rw [h.arbiter]) _
  have hdrive : (arbitrate u).drive = { u.drive with
      dumpValve := (arbitrate u).isOpen .sludge || u.drive.dumpValve } := congrArg State.drive h.arbitrated.blocks
  rw [h.keeps.drive, hdrive, hopen]
  exact ⟨rfl, rfl, rfl, rfl, rfl, rfl, rfl⟩

theorem RestartDone.measure : x.measure.conversion = u.measure.conversion ∧ x.measure.sensor = u.measure.sensor ∧
    x.measure.monitor = u.measure.monitor ∧ x.measure.supplyGood = u.measure.supplyGood ∧
    x.measure.chute = if x.isOpen .sludge then ⟨0, true⟩ else u.measure.chute := by
  have hopen : x.isOpen .sludge = (arbitrate u).isOpen .sludge := isOpen_of_requests (by rw [h.arbiter]) _
  have hmeasure : (arbitrate u).measure = { u.measure with
      chute := if (arbitrate u).isOpen .sludge then ⟨0, true⟩ else u.measure.chute } :=
    congrArg State.measure h.arbitrated.blocks
  rw [h.keeps.measure, hmeasure, hopen]
  exact ⟨rfl, rfl, rfl, rfl, rfl⟩

theorem RestartDone.request (src : Source) : x.request src = (arbitrate u).request src :=
  request_of_arbiter h.arbiter src

theorem RestartDone.carousel : x.carousel.queue.map LotRecord.unstaged = u.carousel.queue.map LotRecord.unstaged ∧
    x.carousel.counter = u.carousel.counter ∧ x.carousel.survey = u.carousel.survey ∧
    (u.carousel.mode = .run → x.carousel.mode = .run) := by
  have hcarousel : (arbitrate u).carousel = u.carousel := by simp
  rw [← hcarousel]
  exact ⟨h.keeps.lots, h.keeps.counter, h.keeps.survey, h.keeps.mode⟩

theorem RestartDone.events : x.events.stations = u.events.stations ∧
    ∀ k, k ≠ .binFull → x.events.hall.get k = u.events.hall.get k := by
  have hevents : (arbitrate u).events = u.events := by rw [h.arbitrated.blocks]
  rw [← hevents]
  exact ⟨h.keeps.stations, h.keeps.hall⟩

theorem RestartDone.slot : x.crusher.slot = u.crusher.slot := by
  have hcrusher : (arbitrate u).crusher = u.crusher := by simp
  rw [← hcrusher]
  exact h.keeps.slot

theorem RestartDone.inStop (hstop : u.inSafeStop = true) (hs : s.inSafeStop = true) : x = u := by
  rw [h.goesOn, if_pos hs, arbitrate_of_stop hstop]

end

theorem FilterEnds.congr {s u x : State} (h : FilterEnds s u) (hfilter : x.filter = u.filter)
    (hspray : x.drive.spray = u.drive.spray) (hmotor : x.drive.fleeceMotor = u.drive.fleeceMotor)
    (hsupply : x.supply = u.supply) : FilterEnds s x := by
  refine ⟨?_, ?_, ?_, ?_, ?_, ?_⟩ <;> simp only [hfilter, hspray, hmotor, hsupply]
  · exact h.backwash
  · exact h.settle
  · exact h.indexing
  · exact h.notIndexing
  · exact h.free
  · exact h.backwashDp

/-- R179, R181: the reply of a restart, on the port that the restart has left. -/
theorem lineRestart_served {tag : Byte} {s : State} (h : Admits .hall .lineRestart tag [] s) :
    ∃ rx, rx = (if (s.ports.get .hall).held = none then RxState.hunting else (s.ports.get .hall).rx) ∧
      requestOf .hall .lineRestart tag [] ruleLineRestart s = { lineRestart s with
        ports := (lineRestart s).ports.set .hall { (lineRestart s).ports.get .hall with
          held := none, rx := rx
          tx := some ⟨makeReply .hall tag 0x92#8 .done [] (lineRestart s), 2⟩ } } := by
  obtain ⟨rx, hserve, hrx⟩ := takeRequest_takes .hall ⟨tag, kindCode .lineRestart, []⟩
    (checked .hall .lineRestart [] ruleLineRestart) s h.1
  refine ⟨rx, hrx, ?_⟩
  have hrule := checked_admits .hall .lineRestart tag [] ruleLineRestart s h
  rw [requestOf, hserve, serve, hrule, ruleLineRestart, bare, startReply, setPort_eq, setPort_eq]
  generalize lineRestart s = x
  have hsend : sendTime (makeReply .hall tag 0x92#8 .done [] x) = 2 := by
    have hpayload : (makeReply .hall tag 0x92#8 .done [] x).payload = [] := rfl
    rw [sendTime, hpayload]
    rfl
  rw [← hsend]
  rfl

end Sys2Proof.Machine

namespace Sys2Proof
open Machine

/-- Settles O55: the restart by its stages, in every block. -/
theorem lineRestart : Obligations.LineRestart := by
  unfold Obligations.LineRestart
  intro tag s bare hadmits hunique
  obtain ⟨rx, hrx, hserved⟩ := lineRestart_served hadmits
  obtain ⟨v, w, hpath⟩ := restart_path hunique
  have hdone := hpath.done
  rw [← lineRestart_eq] at hdone
  generalize Machine.lineRestart s = x at hserved hdone
  generalize restartMiddle s = u at hpath hdone
  refine ⟨_, running_of_admits hadmits _, ?_⟩
  rw [hserved]
  obtain ⟨hpowered, hstore, hstop, hpending, hties, hwatches, hslots, hports⟩ := hpath.same
  obtain ⟨hpowered', hports', hwatches', hslots', hsupply', hfilter', hstore', hstop', hties', hpending'⟩ := hdone.same
  obtain ⟨hstations, hsludge⟩ := hpath.requests
  obtain ⟨hring, hkept, hfinalised⟩ := hpath.carousel
  obtain ⟨hdrive, hgates, hchannels⟩ := hpath.drive
  obtain ⟨hlots, hcounter, hsurvey, hmode⟩ := hdone.carousel
  obtain ⟨hchannels', hspray', hmotor', hgates', hbin', hperiod', hdump'⟩ := hdone.drive
  obtain ⟨hconversion', hsensor', hmonitor', hgood', hchute'⟩ := hdone.measure
  obtain ⟨hsets, hhall⟩ := hdone.events
  have htrough : x.filter.troughFull = (s.filter.troughFull && !s.isOpen .sludge) := by
    rw [hfilter', hpath.trough.2]
  have hend : FilterEnds s x := hpath.filterEnds.congr hfilter' hspray' hmotor' hsupply'
  have hport (q : Port) : x.ports.get q = { s.ports.get q with discards := 0 } := by
    rw [hports', hports, PerPort.get_mapKeys]
  have hxstop : x.inSafeStop = s.inSafeStop := inSafeStop_congr (hstop'.trans hstop)
  have hsafe : u.inSafeStop = s.inSafeStop := inSafeStop_congr hstop
  refine ⟨fun r hr rx' hrx' => ?_, fun q hq => ?_, ?_, ?_, ?_, ?_, ?_, fun st => ⟨?_, ?_, ?_, ?_⟩, fun sl => ?_,
    fun st k => ?_, fun k hk => ?_, ?_, ?_, fun hclosed => ?_, fun src r k g d hr hstate => ?_, ?_, ?_,
    hend.backwash, fun n hn => (hend.settle n hn).1, hend.indexing, hend.notIndexing,
    fun ⟨n, hn⟩ => (hend.settle n hn).2, hend.free, hend.backwashDp, ?_, fun sl => ?_, ?_, ?_, ?_, ?_, ?_, ?_, ?_, ?_,
    ?_, fun hs => ?_, ?_⟩
  · have hreply : makeReply .hall tag 0x92#8 .done [] x = r := by
      rw [hr, makeReply, hxstop]
      rfl
    show (x.ports.set .hall _).get .hall = _
    rw [PerPort.get_set_same, hport, hreply, hrx', ← hrx]
  · show (x.ports.set .hall _).get q = _
    rw [PerPort.get_set_ne _ hq, hport]
  · exact hpowered'.trans (hpowered.trans hadmits.1.1)
  · exact hstore'.trans hstore
  · exact hstop'.trans hstop
  · exact hpending'.trans hpending
  · exact hties'.trans hties
  · show x.watches.get st = _
    rw [hwatches', hwatches, PerStation.get_same]
    rfl
  · exact (hdone.request _).trans (hdone.arbitrated.stations st)
  · show x.arbiter.late.get st = none
    rw [hdone.arbiter, hdone.arbitrated.late]
    exact (hstations st).2
  · show x.drive.gates.get st = _
    rw [hgates', hgates]
  · show x.slots.get sl = none
    rw [hslots', hslots, PerSlot.get_same]
  · show (x.events.stations.get st).get k = false
    rw [hsets]
    exact hpath.published.stations st k
  · exact (hhall k hk).trans (hpath.published.hall k)
  · exact hmode (by rw [hring])
  · exact hsurvey.trans (by rw [hring])
  · obtain ⟨hqueue, hcount⟩ := hkept hclosed
    exact ⟨hlots.trans (by rw [hqueue]; rfl), hcounter.trans hcount⟩
  · obtain ⟨hqueue, hcount⟩ := hfinalised src r k g d hr hstate
    exact ⟨hlots.trans (by rw [hqueue]; rfl), hcounter.trans hcount⟩
  · exact htrough
  · show x.request .sludge ≠ none ↔ x.filter.troughFull = true
    rw [hdone.request, hdone.arbitrated.sludge, hsludge, hfilter']
    split_ifs with hfull <;> simp [hfull]
  · have hfigure := forcedFigure_congr hsupply' hfilter' hstore' hstop'
    show x.supply = { s.supply with backwashDp := x.supply.backwashDp, published := forcedFigure x }
    rw [hfigure, hsupply']
    exact hpath.supply
  · exact hchannels' ▸ hchannels sl
  · exact hdone.slot.trans (by rw [hpath.crusher])
  · exact hconversion'.trans (by rw [hpath.measure])
  · exact hsensor'.trans (by rw [hpath.measure])
  · exact hmonitor'.trans (by rw [hpath.measure])
  · exact hgood'.trans (by rw [hpath.measure])
  · exact hchute'.trans (by rw [hpath.measure]; rfl)
  · exact hdump'.trans (by rw [hdrive]; rfl)
  · exact hbin'.trans (by rw [hdrive])
  · exact hperiod'.trans (by rw [hdrive])
  · have heq := hdone.inStop (hsafe.trans hs) hs
    have hflap := congrArg Drive.flap hdrive
    have hstep := congrArg Drive.step hdrive
    have hdirection := congrArg Drive.direction hdrive
    have hspeed := congrArg Drive.speed hdrive
    have hshaft := congrArg Measure.shaft hpath.measure
    rw [← heq] at hflap hstep hdirection hspeed hshaft
    exact ⟨hflap, hstep, hdirection, hspeed, hshaft⟩
  · intro withdrawn
    refine ⟨u, hpowered.trans hadmits.1.1, hstore, hstop, hpending, hties, hwatches'.symm, hslots'.symm, hsupply'.symm,
      hfilter'.symm, hstations, ?_, hpath.published.stations, hpath.published.hall, hpath.crusher, hring, hkept,
      hfinalised, hpath.measure, ?_, ?_⟩
    · rw [hsludge, hfilter']
    · show u.drive = { s.drive with
        channels := x.drive.channels, spray := x.drive.spray, fleeceMotor := x.drive.fleeceMotor
        gates := x.drive.gates, dumpValve := s.drive.dumpValve && !s.isOpen .sludge, direction := .stopped }
      rw [hchannels', hspray', hmotor', hgates']
      exact hdrive
    · rw [← hdone.goesOn]
      rfl

end Sys2Proof
end

section
/-! The running of time and the commands that are due (O3). -/

namespace Sys2Proof.Machine

/-! ## The commands that are due -/

theorem mem_dueWhen {c i : Instr} {n : Nat} : c ∈ dueWhen n i ↔ n = 0 ∧ c = i := by
  unfold dueWhen
  split_ifs with h <;> simp [h]

theorem mem_duePort {c : Instr} {s : State} {p : Port} : c ∈ duePort s p ↔
    (∃ r, (s.ports.get p).held = some r ∧ c = heldCommand p r) ∨
    (∃ b, (s.ports.get p).rx = .assembling b 0 ∧ c = .frameGapTimeout p) ∨
    (∃ x, (s.ports.get p).tx = some x ∧ x.left = 0 ∧ c = .replyTransmissionEnd p) := by
  simp only [duePort, List.mem_append, or_assoc]
  refine or_congr ?_ (or_congr ?_ ?_)
  · cases (s.ports.get p).held <;> simp
  · cases (s.ports.get p).rx <;> simp [mem_dueWhen]
  · cases (s.ports.get p).tx <;> simp [mem_dueWhen]

theorem mem_dueWatch {c : Instr} {s : State} {st : Station} : c ∈ dueWatch s st ↔
    (s.watches.get st).timer = some 0 ∧ c = .keepalivePeriodExpiry st := by
  unfold dueWatch
  cases (s.watches.get st).timer <;> simp [mem_dueWhen]

theorem mem_dueDischarge {c : Instr} {s : State} {src : Source} : c ∈ dueDischarge s src ↔
    (∃ r k, s.request src = some r ∧ r.state = .offered k 0 ∧ c = .offerWindowExpiry) ∨
    (∃ r k d, s.request src = some r ∧ r.state = .opened k 0 d ∧ c = .gateWindowExpiry) ∨
    (∃ r k g, s.request src = some r ∧ r.state = .opened k g (some 0) ∧ c = .dumpTimerExpiry) := by
  unfold dueDischarge
  cases s.request src with
  | none => simp
  | some r =>
    simp only [Option.map_some, Option.some.injEq, exists_eq_left', exists_and_left]
    cases r.state with
    | pending => simp
    | offered k w => simp [mem_dueWhen]
    | opened k g d => cases d <;> simp [mem_dueWhen]

theorem mem_dueCarousel {c : Instr} {s : State} : c ∈ dueCarousel s ↔
    (∃ k, s.carousel.index = .indexing k 0 ∧ c = .stepTimerExpiry) ∨
    (s.measure.sensor.confirming = some 0 ∧ c = .indexEdge) := by
  simp only [dueCarousel, List.mem_append]
  refine or_congr ?_ ?_
  · cases s.carousel.index <;> simp [mem_dueWhen]
  · cases s.measure.sensor.confirming <;> simp [mem_dueWhen]

theorem mem_dueCrusher {c : Instr} {s : State} : c ∈ dueCrusher s ↔
    (s.crusher.state = .runUp 0 ∧ c = .runUpExpiry) ∨ (s.crusher.state = .idleRun 0 ∧ c = .idleExpiry) ∨
    (∃ f, s.crusher.state = .purge 0 f ∧ c = .purgeExpiry) ∨
    (s.crusher.state = .reversing 0 ∧ c = .reverseExpiry) ∨ (s.crusher.state = .runDown 0 ∧ c = .runDownExpiry) ∨
    (∃ x, s.crusher.state = .crushing ∧ s.crusher.slot = some x ∧ x.remaining = 0 ∧ c = .endOfFeed) ∨
    (∃ x, s.crusher.state = .passThrough ∧ s.crusher.slot = some x ∧ x.remaining = 0 ∧ c = .endOfTransit) ∨
    (∃ n k, s.measure.shaft = .counting n k 0 ∧ c = .shaftWindowEnd) := by
  have hstate (A B C D E F G : Prop) (X : Prop) : A ∨ B ∨ C ∨ D ∨ E ∨ F ∨ G ∨ X ↔ (A ∨ B ∨ C ∨ D ∨ E ∨ F ∨ G) ∨ X := by
    simp only [or_assoc]
  rw [hstate]
  simp only [dueCrusher, List.mem_append]
  refine or_congr ?_ ?_
  · cases s.crusher.state with
    | crushing | passThrough => cases s.crusher.slot <;> simp [mem_dueWhen]
    | _ => simp [mem_dueWhen]
  · cases s.measure.shaft <;> simp [mem_dueWhen]

theorem mem_dueFilter {c : Instr} {s : State} : c ∈ dueFilter s ↔
    (s.filter.state = .filtering ∧ s.filter.pending = true ∧ 1000 * s.line.bwGap ≤ s.filter.gap ∧
      s.filter.troughFull = false ∧ s.inSafeStop = false ∧ c = .gapTimerExpiry) ∨
    (s.filter.state = .backwash 0 ∧ c = .backwashTimerExpiry) ∨
    (s.filter.state = .settle (some 0) ∧ c = .settleTimerExpiry) ∨
    (∃ l m, s.filter.state = .indexing l m 0 ∧ c = .fleeceStallExpiry) ∨
    (∃ b, s.drive.spray = .on b 0 ∧ c = .sprayToggleExpiry) := by
  have hstate (A B C D X : Prop) : A ∨ B ∨ C ∨ D ∨ X ↔ (A ∨ B ∨ C ∨ D) ∨ X := by simp only [or_assoc]
  rw [hstate]
  simp only [dueFilter, List.mem_append]
  refine or_congr ?_ ?_
  · cases s.filter.state with
    | filtering =>
      have hallowed := backwashAllowed_iff s
      have hgap := gapElapsed_iff s
      split_ifs with hmay
      · simp only [Bool.and_eq_true, hgap, hallowed] at hmay
        simp [hmay]
      · simp only [Bool.and_eq_true, hgap, hallowed] at hmay
        simp
        tauto
    | settle left => cases left <;> simp [mem_dueWhen]
    | backwash n | indexing l m n => simp [mem_dueWhen]
  · cases s.drive.spray <;> simp [mem_dueWhen]

theorem mem_dueStoreAndSupply {c : Instr} {s : State} : c ∈ dueStoreAndSupply s ↔
    (∃ k p, s.store.save = .saving k p 0 ∧ c = .saveTimerExpiry) ∨
    (s.measure.monitor = .dip 0 ∧ c = .dipTimerExpiry) ∨
    (s.measure.monitor = .recovering 0 ∧ c = .recoveryTimerExpiry) := by
  simp only [dueStoreAndSupply, List.mem_append]
  refine or_congr ?_ ?_
  · cases s.store.save <;> simp [mem_dueWhen]
  · cases s.measure.monitor <;> simp [mem_dueWhen]

theorem mem_dueChannel {c : Instr} {s : State} {sl : Slot} : c ∈ dueChannel s sl ↔
    (s.drive.channels.get sl).output = true ∧ (s.drive.channels.get sl).applied < 1000 ∧
      s.drive.periodLeft + (s.drive.channels.get sl).applied ≤ 1000 ∧ c = .appliedDutyElapsed sl := by
  have hperiod : Config.valvePeriod = 1000 := rfl
  simp [dueChannel, hperiod, and_assoc]

theorem mem_due {c : Instr} {s : State} : c ∈ s.due ↔
    (∃ p, c ∈ duePort s p) ∨ (∃ st, c ∈ dueWatch s st) ∨ (∃ src, c ∈ dueDischarge s src) ∨ c ∈ dueCarousel s ∨
      c ∈ dueCrusher s ∨ c ∈ dueFilter s ∨ c ∈ dueStoreAndSupply s ∨ (∃ sl, c ∈ dueChannel s sl) ∨
      (s.drive.periodLeft = 0 ∧ c = .periodEnd) := by
  simp only [State.due, List.mem_append, List.mem_flatMap, mem_allPorts, mem_allStations, mem_allSources, mem_allSlots,
    true_and, or_assoc, mem_dueWhen]

/-! ## One millisecond, block by block -/

theorem tick_carousel (s : State) : (tick s).carousel = { s.carousel with
    index := match s.carousel.index with
      | .idle => .idle
      | .indexing k n => .indexing k (n - 1)
      | .suspended k b => .suspended k b
      | .faulted k => .faulted k } := by
  unfold tick
  cases s.carousel.index <;> rfl

theorem tickCrusherState_eq (c : CrusherState) : tickCrusherState c = match c with
    | .stopped => .stopped
    | .runUp n => .runUp (n - 1)
    | .idleRun n => .idleRun (n - 1)
    | .purge n f => .purge (n - 1) f
    | .crushing => .crushing
    | .reversing n => .reversing (n - 1)
    | .blocked => .blocked
    | .passThrough => .passThrough
    | .runDown n => .runDown (n - 1) := by
  cases c <;> rfl

/-- R114, R119: the remaining runs in CRUSHING and PASS_THROUGH alone. -/
theorem map_tickSlot (c : CrusherState) (x : Option SlotLot) : x.map (tickSlot c) =
    if c = .crushing ∨ c = .passThrough then x.map (fun y => { y with remaining := y.remaining - 1 }) else x := by
  have hkeep (h : ∀ y, tickSlot c y = y) : x.map (tickSlot c) = x := by rw [funext h]; exact Option.map_id'
  cases c with
  | crushing | passThrough => rw [if_pos (by simp)]; rfl
  | stopped | runUp n | idleRun n | purge n f | reversing n | blocked | runDown n =>
    rw [if_neg (by simp)]
    exact hkeep fun _ => rfl

theorem tick_store (s : State) : (tick s).store = { s.store with
    save := match s.store.save with | .idle => .idle | .saving k c n => .saving k c (n - 1) } := by
  unfold tick
  cases s.store.save <;> rfl

theorem tickMeasure_shaft (m : Measure) : (tickMeasure m).shaft =
    match m.shaft with | .idle => .idle | .counting c k n => .counting c k (n - 1) := by
  unfold tickMeasure
  cases m.shaft <;> rfl

theorem tickMeasure_monitor (m : Measure) : (tickMeasure m).monitor = match m.monitor with
    | .good => .good
    | .dip n => .dip (n - 1)
    | .failed => .failed
    | .recovering n => .recovering (n - 1) := by
  unfold tickMeasure
  cases m.monitor <;> rfl

theorem tickMeasure_eq (m : Measure) : tickMeasure m = { m with
    conversion := { m.conversion with elapsed := min 100 (m.conversion.elapsed + 1) }
    shaft := (tickMeasure m).shaft
    sensor := { m.sensor with confirming := m.sensor.confirming.map fun k => k - 1 }
    monitor := (tickMeasure m).monitor } := rfl

theorem tickDrive_eq (d : Drive) : tickDrive d = { d with
    periodLeft := d.periodLeft - 1
    spray := match d.spray with | .off => .off | .on b n => .on b (n - 1) } := by
  unfold tickDrive
  cases d.spray <;> rfl

theorem tickFilterState_eq (f : FilterState) : tickFilterState f = match f with
    | .filtering => .filtering
    | .backwash n => .backwash (n - 1)
    | .settle n => .settle (n.map fun k => k - 1)
    | .indexing l m n => .indexing l m (n - 1) := by
  cases f <;> rfl

/-- A tick, block by block. -/
theorem tick_eq (s : State) : tick s = { s with
    ports := (tick s).ports
    watches := (tick s).watches
    arbiter := { s.arbiter with requests := (tick s).arbiter.requests }
    carousel := (tick s).carousel
    crusher := { s.crusher with
      state := tickCrusherState s.crusher.state, slot := s.crusher.slot.map (tickSlot s.crusher.state) }
    filter := { s.filter with state := tickFilterState s.filter.state, gap := min 3600000 (s.filter.gap + 1) }
    store := (tick s).store
    measure := tickMeasure s.measure
    drive := tickDrive s.drive } := rfl

/-- Settles O3: the timers block by block, the due commands part by part, and the held requests kind by kind. -/
theorem runningOfTime : Obligations.RunningOfTime := by
  unfold Obligations.RunningOfTime
  refine ⟨?_, fun s c => ?_, fun p tag payload => ⟨fun code hcode => ?_, ?_⟩⟩
  · intro s less t
    refine ⟨fun p => ?_, fun st => ?_, fun src => ?_, ?_⟩
    · refine (PerPort.get_mapKeys _ _ _).trans ?_
      rw [tickPort]
      cases (s.ports.get p).rx <;> rfl
    · exact PerStation.get_mapKeys _ _ _
    · refine (PerSource.get_mapKeys _ _ _).trans (congrArg (fun f => (s.request src).map f) (funext fun r => ?_))
      rw [tickRequest]
      cases r.state <;> rfl
    · refine (tick_eq s).trans ?_
      rw [tick_carousel, tickCrusherState_eq, map_tickSlot, tick_store, tickMeasure_eq, tickMeasure_shaft,
        tickMeasure_monitor, tickDrive_eq, tickFilterState_eq] <;> rfl
  · rw [mem_due]
    simp only [mem_duePort, mem_dueWatch, mem_dueDischarge, mem_dueCarousel, mem_dueCrusher, mem_dueFilter,
      mem_dueStoreAndSupply, mem_dueChannel, exists_or, or_assoc]
  · simp only [heldCommand, hcode]
  · repeat' apply And.intro
    all_goals rfl

end Sys2Proof.Machine
end
